-- ==== Sys2Proof/Word.lean ====
section
/-!
DEFINITION. The word types of the DS-420 model.

Bits are bit vectors only where the manual numbers bits or lets a value wrap: bytes of frames and
records, 16-bit counters, sequence numbers and the millisecond timer (0-6).  Everything else is an
`Int` or a `Nat`, because section 0-6 carries all arithmetic wide enough that nothing overflows.
-/

namespace Sys2Proof

/-- One byte of a frame, of a record or of the parameter block. -/
abbrev Byte := BitVec 8

/-- A 16-bit counter, sequence or record field. -/
abbrev Word16 := BitVec 16

/-- A reading of the station's millisecond timer, 0 to 2^32 − 1 (Table 3-1, Table 10-4). -/
abbrev Time := BitVec 32

/-- A motion station by the index of its peer table entry: station number `n` is index `n − 1`. -/
abbrev Station := Fin 8

end Sys2Proof
end

