-- ==== Sys2Proof/Config.lean ====
section
/-!
DEFINITION. What one part fixes outside the rules, and the one free value of the model.

Parameters are no constants of this file: they are read from the parameter block at start-up and
held in `State` (R5, Table 12-11).  The times that the part fixes stand beside the rules that use
them, in `Sys2Proof/Machine/`.
-/

namespace Sys2Proof.Config

/-- The ten bytes that a capture slot to which no sample has been written would read as, as one
number in the layout of Table 12-10.  The manual says nothing of the contents of the sample memory at
power-up, and no rule reads such a slot.  FREE VALUE: it has no body, so nothing can be proved of it
(assumption log entry 7). -/
opaque unwrittenSlot : Nat → BitVec 80

end Sys2Proof.Config
end

