-- ==== Sys2Proof/Syntax.lean ====
section
/-!
DEFINITION. The commands of one DS-420 station: one constructor of `Instr` for each row of
spec/opcode_table.json, with the operands the outside world hands over with the event.

The station has no instruction words.  Its rows are the events of the manual (0-6, "Events"): a
reset, an input edge, a timer running out, a frame arriving.  The operands are what the event brings
from outside: strap levels, memory contents, converter readings, the fields of a received frame.
The rows of the table give no operand fields; the choice of operands is logged (entry 2).
-/

namespace Sys2Proof

/-- The strap pins, read once at each reset (R1): three role straps and four station-number straps,
the highest-numbered pin the most significant bit. -/
structure Straps where
  role : BitVec 3
  station : BitVec 4
  deriving DecidableEq, Repr

/-- The four analog lines as the converter reads them together, 0 to 4095 counts each (R67). -/
structure Analog where
  master : BitVec 12
  armI : BitVec 12
  armV : BitVec 12
  fieldI : BitVec 12
  deriving DecidableEq, Repr

/-- The two quadrature pulse pairs (5-6). -/
inductive PairId where
  | pulseA
  | pulseB
  deriving DecidableEq, Repr

/-- The two lines of a pulse pair (R74). -/
inductive Phase where
  | phase1
  | phase2
  deriving DecidableEq, Repr

/-- The two codes whose clear times R102 keeps. -/
inductive FieldCheck where
  | fieldOvercurrent
  | armatureOvervoltage
  deriving DecidableEq, Repr

/-- The part of a frame header that a row of the table does not fix by its name: the class, source
and destination bits as received (Table 2-1).  The kind follows from the row and the length from the
payload. -/
structure Header where
  cls : BitVec 3
  src : BitVec 4
  dst : BitVec 4
  deriving DecidableEq, Repr

/-- A frame as received whole: header fields and payload bytes (Table 2-1). -/
structure Frame where
  cls : BitVec 3
  src : BitVec 4
  kind : BitVec 4
  dst : BitVec 4
  payload : List Byte
  deriving DecidableEq, Repr

/-- The commands: one constructor per row of spec/opcode_table.json, in the table's order. -/
inductive Instr where
  /-- POWER_ON_RESET (R13): the straps as the card wires them. -/
  | powerOnReset (straps : Straps)
  /-- LOCAL_RESET (R13): the RESET line. -/
  | localReset (straps : Straps)
  /-- PARAMETER_BLOCK_LOADED (R5): the end of the SPI read; the memory's bytes from byte 0 on. -/
  | parameterBlockLoaded (memory : List Byte)
  /-- LISTEN_EXPIRY (R7). -/
  | listenExpiry
  /-- REPORT_TIMER_EXPIRY (R38). -/
  | reportTimerExpiry
  /-- UNCONFIGURED_REPORT_EXPIRY (R5). -/
  | unconfiguredReportExpiry
  /-- REGULATION_INTERVAL_EXPIRY (R67): the raw converter readings of this expiry. -/
  | regulationIntervalExpiry (raw : Analog)
  /-- NEUTRAL_TIME_ELAPSED (R9). -/
  | neutralTimeElapsed
  /-- RUN_PERMIT_RISE (R9). -/
  | runPermitRise
  /-- RUN_PERMIT_FALL (R10). -/
  | runPermitFall
  /-- ACK_RISE (R150). -/
  | ackRise
  /-- LIMIT_RISE (R77, R108). -/
  | limitRise
  /-- LIMIT_FALL (R108). -/
  | limitFall
  /-- HOME_L_RISE (R78). -/
  | homeLRise
  /-- HOME_R_RISE (R78). -/
  | homeRRise
  /-- CONTACTOR_FB_RISE (R128, R131). -/
  | contactorFbRise
  /-- CONTACTOR_FB_FALL (R130, R131). -/
  | contactorFbFall
  /-- WALK_CMD_RISE (R126, R137). -/
  | walkCmdRise
  /-- WALK_CMD_FALL (R134). -/
  | walkCmdFall
  /-- WALK_STOP_RISE (R134, R136). -/
  | walkStopRise
  /-- WALK_STOP_FALL (R136). -/
  | walkStopFall
  /-- WALK_STOP_HOLD_EXPIRY (R136). -/
  | walkStopHoldExpiry
  /-- SUPPLY_OK_FALL (R12). -/
  | supplyOkFall
  /-- SUPPLY_OK_RISE (R12). -/
  | supplyOkRise
  /-- COUNT_EDGE (R74): line `phase` of `pair` changed alone, `us` microseconds into the present
  millisecond step. -/
  | countEdge (pair : PairId) (phase : Phase) (us : Fin 1000)
  /-- QUAD_SKIP (R74): both lines of `pair` changed in one sample. -/
  | quadSkip (pair : PairId)
  /-- TRANSMISSION_START (R17): the first bit time of an idle line. -/
  | transmissionStart
  /-- CONTEST_LOST (R18). -/
  | contestLost
  /-- TRANSMIT_FAILURE (R20). -/
  | transmitFailure
  /-- COMPLETION_EVENT (R19). -/
  | completionEvent
  /-- QUIET_OUT_EXPIRY (R25). -/
  | quietOutExpiry
  /-- FRAME_LENGTH_ABANDONED (R26): the length field read. -/
  | frameLengthAbandoned (length : BitVec 5)
  /-- FRAME_BAD (R26): the frame, the check field and the end field as read. -/
  | frameBad (f : Frame) (check : BitVec 16) (endField : BitVec 4)
  /-- FRAME_OWN_ADDRESS (R27): a good frame that the station did not send. -/
  | frameOwnAddress (f : Frame)
  /-- ADDRESS_CLASH_RETURN_EXPIRY (R27). -/
  | addressClashReturnExpiry
  /-- FRAME_MALFORMED (R28): a good frame. -/
  | frameMalformed (f : Frame)
  /-- STATE_REPORT (R35), received. -/
  | stateReport (h : Header) (payload : List Byte)
  /-- PROPOSE (R54), received. -/
  | propose (h : Header) (payload : List Byte)
  /-- OBJECT (R61), received. -/
  | object (h : Header) (payload : List Byte)
  /-- SEND_LIMIT_EXPIRY (R52). -/
  | sendLimitExpiry
  /-- WINDOW_EXPIRY (R64). -/
  | windowExpiry
  /-- ALARM_NOTICE (R156), received. -/
  | alarmNotice (h : Header) (payload : List Byte)
  /-- KEEP_NOTICE (R167), received. -/
  | keepNotice (h : Header) (payload : List Byte)
  /-- SERVICE_REPLY (R29), received. -/
  | serviceReply (h : Header) (payload : List Byte)
  /-- READ_STATUS (R174): the argument bytes that follow the request code. -/
  | readStatus (h : Header) (args : List Byte)
  /-- READ_PEER (R174). -/
  | readPeer (h : Header) (args : List Byte)
  /-- READ_COUNTERS (R174). -/
  | readCounters (h : Header) (args : List Byte)
  /-- READ_ALARMS (R174). -/
  | readAlarms (h : Header) (args : List Byte)
  /-- ACK_ALARMS (R175). -/
  | ackAlarms (h : Header) (args : List Byte)
  /-- READ_CAPTURE_HEADER (R169). -/
  | readCaptureHeader (h : Header) (args : List Byte)
  /-- READ_CAPTURE_SAMPLES (R169). -/
  | readCaptureSamples (h : Header) (args : List Byte)
  /-- RELEASE_CAPTURE (R169). -/
  | releaseCapture (h : Header) (args : List Byte)
  /-- FORCE_DERATE (R143). -/
  | forceDerate (h : Header) (args : List Byte)
  /-- SERVICE_REQUEST_UNKNOWN_CODE (R173): a request code outside 1 to 9 and what follows it. -/
  | serviceRequestUnknownCode (h : Header) (code : Byte) (args : List Byte)
  /-- ENTRY_GOES_STALE (R36): the entry whose age has passed STALE_LIMIT. -/
  | entryGoesStale (n : Station)
  /-- ENTRY_GOES_ABSENT (R36): the entry whose age has passed LOST_LIMIT. -/
  | entryGoesAbsent (n : Station)
  /-- TACH_EXCESS_EXPIRY (R81). -/
  | tachExcessExpiry
  /-- TACH_RECOVERY_EXPIRY (R81). -/
  | tachRecoveryExpiry
  /-- BRAKE_SET_TIME_EXPIRY (R98). -/
  | brakeSetTimeExpiry
  /-- BRAKE_DISAGREE_EXPIRY (R100). -/
  | brakeDisagreeExpiry
  /-- BRAKE_AGREE_EXPIRY (R100). -/
  | brakeAgreeExpiry
  /-- FIELD_LOSS_TIME_EXPIRY (R101). -/
  | fieldLossTimeExpiry
  /-- FIELD_LOSS_CLEAR_EXPIRY (R101). -/
  | fieldLossClearExpiry
  /-- OVERCURRENT_CLEAR_EXPIRY (R102): the code whose clear time has run. -/
  | overcurrentClearExpiry (which : FieldCheck)
  /-- BOOM_OVERLOAD_TIME_EXPIRY (R110). -/
  | boomOverloadTimeExpiry
  /-- SWING_REST_EXPIRY (R115). -/
  | swingRestExpiry
  /-- DERATE_PERSISTENCE_EXPIRY (R142). -/
  | deratePersistenceExpiry
  /-- SUPPLY_LIMIT_EXPIRY (R127). -/
  | supplyLimitExpiry
  /-- TRANSFER_LIMIT_EXPIRY (R128). -/
  | transferLimitExpiry
  /-- RETURN_LIMIT_EXPIRY (R130). -/
  | returnLimitExpiry
  /-- CLOSED_FEEDBACK_LIMIT_EXPIRY (R131). -/
  | closedFeedbackLimitExpiry
  /-- END_TIME_EXPIRY (R138). -/
  | endTimeExpiry
  /-- POST_END (R165). -/
  | postEnd
  /-- DECISION_ENTRY_DUE (R166). -/
  | decisionEntryDue
  /-- KEEP_DEADLINE_EXPIRY (R167): the block whose keep deadline has run. -/
  | keepDeadlineExpiry (block : Fin 8)
  /-- BRAKE_FB_EDGE (R79): the new debounced level of BRAKE_FB. -/
  | brakeFbEdge (level : Bool)
  deriving DecidableEq, Repr

end Sys2Proof
end

