-- ==== Sys2Proof/Decode.lean ====
section
/-!
DEFINITION. The decoder of the opcode table's words.  No row of spec/opcode_table.json gives bits: the
station has no instruction words, and its commands are events (0-6).  So no word spells a command.
-/

namespace Sys2Proof

/-- The command that the `nbits` low bits of `w` spell by the table: none, since no row gives bits. -/
def decodeTableWord (_nbits _w : Nat) : Option Instr := none

end Sys2Proof
end

