-- ==== Sys2Proof/Machine/State.lean ====
section
/-!
DEFINITION. The state of one DS-420 station, as plain data, and its value after reset.

One structure per block of Table 0-2, in the manual's names.  Every timer is the reading of the
millisecond timer at which it was started, or `none` while it is stopped; the station's millisecond
timer is `State.now`.
-/

namespace Sys2Proof.Machine

/-! ### Names of the manual -/

/-- The four roles (Table 1-1). -/
inductive Role where
  | hoist
  | drag
  | swing
  | walk
  deriving DecidableEq, Repr

/-- The place of a station in its role (R6). -/
inductive Place where
  | lead
  | follow
  | solo
  deriving DecidableEq, Repr

/-- The five station modes (Table 1-3). -/
inductive Mode where
  | loading
  | listen
  | hold
  | run
  | stop
  deriving DecidableEq, Repr

/-- The kind of the last reset (R13). -/
inductive RestartFlag where
  | powerOn
  | localReset
  deriving DecidableEq, Repr

/-- The hold causes (Table 1-4). -/
inductive HoldCause where
  | restart
  | pictureIncomplete
  | peerStop
  | localTrip
  | linkFault
  | walkActive
  | partnerLost
  | roleConflict
  deriving DecidableEq, Repr

/-- Alarm severities (10-1). -/
inductive Severity where
  | warn
  | trip
  | stop
  deriving DecidableEq, Repr

/-- The 27 alarm codes, in the order of Table 10-1. -/
inductive AlarmCode where
  | configBad
  | addressClash
  | supplyLow
  | roleConflict
  | roleMismatch
  | peerStale
  | peerLost
  | linkFault
  | unlistedStation
  | consentRefused
  | swingWithdrawn
  | fieldLoss
  | fieldOvercurrent
  | armatureOvervoltage
  | tachFault
  | brakeFault
  | overheat
  | derateActive
  | twoBlock
  | boomOverload
  | transferFail
  | camSkew
  | walkForcedStop
  | walkAborted
  | followLost
  | captureFull
  | sectorStop
  deriving DecidableEq, Repr

/-- The annunciator states of one code (R147). -/
inductive AnnState where
  | normal
  | activeUnack
  | activeAck
  | returnedUnack
  deriving DecidableEq, Repr

/-- The events of the alarm list (Table 10-4). -/
inductive ListEvent where
  | raised
  | returned
  | acknowledged
  | peerNotice
  deriving DecidableEq, Repr

/-- What a lamp shows (R153). -/
inductive Lamp where
  | off
  | steady
  | flashing
  deriving DecidableEq, Repr

/-- The field direction output (R95). -/
inductive FieldDir where
  | forward
  | reverse
  deriving DecidableEq, Repr

/-- The two kinds of proposal (Table 4-1). -/
inductive ProposalKind where
  | swingRelease
  | walkStart
  deriving DecidableEq, Repr

/-- Where a proposal stands (Table 4-3); `idle` is the manual's NONE. -/
inductive ProposalStatus where
  | idle
  | pending
  | active
  | withdrawing
  deriving DecidableEq, Repr

/-- The objection reasons (Table 4-5). -/
inductive Reason where
  | stationStop
  | bucketInDig
  | walkSupply
  | walking
  | bucketNotGrounded
  | swingFree
  | dragNotReady
  | contending
  deriving DecidableEq, Repr

/-- The status of a peer table entry (Table 3-1). -/
inductive EntryStatus where
  | absent
  | fresh
  | stale
  deriving DecidableEq, Repr

/-- The swing states (Figure 7-1). -/
inductive SwingState where
  | locked
  | proposing
  | free
  | withdrawing
  deriving DecidableEq, Repr

/-- The drag supply states (Table 8-3). -/
inductive SupplyState where
  | normal
  | transferring
  | walkSupply
  | returning
  deriving DecidableEq, Repr

/-- The walk states (Table 8-2). -/
inductive WalkState where
  | idle
  | proposing
  | transfer
  | stepping
  | stopping
  | halted
  | forced
  | returning
  deriving DecidableEq, Repr

/-- The regions of the cam revolution (R123). -/
inductive Region where
  | reach
  | lift
  | carry
  | settle
  | back
  deriving DecidableEq, Repr

/-- The two phases of STOPPING (R134). -/
inductive StopPhase where
  | creep
  | ramp
  deriving DecidableEq, Repr

/-- The states of a capture block (Table 11-2). -/
inductive BlockState where
  | free
  | recording
  | post
  | awaitKeep
  | kept
  deriving DecidableEq, Repr

/-- A timer: the millisecond timer reading it was started at, or `none` while it is stopped. -/
abbrev Timer := Option Time

/-! ### Inputs and outputs (Table 0-3) -/

/-- A quadrature pair's two lines (R74). -/
structure PairLines where
  phase1 : Bool
  phase2 : Bool
  deriving DecidableEq, Repr

/-- The input lines as they stand at the pins.  They belong to the world outside; an input command
brings the level or reading it was taken from with it.  SUPPLY_OK is sampled eight times in a millisecond
(R80): `supplyDip` has bit j set where its sample j of the millisecond finds the line at the other level
than `supplyOk`. -/
structure Pins where
  analog : Analog
  pulseA : PairLines
  pulseB : PairLines
  runPermit : Bool
  ack : Bool
  limit : Bool
  brakeFb : Bool
  contactorFb : Bool
  walkCmd : Bool
  walkStop : Bool
  homeL : Bool
  homeR : Bool
  supplyOk : Bool
  supplyDip : BitVec 8
  deriving DecidableEq, Repr

/-- The output lines.  `fieldPwm` is the pulse duty in per mille (R95), `brakeSet` the BRAKE output,
`transferClosed` the TRANSFER output. -/
structure Outputs where
  fieldPwm : Nat
  fieldDir : FieldDir
  brakeSet : Bool
  transferClosed : Bool
  lampWarn : Lamp
  lampTrip : Lamp
  horn : Bool
  deriving DecidableEq, Repr

/-! ### Station control (chapter 1) -/

/-- The parameters in the order of Table 12-11, and nothing of the block's framing.  Choice fields
hold their coded value. -/
structure Params where
  reportInterval : Nat
  staleLimit : Nat
  lostLimit : Nat
  objectionWindow : Nat
  regInterval : Nat
  digTension : Nat
  groundTension : Nat
  zeroBand : Nat
  walkDerateMax : Nat
  msCentre : Nat
  armIPed : Nat
  armVPed : Nat
  fieldIPed : Nat
  vbEnable : Nat
  iScale : Nat
  vScale : Nat
  fScale : Nat
  tensionTable : List Nat
  speedK : Nat
  countsPerM : Nat
  homePayout : Nat
  countsPerTurn : Nat
  tachTol : Nat
  msDead : Nat
  msSpan : Nat
  pSlow : Nat
  pStop : Nat
  dSlow : Nat
  dStop : Nat
  creep : Nat
  accRate : Nat
  decRate : Nat
  holdDecRate : Nat
  ratedLimit : Nat
  clGain : Nat
  shareGain : Nat
  shareMax : Nat
  soloSpeed : Nat
  brakeSetDelay : Nat
  fieldMin : Nat
  fieldMax : Nat
  armVMax : Nat
  boomLimit : Nat
  boomTable : List Nat
  dMax : Nat
  boomGain : Nat
  staleCreep : Nat
  swingSetDelay : Nat
  sectorEnable : Nat
  sLo : Nat
  sHi : Nat
  dFull : Nat
  sectorMargin : Nat
  shoeDown : Nat
  liftOff : Nat
  tubDown : Nat
  shoeUp : Nat
  homeBand : Nat
  phaseSpeed : List Nat
  walkAcc : Nat
  walkDec : Nat
  walkCreep : Nat
  skewGain : Nat
  skewTrimMax : Nat
  skewStop : Nat
  walkEndDelay : Nat
  heatShift : Nat
  hTrip : Nat
  hReset : Nat
  hStop : Nat
  warnMask : BitVec 32
  noticeWarn : Nat
  armMask : BitVec 32
  blocks : Nat
  postSamples : Nat
  ct1 : Nat
  ct2 : Nat
  ct3 : Nat
  ct4 : Nat
  glitch : Nat
  keepWindow : Nat
  deriving DecidableEq, Repr

/-- One roster entry: a station and the role it is expected to report (1-3). -/
structure RosterEntry where
  station : Station
  role : Role
  deriving DecidableEq, Repr

/-- The hold-cause set (R8): each cause present or absent. -/
structure HoldCauses where
  restart : Bool
  pictureIncomplete : Bool
  peerStop : Bool
  localTrip : Bool
  linkFault : Bool
  walkActive : Bool
  partnerLost : Bool
  roleConflict : Bool
  deriving DecidableEq, Repr

/-- Station control (Table 1-5).  `straps` is `none` while unread, `params` and `place` are `none`
before a good load.  `reportTimer` serves both the report timer of R7 and the fixed 50 ms timer of
an unconfigured STOP (R5). -/
structure StationControl where
  mode : Mode
  straps : Option Straps
  params : Option Params
  roster : List RosterEntry
  place : Option Place
  causes : HoldCauses
  listenTimer : Timer
  neutralSince : Timer
  reportTimer : Timer
  reportSeq : BitVec 4
  restart : RestartFlag
  deriving DecidableEq, Repr

/-! ### Link controller (chapter 2) and frame contents (chapter 12) -/

/-- The fields of a state report beside its sequence and role (Table 12-6, bytes 1 to 22), coded as
on the line.  A peer entry keeps them as received (R33, Table 3-2). -/
structure ReportFields where
  mode : BitVec 2
  holdFlag : Bool
  brakeSet : Bool
  summary : BitVec 2
  derate : Byte
  speedRef : Word16
  speed : Word16
  current : Word16
  tension : Word16
  position : Word16
  phase : Byte
  supply : Byte
  propNumber : Byte
  propKind : BitVec 4
  propStatus : BitVec 4
  echoProposer : Byte
  echoNumber : Byte
  refLeft : Word16
  refRight : Word16
  deriving DecidableEq, Repr

/-- A frame one of the station's blocks has asked to send, with its contents (Table 2-2, 12-4). -/
inductive OutFrame where
  | stateReport (seq : BitVec 4) (role : BitVec 3) (fields : ReportFields)
  | propose (number : Byte) (kind : ProposalKind)
  | object (proposer : Station) (number : Byte) (reason : Reason)
  | alarmNotice (code : AlarmCode) (value : Word16) (armFlag : Bool) (armSeq : Word16)
  | keepNotice (armStation : Station) (armSeq : Word16)
  | serviceReply (code : Byte) (status : Byte) (data : List Byte)
  deriving DecidableEq, Repr

/-- One place of the transmit queue (2-4).  `replaced` marks a state report whose contents were
replaced while it was in transmission (R22). -/
structure Queued where
  frame : OutFrame
  joined : Time
  inTx : Bool
  replaced : Bool
  deriving DecidableEq, Repr

/-- A transmission under way: the frame it began with and the bits it drives, from the start bit to
the end field, `false` dominant and `true` recessive (R15, R17). -/
structure Transmission where
  frame : OutFrame
  bits : List Bool
  deriving DecidableEq, Repr

/-- The link controller (Table 2-7).  The line driver is released while `sending` is `none`. -/
structure LinkController where
  queue : List Queued
  sending : Option Transmission
  receiveBuffer : Option Frame
  failCount : Nat
  quietOut : Timer
  clashTimer : Timer
  rxBad : Word16
  rxMalformed : Word16
  txDropped : Word16
  txFail : Word16
  arbLost : Word16
  deriving DecidableEq, Repr

/-! ### Peer table (chapter 3) -/

/-- One entry of the peer table (Table 3-1).  `heard` tells whether the arrival time was ever set
(R174); `expected`, `place` and `unlisted` are frozen at the good load (R31). -/
structure PeerEntry where
  status : EntryStatus
  role : BitVec 3
  lastSeq : BitVec 4
  arrival : Time
  heard : Bool
  fields : ReportFields
  gaps : Word16
  dups : Word16
  staleMark : Bool
  lostMark : Bool
  mismatchMark : Bool
  changeMark : Bool
  stopMark : Bool
  unlisted : Bool
  expected : Option Role
  place : Option Place
  deriving DecidableEq, Repr

/-- The peer table: eight entries, and whether a role conflict is present (R44). -/
structure PeerTable where
  entries : Vector PeerEntry 8
  conflict : Bool
  deriving DecidableEq, Repr

/-! ### Consent engine (chapter 4) -/

/-- The own proposal record with its two timers (Table 4-3, R47). -/
structure OwnRecord where
  number : Byte
  kind : Option ProposalKind
  status : ProposalStatus
  queueTime : Time
  windowStart : Timer
  echoSeen : Vector Bool 8
  objected : Option (Station × Reason)
  sendLimit : Timer
  windowTimer : Timer
  deriving DecidableEq, Repr

/-- The held proposal of another station (R48). -/
structure HeldRecord where
  proposer : Station
  number : Byte
  kind : ProposalKind
  reported : ProposalStatus
  confirmed : Bool
  objecting : Bool
  deriving DecidableEq, Repr

/-- The consent engine (Table 4-8). -/
structure ConsentEngine where
  own : OwnRecord
  held : Option HeldRecord
  lateObject : Word16
  deriving DecidableEq, Repr

/-! ### Measurement unit (chapter 5) -/

/-- A debounced or filtered input: its value and its run count (R79, R80). -/
structure Debounced where
  value : Bool
  run : Nat
  deriving DecidableEq, Repr

/-- A pulse pair's period timer, direction memory and held period (R75).  `count` is the timer's
reading at `since` microseconds into the present millisecond step; `edgeSeen` tells whether an edge
has come since the good load. -/
structure PulseTimer where
  forward : Bool
  held : Option Nat
  count : Nat
  since : Nat
  edgeSeen : Bool
  deriving DecidableEq, Repr

/-- The measurement unit (Table 5-9).  `quiet` tells whether the conditions of R70 held at the end of
the last expiry. -/
structure Measurement where
  regTimer : Timer
  master : Int
  armV : Int
  vb : Int
  current : Int
  tension : Nat
  voltageSpeed : Int
  fieldCurrent : Int
  speedA : Int
  speedB : Int
  payCount : Word16
  turnA : Nat
  turnB : Nat
  homedA : Bool
  homedB : Bool
  payout : Nat
  angleA : Nat
  angleB : Nat
  timerA : PulseTimer
  timerB : PulseTimer
  quadSkip : Word16
  runPermit : Debounced
  ack : Debounced
  limit : Debounced
  brakeFb : Debounced
  contactorFb : Debounced
  walkCmd : Debounced
  walkStop : Debounced
  homeL : Debounced
  homeR : Debounced
  supplyOk : Debounced
  tachRaised : Bool
  tachExcess : Timer
  tachRecovery : Timer
  quiet : Bool
  deriving DecidableEq, Repr

/-! ### Drive regulator (chapter 6) -/

/-- The drive regulator (Table 6-6).  The duty last put out is signed; its magnitude and direction
stand on the outputs.  The `…Raised` flags tell which of two cases each check is in. -/
structure DriveRegulator where
  reference : Int
  command : Int
  target : Int
  trim : Int
  duty : Int
  setTime : Timer
  brakeFaultRaised : Bool
  disagreeTime : Timer
  agreeTime : Timer
  fieldLossRaised : Bool
  lossTime : Timer
  lossClear : Timer
  overcurrentRaised : Bool
  overcurrentClear : Timer
  overvoltageRaised : Bool
  overvoltageClear : Timer
  partnerMark : Bool
  deriving DecidableEq, Repr

/-! ### Role logic (chapters 7 and 8) -/

/-- Role logic of a hoist, drag or swing station (Table 7-5, Table 8-7).  `phase` is the phase code
of the last expiry (R106); `withdrawnBy` is the objector and reason passed with a withdrawal
(R116). -/
structure RoleLogic where
  phase : Nat
  overloadTime : Timer
  overloadRaised : Bool
  boomExcess : Int
  swing : SwingState
  restTime : Timer
  prevCommand : Int
  heldForward : Bool
  heldReverse : Bool
  withdrawnBy : Option (Station × Reason)
  supply : SupplyState
  transferLimit : Timer
  returnLimit : Timer
  closedLimit : Timer
  closedFailed : Bool
  deriving DecidableEq, Repr

/-! ### Walk sequencer (chapter 8) -/

/-- The forced-cause set (R136). -/
structure ForcedCauses where
  walkStopHold : Bool
  supply : Bool
  stop : Bool
  deriving DecidableEq, Repr

/-- The walk sequencer (Table 8-7).  `region` is `none` while unknown (R124); `prevAngle` and
`prevHomed` are the left cam angle and homed flag of the previous expiry (R125), `prevHomedRight` the right
cam's homed flag then (R124). -/
structure WalkSequencer where
  state : WalkState
  reference : Int
  left : Nat
  right : Nat
  stepCount : BitVec 32
  region : Option Region
  offHome : Bool
  supplyLimit : Timer
  endTime : Timer
  stopHold : Timer
  phase : Option StopPhase
  forced : ForcedCauses
  skewRaised : Bool
  prevAngle : Nat
  prevHomed : Bool
  prevHomedRight : Bool
  deriving DecidableEq, Repr

/-! ### Heat monitor (chapter 9) -/

/-- The persistence timer: stopped, or running in a direction since a reading (R140). -/
inductive Persistence where
  | stopped
  | rising (since : Time)
  | falling (since : Time)
  deriving DecidableEq, Repr

/-- The heat monitor (Table 9-2). -/
structure HeatMonitor where
  heat : Nat
  level : Nat
  persistence : Persistence
  forced : Nat
  effective : Nat
  overheatRaised : Bool
  deriving DecidableEq, Repr

/-! ### Alarm unit (chapter 10) -/

/-- One alarm list entry (Table 10-4).  `source` is the station number, 0 before the straps are
read. -/
structure AlarmEntry where
  seq : Word16
  time : Time
  code : AlarmCode
  event : ListEvent
  value : Word16
  source : BitVec 4
  deriving DecidableEq, Repr

/-- The alarm unit (Table 10-5). -/
structure AlarmUnit where
  table : Vector AnnState 27
  list : List AlarmEntry
  nextSeq : Word16
  listOverrun : Word16
  armSeq : Word16
  deriving DecidableEq, Repr

/-! ### Capture store (chapter 11) -/

/-- An arm id: the arming station and its arm sequence (R159). -/
structure ArmId where
  station : Station
  seq : Word16
  deriving DecidableEq, Repr

/-- One sample record (Table 12-10). -/
structure Sample where
  delta : Nat
  ch1 : Int
  ch2 : Int
  ch3 : Int
  ch4 : Nat
  brakeSet : Bool
  hold : Bool
  level : Nat
  deriving DecidableEq, Repr

/-- One capture block: its state, header and the values kept beside the header (R159).  `oldest` is
a slot of the store, 0 to 2047. -/
structure CaptureBlock where
  state : BlockState
  armId : Option ArmId
  armCode : Option AlarmCode
  armTime : Time
  stored : Nat
  armIndex : Nat
  oldest : Nat
  complete : Bool
  post : Nat
  keepMark : Bool
  keepDeadline : Timer
  awaitSince : Time
  deriving DecidableEq, Repr

/-- One decision list entry (R166). -/
structure Decision where
  armId : ArmId
  code : AlarmCode
  mergedInto : Option ArmId
  count : Nat
  deriving DecidableEq, Repr

/-- The exceed counts of the four channels (R163). -/
structure ExceedCounts where
  c1 : Nat
  c2 : Nat
  c3 : Nat
  c4 : Nat
  deriving DecidableEq, Repr

/-- The capture store (Table 11-4).  `slots` lists the slots that hold a sample, slot numbers
strictly rising; `last` is the last sample stored in the write block and `sinceLast` the regulation
intervals since then. -/
structure CaptureStore where
  blocks : List CaptureBlock
  slots : List (Nat × Sample)
  kept : List Nat
  exceed : ExceedCounts
  last : Option Sample
  sinceLast : Nat
  decisions : List Decision
  armCount : Word16
  armsMerged : Word16
  armsIgnored : Word16
  lateKeep : Word16
  fullRaised : Bool
  deriving DecidableEq, Repr

/-! ### The whole station -/

/-- One station.  `pending` is the queue of commands that wait, first in first out; it belongs to the
model's host interface and not to the part. -/
structure State where
  now : Time
  pins : Pins
  out : Outputs
  ctl : StationControl
  link : LinkController
  peers : PeerTable
  consent : ConsentEngine
  meas : Measurement
  drive : DriveRegulator
  role : RoleLogic
  walk : WalkSequencer
  heat : HeatMonitor
  alarm : AlarmUnit
  capture : CaptureStore
  slotFull : Bool
  pending : List Instr
  deriving DecidableEq, Repr

/-- Reasons for a fault.  There are none: the manual gives every event of a station an effect, and no
event stops the station, so the type has no value. -/
inductive Fault where
  deriving DecidableEq, Repr

/-- Reasons for a refusal. -/
inductive Refusal where
  /-- A command that has no meaning yet, by its mnemonic.  Raised only by an arm of `exec` that is
  still rejected by name; safe, since the model stops where the part goes on.  No arm raises it. -/
  | notModelled (mnemonic : String)
  deriving DecidableEq, Repr

/-! ### Reset values

Where a table of the manual gives the value, the table is cited; the rest are logged in entries 5
and 6. -/

/-- All report fields 0 (R31). -/
def ReportFields.zero : ReportFields where
  mode := 0
  holdFlag := false
  brakeSet := false
  summary := 0
  derate := 0
  speedRef := 0
  speed := 0
  current := 0
  tension := 0
  position := 0
  phase := 0
  supply := 0
  propNumber := 0
  propKind := 0
  propStatus := 0
  echoProposer := 0
  echoNumber := 0
  refLeft := 0
  refRight := 0

/-- The empty hold-cause set (Table 1-5). -/
def HoldCauses.empty : HoldCauses where
  restart := false
  pictureIncomplete := false
  peerStop := false
  localTrip := false
  linkFault := false
  walkActive := false
  partnerLost := false
  roleConflict := false

/-- The safe outputs of Table 1-5 and Table 6-6, lamps and horn off (Table 10-5). -/
def Outputs.reset : Outputs where
  fieldPwm := 0
  fieldDir := .forward
  brakeSet := true
  transferClosed := false
  lampWarn := .off
  lampTrip := .off
  horn := false

/-- Input lines with every contact open, the supply good and the rest low.  The manual gives the world
outside no value (entry 5). -/
def Pins.reset : Pins where
  analog := ⟨0, 0, 0, 0⟩
  pulseA := ⟨false, false⟩
  pulseB := ⟨false, false⟩
  runPermit := false
  ack := false
  limit := false
  brakeFb := false
  contactorFb := false
  walkCmd := false
  walkStop := false
  homeL := false
  homeR := false
  supplyOk := true
  supplyDip := 0

/-- Table 1-5. -/
def StationControl.reset : StationControl where
  mode := .loading
  straps := none
  params := none
  roster := []
  place := none
  causes := HoldCauses.empty
  listenTimer := none
  neutralSince := none
  reportTimer := none
  reportSeq := 0
  restart := .powerOn

/-- Table 2-7. -/
def LinkController.reset : LinkController where
  queue := []
  sending := none
  receiveBuffer := none
  failCount := 0
  quietOut := none
  clashTimer := none
  rxBad := 0
  rxMalformed := 0
  txDropped := 0
  txFail := 0
  arbLost := 0

/-- R31. -/
def PeerEntry.reset : PeerEntry where
  status := .absent
  role := 0
  lastSeq := 0
  arrival := 0
  heard := false
  fields := ReportFields.zero
  gaps := 0
  dups := 0
  staleMark := false
  lostMark := false
  mismatchMark := false
  changeMark := false
  stopMark := false
  unlisted := false
  expected := none
  place := none

/-- R31. -/
def PeerTable.reset : PeerTable where
  entries := Vector.replicate 8 PeerEntry.reset
  conflict := false

/-- Table 4-8, R47. -/
def OwnRecord.reset : OwnRecord where
  number := 0
  kind := none
  status := .idle
  queueTime := 0
  windowStart := none
  echoSeen := Vector.replicate 8 false
  objected := none
  sendLimit := none
  windowTimer := none

/-- Table 4-8. -/
def ConsentEngine.reset : ConsentEngine where
  own := OwnRecord.reset
  held := none
  lateObject := 0

/-- A debounced contact after reset: low, run count 0 (Table 5-9). -/
def Debounced.low : Debounced := ⟨false, 0⟩

/-- Table 5-9: stopped, held period none, direction memory forward. -/
def PulseTimer.reset : PulseTimer where
  forward := true
  held := none
  count := 0
  since := 0
  edgeSeen := false

/-- Table 5-9. -/
def Measurement.reset : Measurement where
  regTimer := none
  master := 0
  armV := 0
  vb := 0
  current := 0
  tension := 0
  voltageSpeed := 0
  fieldCurrent := 0
  speedA := 0
  speedB := 0
  payCount := 0
  turnA := 0
  turnB := 0
  homedA := false
  homedB := false
  payout := 0
  angleA := 0
  angleB := 0
  timerA := PulseTimer.reset
  timerB := PulseTimer.reset
  quadSkip := 0
  runPermit := Debounced.low
  ack := Debounced.low
  limit := Debounced.low
  brakeFb := Debounced.low
  contactorFb := Debounced.low
  walkCmd := Debounced.low
  walkStop := Debounced.low
  homeL := Debounced.low
  homeR := Debounced.low
  supplyOk := ⟨true, 0⟩
  tachRaised := false
  tachExcess := none
  tachRecovery := none
  quiet := false

/-- Table 6-6. -/
def DriveRegulator.reset : DriveRegulator where
  reference := 0
  command := 0
  target := 0
  trim := 0
  duty := 0
  setTime := none
  brakeFaultRaised := false
  disagreeTime := none
  agreeTime := none
  fieldLossRaised := false
  lossTime := none
  lossClear := none
  overcurrentRaised := false
  overcurrentClear := none
  overvoltageRaised := false
  overvoltageClear := none
  partnerMark := false

/-- Table 7-5 and, for the supply, Table 8-7. -/
def RoleLogic.reset : RoleLogic where
  phase := 0
  overloadTime := none
  overloadRaised := false
  boomExcess := 0
  swing := .locked
  restTime := none
  prevCommand := 0
  heldForward := false
  heldReverse := false
  withdrawnBy := none
  supply := .normal
  transferLimit := none
  returnLimit := none
  closedLimit := none
  closedFailed := false

/-- Table 8-7. -/
def WalkSequencer.reset : WalkSequencer where
  state := .idle
  reference := 0
  left := 0
  right := 0
  stepCount := 0
  region := none
  offHome := false
  supplyLimit := none
  endTime := none
  stopHold := none
  phase := none
  forced := ⟨false, false, false⟩
  skewRaised := false
  prevAngle := 0
  prevHomed := false
  prevHomedRight := false

/-- Table 9-2. -/
def HeatMonitor.reset : HeatMonitor where
  heat := 0
  level := 0
  persistence := .stopped
  forced := 0
  effective := 0
  overheatRaised := false

/-- Table 10-5. -/
def AlarmUnit.reset : AlarmUnit where
  table := Vector.replicate 27 .normal
  list := []
  nextSeq := 0
  listOverrun := 0
  armSeq := 0

/-- Table 11-4, power-on column.  How many blocks there are is known at the good load only. -/
def CaptureStore.reset : CaptureStore where
  blocks := []
  slots := []
  kept := []
  exceed := ⟨0, 0, 0, 0⟩
  last := none
  sinceLast := 0
  decisions := []
  armCount := 0
  armsMerged := 0
  armsIgnored := 0
  lateKeep := 0
  fullRaised := false

/-- The station right after a power-on reset, before the strap read that opens LOADING (Table 1-5 and
the reset table of every chapter). -/
def State.reset : State where
  now := 0
  pins := Pins.reset
  out := Outputs.reset
  ctl := StationControl.reset
  link := LinkController.reset
  peers := PeerTable.reset
  consent := ConsentEngine.reset
  meas := Measurement.reset
  drive := DriveRegulator.reset
  role := RoleLogic.reset
  walk := WalkSequencer.reset
  heat := HeatMonitor.reset
  alarm := AlarmUnit.reset
  capture := CaptureStore.reset
  slotFull := false
  pending := []

end Sys2Proof.Machine
end

