-- ==== Sys2Proof/Machine/Operands.lean ====
section
/-!
DEFINITION. Codes, byte layouts and frames: how values are coded in parameters, frames and records
(Table 1-1, Table 2-1, Table 2-2, chapter 12), the cyclic check (R3), and the bits of a frame on the
line (R15).
-/

namespace Sys2Proof.Machine

/-! ### Bytes and words -/

/-- Byte `i` of a byte list, 0 past its end. -/
def byteAt (l : List Byte) (i : Nat) : Byte := l.getD i 0

/-- A 16-bit field, high byte first (12-4). -/
def word16At (l : List Byte) (i : Nat) : Word16 := byteAt l i ++ byteAt l (i + 1)

/-- A 16-bit field as bytes, high byte first (12-4). -/
def bytes16 (w : Word16) : List Byte := [w.extractLsb' 8 8, w.extractLsb' 0 8]

/-- A 32-bit field as bytes, high byte first (12-4). -/
def bytes32 (w : BitVec 32) : List Byte :=
  [w.extractLsb' 24 8, w.extractLsb' 16 8, w.extractLsb' 8 8, w.extractLsb' 0 8]

/-- A small number as one byte. -/
def byteOf (n : Nat) : Byte := BitVec.ofNat 8 n

/-- An unsigned number as a 16-bit field. -/
def unsigned16 (n : Nat) : Word16 := BitVec.ofNat 16 n

/-- A signed number as a 16-bit field, two's complement (12-4). -/
def signed16 (x : Int) : Word16 := BitVec.ofInt 16 x

/-- One bit as a byte with that bit number (12-4: bit 0 is the least significant). -/
def bitByte (b : Bool) (k : Nat) : Byte := if b then 1#8 <<< k else 0

/-- The bits of a field, most significant first (R14). -/
def msbFirst {n : Nat} (w : BitVec n) : List Bool := (List.range n).map fun i => w.getMsbD i

/-! ### Integer arithmetic of section 0-6 -/

/-- Clamped to `lo..hi` (0-6). -/
def clamp (lo hi x : Int) : Int := if x < lo then lo else if hi < x then hi else x

/-- Moves `x` toward `goal` by `step`, not past it (0-6). -/
def moveToward (x goal step : Int) : Int :=
  if x < goal then min (x + step) goal else if goal < x then max (x - step) goal else x

/-- A 16-bit saturating counter, one up (0-6). -/
def satInc (c : Word16) : Word16 := if c = 0xFFFF#16 then c else c + 1

/-- A 16-bit saturating counter, `n` up (0-6). -/
def satAdd (c : Word16) (n : Nat) : Word16 := BitVec.ofNat 16 (min 65535 (c.toNat + n))

/-- A 16-bit value that counts 1 to 65 535, with 0 and 65 535 both followed by 1 (R157). -/
def nextNonzero16 (c : Word16) : Word16 := if c = 0xFFFF#16 then 1 else c + 1

/-- A proposal number's successor: 0 and 255 are followed by 1 (R50). -/
def nextNumber (n : Byte) : Byte := if n = 255 then 1 else n + 1

/-! ### The cyclic check (R3) -/

/-- One bit into the running value: polynomial x^16 + x^12 + x^5 + 1. -/
def crcBit (c : BitVec 16) (b : Bool) : BitVec 16 :=
  if (c.msb ^^ b) then (c <<< 1) ^^^ 0x1021#16 else c <<< 1

/-- The check value over a bit stream: starts at all ones, not inverted at the end. -/
def crc (bits : List Bool) : BitVec 16 := bits.foldl crcBit 0xFFFF#16

/-- The bit stream of a byte list, each byte most significant bit first. -/
def bitsOfBytes (l : List Byte) : List Bool := l.flatMap fun b => msbFirst b

/-! ### Roles, stations and straps (Table 1-1) -/

/-- The role code of Table 1-1. -/
def Role.code : Role → Nat
  | .hoist => 1
  | .drag => 2
  | .swing => 3
  | .walk => 4

/-- The role of a code, `none` where Table 1-1 calls it invalid. -/
def Role.ofCode (n : Nat) : Option Role :=
  if n = 1 then some .hoist
  else if n = 2 then some .drag
  else if n = 3 then some .swing
  else if n = 4 then some .walk
  else none

/-- A role as the three bits of a state report. -/
def Role.bits (r : Role) : BitVec 3 := BitVec.ofNat 3 r.code

/-- The station number, 1 to 8. -/
def stationNumber (st : Station) : Nat := st.val + 1

/-- The station number as an address field. -/
def stationAddress (st : Station) : BitVec 4 := BitVec.ofNat 4 (stationNumber st)

/-- The station with number `n`, if `n` is 1 to 8. -/
def stationOf (n : Nat) : Option Station :=
  if h : 1 ≤ n ∧ n ≤ 8 then some ⟨n - 1, by omega⟩ else none

/-- All station numbers, lowest first. -/
def allStations : List Station := [0, 1, 2, 3, 4, 5, 6, 7]

/-- The role the straps give, if valid (Table 1-1). -/
def strapRole (x : Straps) : Option Role := Role.ofCode x.role.toNat

/-- The station number the straps give, if valid (Table 1-1). -/
def strapStation (x : Straps) : Option Station := stationOf x.station.toNat

/-- Both strap values valid by Table 1-1 (R1). -/
def strapsValid (x : Straps) : Bool := (strapRole x).isSome && (strapStation x).isSome

/-! ### Alarm codes (Table 10-1) -/

/-- The code's index in the annunciator table: its number less 1. -/
def AlarmCode.index : AlarmCode → Fin 27
  | .configBad => 0
  | .addressClash => 1
  | .supplyLow => 2
  | .roleConflict => 3
  | .roleMismatch => 4
  | .peerStale => 5
  | .peerLost => 6
  | .linkFault => 7
  | .unlistedStation => 8
  | .consentRefused => 9
  | .swingWithdrawn => 10
  | .fieldLoss => 11
  | .fieldOvercurrent => 12
  | .armatureOvervoltage => 13
  | .tachFault => 14
  | .brakeFault => 15
  | .overheat => 16
  | .derateActive => 17
  | .twoBlock => 18
  | .boomOverload => 19
  | .transferFail => 20
  | .camSkew => 21
  | .walkForcedStop => 22
  | .walkAborted => 23
  | .followLost => 24
  | .captureFull => 25
  | .sectorStop => 26

/-- All codes in increasing code order. -/
def allCodes : List AlarmCode :=
  [.configBad, .addressClash, .supplyLow, .roleConflict, .roleMismatch, .peerStale, .peerLost,
   .linkFault, .unlistedStation, .consentRefused, .swingWithdrawn, .fieldLoss, .fieldOvercurrent,
   .armatureOvervoltage, .tachFault, .brakeFault, .overheat, .derateActive, .twoBlock,
   .boomOverload, .transferFail, .camSkew, .walkForcedStop, .walkAborted, .followLost,
   .captureFull, .sectorStop]

/-- The code number, 1 to 27. -/
def AlarmCode.number (c : AlarmCode) : Nat := c.index.val + 1

/-- The code with a number, if there is one. -/
def AlarmCode.ofNumber (n : Nat) : Option AlarmCode := allCodes.find? fun c => c.number == n

/-- The severity column of Table 10-1. -/
def AlarmCode.severity : AlarmCode → Severity
  | .configBad | .addressClash | .supplyLow | .camSkew => .stop
  | .roleConflict | .roleMismatch | .peerLost | .linkFault | .fieldLoss | .fieldOvercurrent
  | .armatureOvervoltage | .tachFault | .brakeFault | .overheat | .boomOverload | .transferFail
  | .walkForcedStop => .trip
  | .peerStale | .unlistedStation | .consentRefused | .swingWithdrawn | .derateActive | .twoBlock
  | .walkAborted | .followLost | .captureFull | .sectorStop => .warn

/-- The severity code of an alarm notice (Table 12-2). -/
def Severity.code : Severity → Nat
  | .warn => 1
  | .trip => 2
  | .stop => 3

/-- The event code of an alarm list entry (Table 12-8). -/
def ListEvent.code : ListEvent → Nat
  | .raised => 1
  | .returned => 2
  | .acknowledged => 3
  | .peerNotice => 4

/-! ### Consent codes -/

/-- The proposal kind code (Table 12-5). -/
def ProposalKind.code : ProposalKind → Nat
  | .swingRelease => 1
  | .walkStart => 2

/-- The kind of a code byte, if it is one (R54). -/
def ProposalKind.ofCode (n : Nat) : Option ProposalKind :=
  if n = 1 then some .swingRelease else if n = 2 then some .walkStart else none

/-- The proposal status code (Table 12-5). -/
def ProposalStatus.code : ProposalStatus → Nat
  | .idle => 0
  | .pending => 1
  | .active => 2
  | .withdrawing => 3

/-- The status of a code; a report with another code does not pass R33. -/
def ProposalStatus.ofCode (n : Nat) : ProposalStatus :=
  if n = 1 then .pending else if n = 2 then .active else if n = 3 then .withdrawing else .idle

/-- The objection reason code (Table 4-5). -/
def Reason.code : Reason → Nat
  | .stationStop => 1
  | .bucketInDig => 2
  | .walkSupply => 3
  | .walking => 4
  | .bucketNotGrounded => 5
  | .swingFree => 6
  | .dragNotReady => 7
  | .contending => 8

/-- The reason of a code byte, if it is one (R61). -/
def Reason.ofCode (n : Nat) : Option Reason :=
  if n = 1 then some .stationStop
  else if n = 2 then some .bucketInDig
  else if n = 3 then some .walkSupply
  else if n = 4 then some .walking
  else if n = 5 then some .bucketNotGrounded
  else if n = 6 then some .swingFree
  else if n = 7 then some .dragNotReady
  else if n = 8 then some .contending
  else none

/-! ### State codes -/

/-- The mode code of reports and READ_STATUS (Table 12-5); LOADING and LISTEN are never reported. -/
def Mode.code : Mode → Nat
  | .hold => 1
  | .run => 2
  | .stop => 3
  | .loading | .listen => 0

/-- The supply state code (Table 12-5). -/
def SupplyState.code : SupplyState → Nat
  | .normal => 0
  | .transferring => 1
  | .walkSupply => 2
  | .returning => 3

/-- The swing state code of READ_STATUS (Table 12-3). -/
def SwingState.code : SwingState → Nat
  | .locked => 0
  | .proposing => 1
  | .free => 2
  | .withdrawing => 3

/-- The walk state code (Table 8-2). -/
def WalkState.code : WalkState → Nat
  | .idle => 0
  | .proposing => 1
  | .transfer => 2
  | .stepping => 3
  | .stopping => 4
  | .halted => 5
  | .forced => 6
  | .returning => 7

/-- The walk state a phase code shows: the code modulo 8 (R123). -/
def WalkState.ofPhase (phase : Byte) : WalkState :=
  match phase.toNat % 8 with
  | 0 => .idle
  | 1 => .proposing
  | 2 => .transfer
  | 3 => .stepping
  | 4 => .stopping
  | 5 => .halted
  | 6 => .forced
  | _ => .returning

/-- The entry status code of READ_PEER (Table 12-4). -/
def EntryStatus.code : EntryStatus → Nat
  | .absent => 0
  | .fresh => 1
  | .stale => 2

/-! ### The hold-cause set -/

/-- Whether a cause is present. -/
def HoldCauses.has (h : HoldCauses) : HoldCause → Bool
  | .restart => h.restart
  | .pictureIncomplete => h.pictureIncomplete
  | .peerStop => h.peerStop
  | .localTrip => h.localTrip
  | .linkFault => h.linkFault
  | .walkActive => h.walkActive
  | .partnerLost => h.partnerLost
  | .roleConflict => h.roleConflict

/-- The set with one cause made present or absent. -/
def HoldCauses.put (h : HoldCauses) (c : HoldCause) (b : Bool) : HoldCauses :=
  match c with
  | .restart => { h with restart := b }
  | .pictureIncomplete => { h with pictureIncomplete := b }
  | .peerStop => { h with peerStop := b }
  | .localTrip => { h with localTrip := b }
  | .linkFault => { h with linkFault := b }
  | .walkActive => { h with walkActive := b }
  | .partnerLost => { h with partnerLost := b }
  | .roleConflict => { h with roleConflict := b }

/-- No cause present. -/
def HoldCauses.isEmpty (h : HoldCauses) : Bool :=
  !(h.restart || h.pictureIncomplete || h.peerStop || h.localTrip || h.linkFault || h.walkActive
    || h.partnerLost || h.roleConflict)

/-- Byte 1 of READ_STATUS: one bit for each cause (Table 12-3). -/
def HoldCauses.toByte (h : HoldCauses) : Byte :=
  bitByte h.restart 0 ||| bitByte h.pictureIncomplete 1 ||| bitByte h.peerStop 2
    ||| bitByte h.localTrip 3 ||| bitByte h.linkFault 4 ||| bitByte h.walkActive 5
    ||| bitByte h.partnerLost 6 ||| bitByte h.roleConflict 7

/-! ### The state report (Table 12-6) -/

/-- Bytes 1 to 22 of a state report. -/
def ReportFields.bytes (f : ReportFields) : List Byte :=
  [(0#2 ++ f.summary ++ BitVec.ofBool f.brakeSet ++ BitVec.ofBool f.holdFlag ++ f.mode : BitVec 8),
   f.derate] ++ bytes16 f.speedRef ++ bytes16 f.speed ++ bytes16 f.current ++ bytes16 f.tension
    ++ bytes16 f.position
    ++ [f.phase, f.supply, f.propNumber, (f.propStatus ++ f.propKind : BitVec 8), f.echoProposer,
        f.echoNumber] ++ bytes16 f.refLeft ++ bytes16 f.refRight

/-- Byte 0 of a state report: sequence in bits 0 to 3, role in bits 4 to 6. -/
def reportByte0 (seq : BitVec 4) (role : BitVec 3) : Byte := (0#1 ++ role ++ seq : BitVec 8)

/-- All 23 bytes of a state report. -/
def reportBytes (seq : BitVec 4) (role : BitVec 3) (f : ReportFields) : List Byte :=
  reportByte0 seq role :: f.bytes

/-- The sequence of a received report. -/
def reportSeqOf (l : List Byte) : BitVec 4 := (byteAt l 0).extractLsb' 0 4

/-- The role code of a received report. -/
def reportRoleOf (l : List Byte) : BitVec 3 := (byteAt l 0).extractLsb' 4 3

/-- The report fields of a received report. -/
def reportFieldsOf (l : List Byte) : ReportFields where
  mode := (byteAt l 1).extractLsb' 0 2
  holdFlag := (byteAt l 1).getLsbD 2
  brakeSet := (byteAt l 1).getLsbD 3
  summary := (byteAt l 1).extractLsb' 4 2
  derate := byteAt l 2
  speedRef := word16At l 3
  speed := word16At l 5
  current := word16At l 7
  tension := word16At l 9
  position := word16At l 11
  phase := byteAt l 13
  supply := byteAt l 14
  propNumber := byteAt l 15
  propKind := (byteAt l 16).extractLsb' 0 4
  propStatus := (byteAt l 16).extractLsb' 4 4
  echoProposer := byteAt l 17
  echoNumber := byteAt l 18
  refLeft := word16At l 19
  refRight := word16At l 21

/-- The judgement of R33 on the coded fields of a report: true when the report is usable. -/
def reportUsable (role : BitVec 3) (f : ReportFields) : Bool :=
  f.mode != 0 && (Role.ofCode role.toNat).isSome && decide (f.derate.toNat ≤ 7)
    && decide (f.supply.toNat ≤ 3) && decide (f.propKind.toNat ≤ 2)
    && decide (f.propStatus.toNat ≤ 3) && (f.supply == 0 || role == Role.drag.bits)
    && ((f.refLeft == 0 && f.refRight == 0) || role == Role.walk.bits)

/-! ### Frames (Table 2-1, Table 2-2) -/

/-- The kind code of Table 2-2. -/
def OutFrame.kind : OutFrame → BitVec 4
  | .stateReport .. => 1
  | .propose .. => 2
  | .object .. => 3
  | .alarmNotice .. => 4
  | .keepNotice .. => 5
  | .serviceReply .. => 7

/-- The class of Table 2-2; an alarm notice's class follows its severity (R16). -/
def OutFrame.cls : OutFrame → Nat
  | .stateReport .. => 4
  | .propose .. => 3
  | .object .. => 1
  | .alarmNotice c .. => if c.severity = .stop then 0 else 2
  | .keepNotice .. => 5
  | .serviceReply .. => 6

/-- The destination of Table 2-2. -/
def OutFrame.dst : OutFrame → BitVec 4
  | .serviceReply .. => 14
  | _ => 15

/-- The payload bytes (Table 12-2, Table 12-6, 12-1). -/
def OutFrame.payload : OutFrame → List Byte
  | .stateReport seq role f => reportBytes seq role f
  | .propose n k => [n, byteOf k.code]
  | .object p n r => [byteOf (stationNumber p), n, byteOf r.code]
  | .alarmNotice c v flag armSeq =>
    [byteOf c.number, byteOf c.severity.code] ++ bytes16 v ++ [bitByte flag 0] ++ bytes16 armSeq
  | .keepNotice st armSeq => byteOf (stationNumber st) :: bytes16 armSeq
  | .serviceReply code status data => code :: status :: data

/-- The frame a station with source address `src` sends (R15). -/
def OutFrame.toFrame (src : BitVec 4) (f : OutFrame) : Frame where
  cls := BitVec.ofNat 3 f.cls
  src := src
  kind := f.kind
  dst := f.dst
  payload := f.payload

/-- The bit stream that the check covers: class, source, kind, destination and length, 20 bits not
padded to whole bytes, and then the payload (R15). -/
def checkedBits (f : Frame) : List Bool :=
  msbFirst f.cls ++ msbFirst f.src ++ msbFirst f.kind ++ msbFirst f.dst
    ++ msbFirst (BitVec.ofNat 5 f.payload.length) ++ bitsOfBytes f.payload

/-- The check value of a frame (R15). -/
def frameCheck (f : Frame) : BitVec 16 := crc (checkedBits f)

/-- A frame is bad if its check value differs from the computed one or an end-field bit is dominant
(R26). -/
def frameIsBad (f : Frame) (check : BitVec 16) (endField : BitVec 4) : Bool :=
  frameCheck f != check || endField != 0xF#4

/-- The largest length field (R26). -/
def maxLength : Nat := 24

/-- The bits of a frame on the line, from the dominant start bit to the recessive end field
(Table 2-1). -/
def lineBits (f : Frame) : List Bool :=
  false :: (checkedBits f ++ msbFirst (frameCheck f) ++ [true, true, true, true])

/-- The frame of a row whose kind is fixed by its name. -/
def headerFrame (h : Header) (kind : BitVec 4) (payload : List Byte) : Frame :=
  ⟨h.cls, h.src, kind, h.dst, payload⟩

/-- An address that is one of a motion station's: 1 to 8. -/
def isStationAddress (a : BitVec 4) : Bool := decide (1 ≤ a.toNat) && decide (a.toNat ≤ 8)

/-- Whether a frame fits the line of Table 2-2 for its kind (R16, R28). -/
def frameFits (f : Frame) : Bool :=
  let n := f.payload.length
  if f.kind = 1 then f.cls == 4 && f.dst == 15 && n == 23 && isStationAddress f.src
  else if f.kind = 2 then f.cls == 3 && f.dst == 15 && n == 2 && isStationAddress f.src
  else if f.kind = 3 then f.cls == 1 && f.dst == 15 && n == 3 && isStationAddress f.src
  else if f.kind = 4 then
    f.dst == 15 && n == 7 && isStationAddress f.src
      && ((f.cls == 0 && byteAt f.payload 1 == 3)
        || (f.cls == 2 && (byteAt f.payload 1 == 1 || byteAt f.payload 1 == 2)))
  else if f.kind = 5 then f.cls == 5 && f.dst == 15 && n == 3 && isStationAddress f.src
  else if f.kind = 6 then
    f.cls == 6 && isStationAddress f.dst && decide (1 ≤ n) && decide (n ≤ 3) && f.src == 14
  else if f.kind = 7 then
    f.cls == 6 && f.dst == 14 && decide (2 ≤ n) && decide (n ≤ 24) && isStationAddress f.src
  else false

end Sys2Proof.Machine
end

