-- ==== Sys2Proof/Machine/Ops.lean ====
section
/-!
DEFINITION. The primitive operations: block updates, timers, what a station knows of itself, and the
output lines.  Everything else of the machine is built from these.
-/

namespace Sys2Proof.Machine

/-! ### Block updates -/

/-- Update of the input lines. -/
def State.modPins (s : State) (f : Pins → Pins) : State := { s with pins := f s.pins }
/-- Update of the output lines. -/
def State.modOut (s : State) (f : Outputs → Outputs) : State := { s with out := f s.out }
/-- Update of station control. -/
def State.modCtl (s : State) (f : StationControl → StationControl) : State :=
  { s with ctl := f s.ctl }
/-- Update of the link controller. -/
def State.modLink (s : State) (f : LinkController → LinkController) : State :=
  { s with link := f s.link }
/-- Update of the peer table. -/
def State.modPeers (s : State) (f : PeerTable → PeerTable) : State := { s with peers := f s.peers }
/-- Update of the consent engine. -/
def State.modConsent (s : State) (f : ConsentEngine → ConsentEngine) : State :=
  { s with consent := f s.consent }
/-- Update of the measurement unit. -/
def State.modMeas (s : State) (f : Measurement → Measurement) : State := { s with meas := f s.meas }
/-- Update of the drive regulator. -/
def State.modDrive (s : State) (f : DriveRegulator → DriveRegulator) : State :=
  { s with drive := f s.drive }
/-- Update of role logic. -/
def State.modRole (s : State) (f : RoleLogic → RoleLogic) : State := { s with role := f s.role }
/-- Update of the walk sequencer. -/
def State.modWalk (s : State) (f : WalkSequencer → WalkSequencer) : State :=
  { s with walk := f s.walk }
/-- Update of the heat monitor. -/
def State.modHeat (s : State) (f : HeatMonitor → HeatMonitor) : State := { s with heat := f s.heat }
/-- Update of the alarm unit. -/
def State.modAlarm (s : State) (f : AlarmUnit → AlarmUnit) : State := { s with alarm := f s.alarm }
/-- Update of the capture store. -/
def State.modCapture (s : State) (f : CaptureStore → CaptureStore) : State :=
  { s with capture := f s.capture }
/-- Update of the request slot (R172). -/
def State.setSlot (s : State) (full : Bool) : State := { s with slotFull := full }
/-- Update of the own proposal record. -/
def State.modOwn (s : State) (f : OwnRecord → OwnRecord) : State :=
  s.modConsent fun c => { c with own := f c.own }

/-! ### Timers (0-6, "Time") -/

/-- Milliseconds from a reading to the present one, modulo 2^32 (R36). -/
def State.since (s : State) (t : Time) : Nat := (s.now - t).toNat

/-- A timer that runs and has run for at least `d` ms. -/
def State.ran (s : State) (t : Timer) (d : Nat) : Bool :=
  match t with
  | some start => decide (d ≤ s.since start)
  | none => false

/-- A timer started now if it is stopped, and left running otherwise. -/
def State.running (s : State) (t : Timer) : Timer :=
  match t with
  | some start => some start
  | none => some s.now

/-! ### What the station knows of itself -/

/-- The strapped role, if read and valid (R1). -/
def State.ownRole (s : State) : Option Role :=
  match s.ctl.straps with
  | some x => strapRole x
  | none => none

/-- The station's own number, if read and valid (R1). -/
def State.self (s : State) : Option Station :=
  match s.ctl.straps with
  | some x => strapStation x
  | none => none

/-- The strapped role is `r`. -/
def State.is (s : State) (r : Role) : Bool := s.ownRole == some r

/-- Invalid straps were read: a strap fault (R1). -/
def State.strapFault (s : State) : Bool :=
  match s.ctl.straps with
  | some x => !strapsValid x
  | none => false

/-- Valid straps were read: the station has an address (R1). -/
def State.addressed (s : State) : Bool :=
  match s.ctl.straps with
  | some x => strapsValid x
  | none => false

/-- A good parameter block is in force (R5). -/
def State.configured (s : State) : Bool := s.ctl.params.isSome

/-- The parameters with every value 0, in place of a block that is not there.  No rule reads a
parameter before a good load. -/
def Params.blank : Params where
  reportInterval := 0
  staleLimit := 0
  lostLimit := 0
  objectionWindow := 0
  regInterval := 0
  digTension := 0
  groundTension := 0
  zeroBand := 0
  walkDerateMax := 0
  msCentre := 0
  armIPed := 0
  armVPed := 0
  fieldIPed := 0
  vbEnable := 0
  iScale := 0
  vScale := 0
  fScale := 0
  tensionTable := []
  speedK := 0
  countsPerM := 0
  homePayout := 0
  countsPerTurn := 0
  tachTol := 0
  msDead := 0
  msSpan := 0
  pSlow := 0
  pStop := 0
  dSlow := 0
  dStop := 0
  creep := 0
  accRate := 0
  decRate := 0
  holdDecRate := 0
  ratedLimit := 0
  clGain := 0
  shareGain := 0
  shareMax := 0
  soloSpeed := 0
  brakeSetDelay := 0
  fieldMin := 0
  fieldMax := 0
  armVMax := 0
  boomLimit := 0
  boomTable := []
  dMax := 0
  boomGain := 0
  staleCreep := 0
  swingSetDelay := 0
  sectorEnable := 0
  sLo := 0
  sHi := 0
  dFull := 0
  sectorMargin := 0
  shoeDown := 0
  liftOff := 0
  tubDown := 0
  shoeUp := 0
  homeBand := 0
  phaseSpeed := []
  walkAcc := 0
  walkDec := 0
  walkCreep := 0
  skewGain := 0
  skewTrimMax := 0
  skewStop := 0
  walkEndDelay := 0
  heatShift := 0
  hTrip := 0
  hReset := 0
  hStop := 0
  warnMask := 0
  noticeWarn := 0
  armMask := 0
  blocks := 0
  postSamples := 0
  ct1 := 0
  ct2 := 0
  ct3 := 0
  ct4 := 0
  glitch := 0
  keepWindow := 0

/-- The parameters in force. -/
def State.prm (s : State) : Params := s.ctl.params.getD Params.blank

/-- A mode in which blocks queue frames and the service logic answers: HOLD, RUN or STOP, but not the
STOP of a station without an address (R1, R7, R21). -/
def State.onLink (s : State) : Bool :=
  match s.ctl.mode with
  | .hold | .run => true
  | .stop => s.addressed
  | .loading | .listen => false

/-- A mode in which the link controller receives (R14): LISTEN and every mode that follows, but not
the STOP of a station without an address. -/
def State.receives (s : State) : Bool :=
  match s.ctl.mode with
  | .listen | .hold | .run => true
  | .stop => s.addressed
  | .loading => false

/-- HOLD, RUN or a configured STOP. -/
def State.inService (s : State) : Bool := s.onLink && s.configured

/-- A good load has been made: LISTEN, HOLD, RUN or configured STOP. -/
def State.loaded (s : State) : Bool := s.configured && s.receives

/-- An unconfigured STOP (R5). -/
def State.unconfigured (s : State) : Bool := s.onLink && !s.configured

/-- The station is lead or solo in its role (R6). -/
def State.leads (s : State) : Bool := s.ctl.place == some .lead || s.ctl.place == some .solo

/-- The station is the follow of its role (R6). -/
def State.follows (s : State) : Bool := s.ctl.place == some .follow

/-- A swing lead or solo station: the one with a swing state (R113). -/
def State.swingLead (s : State) : Bool := s.is .swing && s.leads

/-! ### Peer table reading -/

/-- Entry `st` of the peer table. -/
def State.entry (s : State) (st : Station) : PeerEntry := s.peers.entries[st]

/-- Update of one entry. -/
def State.modEntry (s : State) (st : Station) (f : PeerEntry → PeerEntry) : State :=
  s.modPeers fun t => { t with entries := t.entries.set st (f t.entries[st]) }

/-- The stations other than self. -/
def State.others (s : State) : List Station := allStations.filter fun st => s.self != some st

/-- The roster stations other than self (R31: those with an expected role). -/
def State.rosterOthers (s : State) : List Station :=
  s.others.filter fun st => (s.entry st).expected.isSome

/-- The roster stations whose expected role is `r`, self among them if it is one. -/
def State.rosterOf (s : State) (r : Role) : List Station :=
  allStations.filter fun st => (s.entry st).expected == some r

/-- The roster station of the own role with a given place (R6). -/
def State.partner (s : State) (p : Place) : Option Station :=
  allStations.find? fun st => (s.entry st).expected == s.ownRole && (s.entry st).place == some p

/-- The lead entry of a follow station (R6). -/
def State.leadStation (s : State) : Option Station := s.partner .lead

/-- The follow entry of a lead station (R104). -/
def State.followStation (s : State) : Option Station := s.partner .follow

/-- The roster entry whose expected role is WALK (R121, R128). -/
def State.walkStation (s : State) : Option Station := (s.rosterOf .walk).head?

/-- An entry that is FRESH or STALE. -/
def PeerEntry.present (e : PeerEntry) : Bool := e.status != .absent

/-- Tension of an entry as a reader takes it, clamped to the range of Table 3-2 (R33, R46). -/
def PeerEntry.tension (e : PeerEntry) : Nat := min e.fields.tension.toNat 32767

/-- The stations other than self that are FRESH or STALE with stored role `r` (R44, R46). -/
def State.heardAs (s : State) (r : Role) : List Station :=
  s.others.filter fun st => (s.entry st).present && (s.entry st).role == r.bits

/-- The pair sum of a role: the own current tension and the tensions held in the entries (R46). -/
def State.pairSum (s : State) (r : Role) : Nat :=
  (if s.is r then s.meas.tension else 0)
    + ((s.heardAs r).map fun st => (s.entry st).tension).sum

/-- The pair count of a role: how many stations the pair sum includes (R46). -/
def State.pairCount (s : State) (r : Role) : Nat :=
  (if s.is r then 1 else 0) + (s.heardAs r).length

/-! ### Measured values read by other blocks -/

/-- The measured speed: the motor speed, or the left cam speed on the walk station (5-1). -/
def State.measuredSpeed (s : State) : Int := if s.is .walk then s.meas.speedA else s.meas.speedB

/-- The measured speed counts as stationary (Table 4-2). -/
def State.atRest (s : State) : Bool := decide (s.measuredSpeed.natAbs ≤ s.prm.zeroBand)

/-! ### Output lines -/

/-- Put out a duty: FIELD_PWM its magnitude, FIELD_DIR its sign, kept at a duty of 0 (R95). -/
def State.setDuty (s : State) (d : Int) : State :=
  (s.modDrive fun x => { x with duty := d }).modOut fun o =>
    { o with
      fieldPwm := d.natAbs
      fieldDir := if 0 < d then .forward else if d < 0 then .reverse else o.fieldDir }

/-- Clear the internal reference and put out a duty of 0. -/
def State.clearReference (s : State) : State :=
  (s.modDrive fun x => { x with reference := 0 }).setDuty 0

/-- Set or release the BRAKE output. -/
def State.setBrake (s : State) (set : Bool) : State := s.modOut fun o => { o with brakeSet := set }

/-- Close or open the TRANSFER output. -/
def State.setTransfer (s : State) (closed : Bool) : State :=
  s.modOut fun o => { o with transferClosed := closed }

end Sys2Proof.Machine
end

