-- ==== Sys2Proof/Machine/Flags.lean ====
section
/-!
DEFINITION. The flags others read: annunciator states, horn and lamps (R147 to R153), the alarm list
(R154), the mode and the hold-cause set as station control keeps them (R8, R9).
-/

namespace Sys2Proof.Machine

/-! ### Annunciator table, horn and lamps -/

/-- The annunciator state of a code. -/
def AlarmUnit.stateOf (a : AlarmUnit) (c : AlarmCode) : AnnState := a.table[c.index]

/-- The annunciator state of a code. -/
def State.ann (s : State) (c : AlarmCode) : AnnState := s.alarm.stateOf c

/-- ACTIVE_UNACK or RETURNED_UNACK. -/
def AnnState.unack : AnnState → Bool
  | .activeUnack | .returnedUnack => true
  | .normal | .activeAck => false

/-- A code of WARN severity. -/
def AlarmCode.isWarn (c : AlarmCode) : Bool := c.severity == .warn

/-- Some code that `p` picks is away from NORMAL. -/
def AlarmUnit.someAway (a : AlarmUnit) (p : AlarmCode → Bool) : Bool :=
  allCodes.any fun c => p c && a.stateOf c != .normal

/-- Some code that `p` picks is unacknowledged. -/
def AlarmUnit.someUnack (a : AlarmUnit) (p : AlarmCode → Bool) : Bool :=
  allCodes.any fun c => p c && (a.stateOf c).unack

/-- Every TRIP-severity code is NORMAL (R151). -/
def AlarmUnit.tripsNormal (a : AlarmUnit) : Bool := !a.someAway fun c => c.severity == .trip

/-- HORN: any TRIP or STOP code unacknowledged (R152), or a strap fault (R1). -/
def State.hornState (s : State) : Bool :=
  s.strapFault || s.alarm.someUnack fun c => !c.isWarn

/-- The lamp of a group of codes (R153). -/
def AlarmUnit.lampOf (a : AlarmUnit) (p : AlarmCode → Bool) : Lamp :=
  if a.someUnack p then .flashing else if a.someAway p then .steady else .off

/-- LAMP_WARN (R153). -/
def State.lampWarnState (s : State) : Lamp := s.alarm.lampOf AlarmCode.isWarn

/-- LAMP_TRIP: steady at least while the mode is STOP, and steady in a strap fault (R153, R1). -/
def State.lampTripState (s : State) : Lamp :=
  match s.alarm.lampOf fun c => !c.isWarn with
  | .off => if s.ctl.mode = .stop then .steady else .off
  | l => l

/-- The alarm unit works the horn and lamps, at every event that changes what they show. -/
def State.workLamps (s : State) : State :=
  s.modOut fun o =>
    { o with
      horn := s.hornState
      lampWarn := s.lampWarnState
      lampTrip := s.lampTripState }

/-- Whether a lamp is lit at this moment: a flashing lamp is lit while the millisecond timer modulo
1000 is below 500 (R153). -/
def State.lit (s : State) (l : Lamp) : Bool :=
  match l with
  | .off => false
  | .steady => true
  | .flashing => decide (s.now.toNat % 1000 < 500)

/-- Move one code to an annunciator state. -/
def State.setAnn (s : State) (c : AlarmCode) (x : AnnState) : State :=
  (s.modAlarm fun a => { a with table := a.table.set c.index x }).workLamps

/-- A code that WARN_MASK masks: a WARN code whose bit is set.  Nothing is masked without a parameter
block (R147). -/
def State.masked (s : State) (c : AlarmCode) : Bool :=
  c.isWarn && s.configured && s.prm.warnMask.getLsbD c.index

/-- The alarm unit takes requests: not in a strap fault (R147). -/
def State.alarmInUse (s : State) : Bool := !s.strapFault

/-- The station number written as source of its own list entries: 0 before the straps are read
(R154). -/
def State.sourceNumber (s : State) : BitVec 4 :=
  match s.self with
  | some st => stationAddress st
  | none => 0

/-- Write one alarm list entry (R154). -/
def State.log (s : State) (c : AlarmCode) (e : ListEvent) (value : Word16) (source : BitVec 4) :
    State :=
  s.modAlarm fun a =>
    let entry : AlarmEntry := ⟨a.nextSeq, s.now, c, e, value, source⟩
    { a with
      list := if a.list.length < 32 then a.list ++ [entry] else a.list.tail ++ [entry]
      nextSeq := a.nextSeq + 1
      listOverrun := if a.list.length < 32 then a.listOverrun else satInc a.listOverrun }

/-- Write an entry of the station's own. -/
def State.logOwn (s : State) (c : AlarmCode) (e : ListEvent) (value : Word16) : State :=
  s.log c e value s.sourceNumber

/-- The value of a raise, clamped to 16 bits signed (R147). -/
def alarmValue (x : Int) : Word16 := signed16 (clamp (-32768) 32767 x)

/-! ### Mode and hold causes -/

/-- The mode changes; LAMP_TRIP follows it (R153). -/
def State.setMode (s : State) (m : Mode) : State :=
  (s.modCtl fun c => { c with mode := m }).workLamps

/-- A hold cause is present. -/
def State.hasCause (s : State) (c : HoldCause) : Bool := s.ctl.causes.has c

/-- One hold cause made present or absent, with nothing that follows from it. -/
def State.putCause (s : State) (c : HoldCause) (b : Bool) : State :=
  s.modCtl fun k => { k with causes := k.causes.put c b }

/-- How long a command must have been neutral (R9): 200 ms. -/
def neutralTime : Nat := 200

/-- The station enters RUN at the event that makes the last of the three conditions of R9 true. -/
def State.tryRun (s : State) : State :=
  if s.ctl.mode = .hold ∧ s.ctl.causes.isEmpty = true ∧ s.meas.runPermit.value = true
      ∧ s.ran s.ctl.neutralSince neutralTime = true then
    s.setMode .run
  else s

/-- Request to remove a hold cause (R8): without effect when it is absent; the removal of the last
cause may enter RUN (R9). -/
def State.removeCause (s : State) (c : HoldCause) : State :=
  if s.hasCause c then (s.putCause c false).tryRun else s

/-! ### Returns and acknowledges -/

/-- LOCAL_TRIP goes at the event that leaves every TRIP code NORMAL (R151). -/
def State.settleTrips (s : State) : State :=
  if s.alarm.tripsNormal then s.removeCause .localTrip else s

/-- A return request (R149). -/
def State.returnAlarm (s : State) (c : AlarmCode) : State :=
  if s.masked c || !s.alarmInUse then s
  else
    match s.ann c with
    | .activeUnack => (s.setAnn c .returnedUnack).logOwn c .returned 0
    | .activeAck => ((s.setAnn c .normal).logOwn c .returned 0).settleTrips
    | .normal | .returnedUnack => s

/-- An acknowledge, as it acts on one code (R150). -/
def State.ackCode (s : State) (c : AlarmCode) : State :=
  match s.ann c with
  | .activeUnack => (s.setAnn c .activeAck).logOwn c .acknowledged 0
  | .returnedUnack => (s.setAnn c .normal).logOwn c .acknowledged 0
  | .normal | .activeAck => s

/-- An acknowledge acts on every code of the station at one event, in increasing code order (R150). -/
def State.acknowledge (s : State) : State := (allCodes.foldl State.ackCode s).settleTrips

/-- The alarm summary of the own report (R151), coded as Table 12-5. -/
def State.alarmSummary (s : State) : BitVec 2 :=
  if s.ctl.mode = .stop then 3
  else if !s.alarm.tripsNormal then 2
  else if s.alarm.someAway AlarmCode.isWarn then 1
  else 0

end Sys2Proof.Machine
end

