-- ==== Sys2Proof/Machine/Link.lean ====
section
/-!
DEFINITION. The link controller's sending side: the transmit queue (R21 to R23), transmissions and
their ends (R17 to R20), and the counters (R30).  What a completion means to the source block stands
with that block.
-/

namespace Sys2Proof.Machine

/-! ### Counters (R30) -/

/-- RX_MALFORMED, one up. -/
def State.countMalformed (s : State) : State :=
  s.modLink fun l => { l with rxMalformed := satInc l.rxMalformed }

/-- RX_BAD, one up. -/
def State.countBad (s : State) : State := s.modLink fun l => { l with rxBad := satInc l.rxBad }

/-- TX_DROPPED, one up. -/
def State.countDropped (s : State) : State :=
  s.modLink fun l => { l with txDropped := satInc l.txDropped }

/-! ### The transmit queue -/

/-- A state report. -/
def OutFrame.isReport : OutFrame → Bool
  | .stateReport .. => true
  | _ => false

/-- A reply with status BUSY, the only use of that status (R172). -/
def OutFrame.isBusyReply : OutFrame → Bool
  | .serviceReply _ st _ => st == 1
  | _ => false

/-- A reply that holds the request slot: any but a BUSY reply (R172). -/
def OutFrame.holdsSlot : OutFrame → Bool
  | .serviceReply _ st _ => st != 1
  | _ => false

/-- Two OBJECT frames for one proposal, named by proposer and number (R21, R22). -/
def OutFrame.sameObject : OutFrame → OutFrame → Bool
  | .object p n _, .object p' n' _ => p == p' && n == n'
  | _, _ => false

/-- A proposal frame of a number. -/
def OutFrame.isPropose (number : Byte) : OutFrame → Bool
  | .propose n _ => n == number
  | _ => false

/-- The class of a queued frame. -/
def Queued.cls (q : Queued) : Nat := q.frame.cls

/-- Put a frame in its place: after every frame of its class or a lower one (R21). -/
def insertByClass (q : Queued) : List Queued → List Queued
  | [] => [q]
  | x :: xs => if q.cls < x.cls then q :: x :: xs else x :: insertByClass q xs

/-- The numerically highest class among the frames that are not in transmission (R23). -/
def highestClass : List Queued → Option Nat
  | [] => none
  | x :: xs =>
    if x.inTx then highestClass xs
    else
      match highestClass xs with
      | none => some x.cls
      | some c => some (max c x.cls)

/-- The youngest frame of a class that is not in transmission: the last in queue order (R21, R23). -/
def youngestOf (c : Nat) (l : List Queued) : Option Queued :=
  l.reverse.find? fun x => x.cls == c && !x.inTx

/-- The queue without the youngest frame of a class that is not in transmission (R23). -/
def removeYoungest (c : Nat) (l : List Queued) : List Queued :=
  (l.reverse.eraseP fun x => x.cls == c && !x.inTx).reverse

/-- Replace the contents of a queued state report in its place (R22). -/
def replaceReport (f : OutFrame) (l : List Queued) : List Queued :=
  l.map fun q =>
    if q.frame.isReport then { q with frame := f, replaced := q.replaced || q.inTx } else q

/-- The source block is told that a frame has left the queue unsent: for a reply the request slot is
free; the other blocks do nothing at once (R23). -/
def State.tellUnsent (s : State) (f : OutFrame) : State :=
  if f.holdsSlot then s.setSlot false else s

/-- A frame that does not join, or leaves, the queue unsent and counted (R23 to R25). -/
def State.dropFrame (s : State) (f : OutFrame) : State := (s.countDropped).tellUnsent f

/-- A new frame joins the queue in its place. -/
def State.joinQueue (s : State) (f : OutFrame) : State :=
  s.modLink fun l => { l with queue := insertByClass ⟨f, s.now, false, false⟩ l.queue }

/-- A request at a full queue: displace the youngest frame of the highest class if that class is
higher than the new frame's, or drop the new frame (R23). -/
def State.joinFullQueue (s : State) (f : OutFrame) : State :=
  match highestClass s.link.queue with
  | none => s.dropFrame f
  | some c =>
    if f.cls < c then
      match youngestOf c s.link.queue with
      | none => s.dropFrame f
      | some q =>
        ((s.modLink fun l => { l with queue := removeYoungest c l.queue }).dropFrame q.frame).joinQueue f
    else s.dropFrame f

/-- A block's request to queue a frame (R21 to R23, R25).  Blocks add frames only in HOLD, RUN and
STOP, and a station without an address has nothing in its queue. -/
def State.queueFrame (s : State) (f : OutFrame) : State :=
  if !s.onLink then s
  else if s.link.quietOut.isSome then s.dropFrame f
  else if s.link.queue.any fun q => q.frame.sameObject f then s
  else if f.isReport && s.link.queue.any fun q => q.frame.isReport then
    s.modLink fun l => { l with queue := replaceReport f l.queue }
  else if s.link.queue.length < 8 then s.joinQueue f
  else s.joinFullQueue f

/-- Remove an own PROPOSE from the queue uncounted, unless it is in transmission (R52). -/
def State.removePropose (s : State) (number : Byte) : State :=
  s.modLink fun l =>
    { l with queue := l.queue.filter fun q => q.inTx || !q.frame.isPropose number }

/-! ### Transmissions -/

/-- Mark the head of the queue as in transmission (R17). -/
def markHead : List Queued → List Queued
  | [] => []
  | x :: xs => { x with inTx := true, replaced := false } :: xs

/-- Begin sending the head frame (R17): outside quiet-out, with nothing in transmission. -/
def State.startTransmission (s : State) : State :=
  match s.link.queue.head? with
  | none => s
  | some q =>
    if s.onLink && s.link.quietOut.isNone && s.link.sending.isNone then
      s.modLink fun l =>
        { l with
          queue := markHead l.queue
          sending := some ⟨q.frame, lineBits (q.frame.toFrame s.sourceNumber)⟩ }
    else s

/-- No frame is in transmission any more; every frame keeps its place (R18, R20). -/
def State.stopDriving (s : State) : State :=
  s.modLink fun l =>
    { l with
      sending := none
      queue := l.queue.map fun q => { q with inTx := false, replaced := false } }

/-- Take the completed frame off the queue; a state report replaced while it was in transmission stays
in its place with the newer contents (R19). -/
def State.takeCompleted (s : State) : State :=
  s.modLink fun l =>
    { l with
      sending := none
      failCount := 0
      queue := (l.queue.filter fun q => !q.inTx || q.replaced).map fun q =>
        { q with inTx := false, replaced := false } }

/-- Empty the queue at a link fault: each frame is counted and its source told (R24). -/
def State.discardQueue (s : State) : State :=
  let t := s.link.queue.foldl (fun s q => s.dropFrame q.frame) s
  t.modLink fun l => { l with queue := [], sending := none }

/-- The fixed report interval of an unconfigured STOP (R5): 50 ms. -/
def unconfiguredInterval : Nat := 50

/-- The report interval in force: REPORT_INTERVAL, or 50 ms in unconfigured STOP (R5, R7, R24). -/
def State.reportInterval (s : State) : Nat :=
  if s.configured then s.prm.reportInterval else unconfiguredInterval

/-- The quiet-out of R24: four report intervals. -/
def State.quietOutTime (s : State) : Nat := 4 * s.reportInterval

/-- The consecutive-failure count at which a link fault is declared (R20): 16. -/
def failLimit : Nat := 16

/-- The time after which ADDRESS_CLASH returns (R27): 1000 ms. -/
def clashReturnTime : Nat := 1000

end Sys2Proof.Machine
end

