-- ==== Sys2Proof/Machine/Capture.lean ====
section
/-!
DEFINITION. The capture store: slots and blocks (R159, R162), the compaction of samples (R161, R163),
and arms (R164).  Keeping, readout and release need the alarm unit and stand in `Keep.lean`.
-/

namespace Sys2Proof.Machine

/-! ### The sample slots -/

/-- The slots of the store (R159): 2048. -/
def slotCount : Nat := 2048

/-- Write one slot of the slot list, slot numbers strictly rising. -/
def writeSlot (k : Nat) (v : Sample) : List (Nat × Sample) → List (Nat × Sample)
  | [] => [(k, v)]
  | (j, w) :: xs =>
    if k < j then (k, v) :: (j, w) :: xs
    else if k = j then (k, v) :: xs
    else (j, w) :: writeSlot k v xs

/-- What a slot that is not listed reads as: the free value of `Config`, in the layout of
Table 12-10. -/
def unwrittenSample (k : Nat) : Sample :=
  let w := Config.unwrittenSlot k
  { delta := (w.extractLsb' 72 8).toNat
    ch1 := (w.extractLsb' 56 16).toInt
    ch2 := (w.extractLsb' 40 16).toInt
    ch3 := (w.extractLsb' 24 16).toInt
    ch4 := (w.extractLsb' 8 16).toNat
    brakeSet := w.getLsbD 0
    hold := w.getLsbD 1
    level := (w.extractLsb' 2 3).toNat }

/-- Read one slot. -/
def readSlot (l : List (Nat × Sample)) (k : Nat) : Sample :=
  match l.find? fun x => x.1 == k with
  | some x => x.2
  | none => unwrittenSample k

/-- The canonical form of the slot list: slot numbers strictly rising. -/
def slotsWf : List (Nat × Sample) → Bool
  | [] => true
  | [_] => true
  | (i, _) :: (j, w) :: xs => decide (i < j) && slotsWf ((j, w) :: xs)

/-! ### Blocks -/

/-- A block that holds nothing. -/
def CaptureBlock.blank : CaptureBlock where
  state := .free
  armId := none
  armCode := none
  armTime := 0
  stored := 0
  armIndex := 0
  oldest := 0
  complete := false
  post := 0
  keepMark := false
  keepDeadline := none
  awaitSince := 0

/-- Block `i`, blank past the last one. -/
def CaptureStore.block (k : CaptureStore) (i : Nat) : CaptureBlock :=
  k.blocks.getD i CaptureBlock.blank

/-- The size of a block: 2048 / BLOCKS (R159). -/
def CaptureStore.size (k : CaptureStore) : Nat := slotCount / k.blocks.length

/-- The first slot of block `i` (R159). -/
def CaptureStore.first (k : CaptureStore) (i : Nat) : Nat := i * k.size

/-- Update of block `i`. -/
def CaptureStore.modBlock (k : CaptureStore) (i : Nat) (f : CaptureBlock → CaptureBlock) :
    CaptureStore :=
  { k with blocks := k.blocks.modify i f }

/-- RECORDING or POST (R160). -/
def BlockState.writes : BlockState → Bool
  | .recording | .post => true
  | .free | .awaitKeep | .kept => false

/-- The write block, if there is one (R160). -/
def CaptureStore.writeBlock (k : CaptureStore) : Option Nat :=
  k.blocks.findIdx? fun b => b.state.writes

/-- The first FREE block in block order. -/
def CaptureStore.firstFree (k : CaptureStore) : Option Nat :=
  k.blocks.findIdx? fun b => b.state == .free

/-- Every block is KEPT. -/
def CaptureStore.allKept (k : CaptureStore) : Bool := k.blocks.all fun b => b.state == .kept

/-- Block `i` becomes RECORDING (R159, R163). -/
def CaptureStore.record (k : CaptureStore) (i : Nat) : CaptureStore :=
  let first := k.first i
  { k.modBlock i fun b =>
      { b with
        state := .recording
        armId := none
        armCode := none
        stored := 0
        armIndex := 0
        oldest := first
        complete := false
        keepMark := false
        keepDeadline := none } with
    exceed := ⟨0, 0, 0, 0⟩
    last := none
    sinceLast := 0 }

/-- Block `i` becomes FREE; where recording is suspended it becomes RECORDING at that event (R160). -/
def CaptureStore.release (k : CaptureStore) (i : Nat) : CaptureStore :=
  let k' := k.modBlock i fun b => { b with state := .free, keepDeadline := none }
  match k.writeBlock with
  | none => k'.record i
  | some _ => k'

/-! ### Storing a sample (R162) -/

/-- The slot the next sample goes to: just after the last one written until the block is full, then
the oldest. -/
def CaptureStore.writeSlotOf (k : CaptureStore) (i : Nat) : Nat :=
  if (k.block i).stored < k.size then k.first i + (k.block i).stored else (k.block i).oldest

/-- The slot after a slot of block `i`, the first following the last. -/
def CaptureStore.nextSlot (k : CaptureStore) (i slot : Nat) : Nat :=
  if slot + 1 < k.first i + k.size then slot + 1 else k.first i

/-- The header after a sample is stored: the stored count rises until the block is full; from then on
the oldest sample goes, and in POST, after the arm sample, the arm index goes down with it.  In POST
the post counter goes down by one (R162, R165). -/
def headerAfter (size next : Nat) (armSample : Bool) (b : CaptureBlock) : CaptureBlock :=
  let full := decide (size ≤ b.stored)
  { b with
    stored := if full then b.stored else b.stored + 1
    oldest := if full then next else b.oldest
    armIndex := if full && b.state == .post && !armSample then b.armIndex - 1 else b.armIndex
    post := if b.state == .post then b.post - 1 else b.post }

/-- Store a sample in block `i`.  The arm sample is the first one stored in POST: the post counter
still stands at POST_SAMPLES. -/
def CaptureStore.store (k : CaptureStore) (postSamples i : Nat) (v : Sample) : CaptureStore :=
  let b := k.block i
  let armSample := b.state == .post && b.post == postSamples
  { k.modBlock i (headerAfter k.size (k.nextSlot i b.oldest) armSample) with
    slots := writeSlot (k.writeSlotOf i) v k.slots
    exceed := ⟨0, 0, 0, 0⟩
    last := some v
    sinceLast := 0 }

/-! ### Compaction (R163) -/

/-- One exceed count: one up where the candidate differs from the last stored sample by more than the
threshold, 0 otherwise. -/
def exceedStep (threshold : Nat) (candidate last : Int) (count : Nat) : Nat :=
  if threshold < (candidate - last).natAbs then min 2 (count + 1) else 0

/-- The four exceed counts after a candidate. -/
def exceedAfter (p : Params) (v last : Sample) (e : ExceedCounts) : ExceedCounts where
  c1 := exceedStep p.ct1 v.ch1 last.ch1 e.c1
  c2 := exceedStep p.ct2 v.ch2 last.ch2 e.c2
  c3 := exceedStep p.ct3 v.ch3 last.ch3 e.c3
  c4 := exceedStep p.ct4 v.ch4 last.ch4 e.c4

/-- Some channel's count has reached GLITCH. -/
def ExceedCounts.reached (e : ExceedCounts) (glitch : Nat) : Bool :=
  decide (glitch ≤ e.c1) || decide (glitch ≤ e.c2) || decide (glitch ≤ e.c3)
    || decide (glitch ≤ e.c4)

/-- The largest delta: a candidate with it is stored (R163). -/
def maxDelta : Nat := 64

/-- The delta of the next candidate: 1 for the first sample of a block, else one more than the
intervals since the last stored one (R161). -/
def CaptureStore.nextDelta (k : CaptureStore) : Nat :=
  match k.last with
  | none => 1
  | some _ => k.sinceLast + 1

/-- Take one candidate sample: in POST it is stored; in RECORDING it is stored if it is the first, if
some channel has exceeded GLITCH times in a row, or if its delta is 64; without a write block it is
dropped (R161, R163). -/
def CaptureStore.take (k : CaptureStore) (p : Params) (v : Sample) : CaptureStore :=
  match k.writeBlock with
  | none => k
  | some i =>
    let v := { v with delta := k.nextDelta }
    if (k.block i).state = .post then k.store p.postSamples i v
    else
      match k.last with
      | none => k.store p.postSamples i v
      | some last =>
        let e := exceedAfter p v last k.exceed
        if e.reached p.glitch || v.delta == maxDelta then k.store p.postSamples i v
        else { k with exceed := e, sinceLast := k.sinceLast + 1 }

/-! ### Arms (R164) -/

/-- Block `i` becomes POST for an arm. -/
def CaptureStore.toPost (k : CaptureStore) (i : Nat) (now : Time) (postSamples : Nat) (id : ArmId)
    (code : Option AlarmCode) : CaptureStore :=
  let size := k.size
  k.modBlock i fun b =>
    { b with
      state := .post
      armId := some id
      armCode := code
      armTime := now
      keepMark := false
      keepDeadline := none
      post := postSamples
      complete := b.stored == size
      armIndex := if b.stored < size then b.stored else size - 1 }

/-- The AWAIT_KEEP block that became AWAIT_KEEP earliest: the one with the greatest age. -/
def earliestAwaitFrom (now : Time) : Nat → List CaptureBlock → Option (Nat × Nat)
  | _, [] => none
  | i, b :: bs =>
    let rest := earliestAwaitFrom now (i + 1) bs
    if b.state = .awaitKeep then
      let age := (now - b.awaitSince).toNat
      match rest with
      | none => some (i, age)
      | some (j, age') => if age < age' then some (j, age') else some (i, age)
    else rest

/-- The AWAIT_KEEP block that became AWAIT_KEEP earliest. -/
def CaptureStore.earliestAwait (k : CaptureStore) (now : Time) : Option Nat :=
  (earliestAwaitFrom now 0 k.blocks).map Prod.fst

/-- Block `i` loses what it held before it is reused. -/
def CaptureStore.empty (k : CaptureStore) (i : Nat) : CaptureStore :=
  let first := k.first i
  { k.modBlock i fun b =>
      { b with stored := 0, oldest := first, armIndex := 0, complete := false } with
    exceed := ⟨0, 0, 0, 0⟩
    last := none
    sinceLast := 0 }

/-- Enter a local arm in the decision list; at 8 entries the oldest goes without a decision (R166). -/
def CaptureStore.addDecision (k : CaptureStore) (d : Decision) : CaptureStore :=
  { k with decisions := (if k.decisions.length < 8 then k.decisions else k.decisions.tail) ++ [d] }

/-- A local arm that put no block in POST is entered in the decision list; a peer arm is not. -/
def CaptureStore.noteLocal (k : CaptureStore) (id : ArmId) (code : Option AlarmCode)
    (merged : Option ArmId) (postSamples : Nat) : CaptureStore :=
  match code with
  | some c => k.addDecision ⟨id, c, merged, postSamples⟩
  | none => k

/-- An arm, local with its code or a peer's without one (Table 11-3). -/
def CaptureStore.arm (k : CaptureStore) (now : Time) (postSamples : Nat) (id : ArmId)
    (code : Option AlarmCode) : CaptureStore :=
  let k := { k with armCount := k.armCount + 1 }
  match k.writeBlock with
  | some i =>
    if (k.block i).state = .recording then k.toPost i now postSamples id code
    else
      ({ k with armsMerged := k.armsMerged + 1 }).noteLocal id code (k.block i).armId postSamples
  | none =>
    match k.earliestAwait now with
    | some i => (k.empty i).toPost i now postSamples id code
    | none => ({ k with armsIgnored := k.armsIgnored + 1 }).noteLocal id code none postSamples

/-- An arm handed to the capture store, in HOLD, RUN and configured STOP (11-3). -/
def State.captureArm (s : State) (id : ArmId) (code : Option AlarmCode) : State :=
  s.modCapture fun k => k.arm s.now s.prm.postSamples id code

end Sys2Proof.Machine
end

