-- ==== Sys2Proof/Machine/Alarm.lean ====
section
/-!
DEFINITION. The raise of an alarm (R148): its latch and list entry, the arm it makes (R157), the notice
it asks for (R155), and a whole raise of a WARN code.  Raises of TRIP and STOP codes also act on
station control and stand in `Control.lean`.
-/

namespace Sys2Proof.Machine

/-- Steps 1 and 2 of a raise: the annunciator state and the RAISED entry (R148). -/
def State.latch (s : State) (c : AlarmCode) (value : Int) : State :=
  (s.setAnn c .activeUnack).logOwn c .raised (alarmValue value)

/-- A mode in which a raise arms: HOLD, RUN or configured STOP (R157). -/
def State.armsIn (s : State) (mode : Mode) : Bool :=
  s.configured && (mode == .hold || mode == .run || mode == .stop)

/-- A raise of code `c` taken in `mode` is a local arm (R157). -/
def State.armsCapture (s : State) (c : AlarmCode) (mode : Mode) : Bool :=
  s.armsIn mode && s.prm.armMask.getLsbD c.index

/-- Step 4 of a raise: the local arm, where the raise is one (R157). -/
def State.localArm (s : State) (c : AlarmCode) (mode : Mode) : State :=
  match s.self with
  | some st =>
    if s.armsCapture c mode then
      let s := s.modAlarm fun a => { a with armSeq := nextNonzero16 a.armSeq }
      s.captureArm ⟨st, s.alarm.armSeq⟩ (some c)
    else s
  | none => s

/-- A raise of code `c` is sent as a notice: TRIP and STOP codes always, a WARN code when NOTICE_WARN
is ON or the code is in ARM_MASK (R155); in unconfigured STOP no WARN code is (R5). -/
def State.sendsNotice (s : State) (c : AlarmCode) : Bool :=
  !c.isWarn || (s.configured && (s.prm.noticeWarn == 1 || s.prm.armMask.getLsbD c.index))

/-- Step 5 of a raise: the notice, not asked for of a raise taken in LISTEN (R155). -/
def State.askNotice (s : State) (c : AlarmCode) (value : Int) (mode : Mode) : State :=
  if mode = .listen ∨ s.sendsNotice c = false then s
  else
    let flag := s.armsCapture c mode && s.self.isSome
    s.queueFrame (.alarmNotice c (alarmValue value) flag (if flag then s.alarm.armSeq else 0))

/-- Steps 4 and 5 of a raise taken in `mode`. -/
def State.armAndNotice (s : State) (c : AlarmCode) (value : Int) (mode : Mode) : State :=
  (s.localArm c mode).askNotice c value mode

/-- A raise request for a WARN code (R148): it makes no request to station control. -/
def State.raiseWarn (s : State) (c : AlarmCode) (value : Int) : State :=
  if s.masked c || !s.alarmInUse then s
  else (s.latch c value).armAndNotice c value s.ctl.mode

end Sys2Proof.Machine
end

