-- ==== Sys2Proof/Machine/Keep.lean ====
section
/-!
DEFINITION. Keeping and letting go of captured blocks: the kept queue (R168), the end of a POST (R165),
the decision list (R166), KEEP_NOTICE (R167), readout and release (R169), the first write block (R160)
and the store at resets and good loads (R171).
-/

namespace Sys2Proof.Machine

/-- The store raises CAPTURE_FULL with the kept count as value (R168). -/
def State.raiseFull (s : State) : State :=
  let n : Nat := s.capture.kept.length
  (s.modCapture fun k => { k with fullRaised := true }).raiseWarn .captureFull n

/-- Block `i` becomes KEPT: it joins the young end of the kept queue, and CAPTURE_FULL is raised if
every block is then KEPT (R168). -/
def State.becomeKept (s : State) (i : Nat) : State :=
  let s := s.modCapture fun k =>
    { k.modBlock i fun b => { b with state := .kept, keepDeadline := none } with
      kept := k.kept ++ [i] }
  if s.capture.allKept then s.raiseFull else s

/-- The AWAIT_KEEP blocks that carry an arm id, by number. -/
def CaptureStore.awaiting (k : CaptureStore) (id : ArmId) : List Nat :=
  (List.range k.blocks.length).filter fun i =>
    (k.block i).state == .awaitKeep && (k.block i).armId == some id

/-- Put a block in a list ordered by the time it became AWAIT_KEEP, earliest first. -/
def CaptureStore.insertByAge (k : CaptureStore) (now : Time) (i : Nat) : List Nat → List Nat
  | [] => [i]
  | j :: js =>
    if (now - (k.block j).awaitSince).toNat < (now - (k.block i).awaitSince).toNat then i :: j :: js
    else j :: k.insertByAge now i js

/-- Blocks in the order they became AWAIT_KEEP. -/
def CaptureStore.byAge (k : CaptureStore) (now : Time) (l : List Nat) : List Nat :=
  l.foldl (fun acc i => k.insertByAge now i acc) []

/-- The POST write block carries an arm id. -/
def CaptureStore.postCarries (k : CaptureStore) (id : ArmId) : Bool :=
  k.blocks.any fun b => b.state == .post && b.armId == some id

/-- A KEPT block carries an arm id. -/
def CaptureStore.keptCarries (k : CaptureStore) (id : ArmId) : Bool :=
  k.blocks.any fun b => b.state == .kept && b.armId == some id

/-- The keep mark of the POST write block with an arm id is set. -/
def CaptureStore.markKeep (k : CaptureStore) (id : ArmId) : CaptureStore :=
  { k with
    blocks := k.blocks.map fun b =>
      if b.state == .post && b.armId == some id then { b with keepMark := true } else b }

/-- What a KEEP_NOTICE for an arm id does to the blocks that carry it (R167). -/
def State.keepById (s : State) (id : ArmId) : State :=
  let waiting := s.capture.byAge s.now (s.capture.awaiting id)
  waiting.foldl State.becomeKept (s.modCapture fun k => k.markKeep id)

/-- No block carries an arm id. -/
def CaptureStore.noneCarries (k : CaptureStore) (id : ArmId) : Bool :=
  (k.awaiting id).isEmpty && !k.postCarries id && !k.keptCarries id

/-- A usable KEEP_NOTICE in HOLD, RUN or configured STOP (R167). -/
def State.takeKeepNotice (s : State) (id : ArmId) : State :=
  if s.capture.noneCarries id then
    s.modCapture fun k => { k with lateKeep := satInc k.lateKeep }
  else s.keepById id

/-! ### The decision list (R166) -/

/-- Decide one entry: where its code is away from NORMAL, queue a KEEP_NOTICE and act on the block it
was merged into. -/
def State.settleDecision (s : State) (d : Decision) : State :=
  if s.ann d.code = .normal then s
  else
    let s := s.queueFrame (.keepNotice d.armId.station d.armId.seq)
    match d.mergedInto with
    | some id => s.keepById id
    | none => s

/-- Decide and remove the entries whose count is 0.  Of several due at one expiry all are removed first and then
decided oldest first; the spec gives no order among them (DESIGN CHOICE, assumption log entry 42). -/
def State.decideDue (s : State) : State :=
  let due := s.capture.decisions.filter fun d => d.count == 0
  let s := s.modCapture fun k => { k with decisions := k.decisions.filter fun d => d.count != 0 }
  due.foldl State.settleDecision s

/-- Each count falls by 1 at an expiry. -/
def State.countDecisions (s : State) : State :=
  s.modCapture fun k =>
    { k with decisions := k.decisions.map fun d => { d with count := d.count - 1 } }

/-! ### The end of a POST (R165) -/

/-- Block order from the block after `i`, wrapping, with `i` itself last. -/
def orderAfter (n i : Nat) : List Nat := (List.range n).map fun j => (i + 1 + j) % n

/-- The next write block: the first FREE block in the order from the one after the old block. -/
def State.nextWriteBlock (s : State) (i : Nat) : State :=
  s.modCapture fun k =>
    match (orderAfter k.blocks.length i).find? fun j => (k.block j).state == .free with
    | some j => k.record j
    | none => k

/-- Block `i` is settled at the end of its POST: kept first, its KEEP_NOTICE after (assumption log entry
38). -/
def State.settlePost (s : State) (i : Nat) : State :=
  let b := s.capture.block i
  let keepLocal :=
    match b.armCode with
    | some c => s.ann c != .normal
    | none => false
  if b.keepMark || keepLocal then
    let s := s.becomeKept i
    match b.armCode, b.armId with
    | some _, some id => s.queueFrame (.keepNotice id.station id.seq)
    | _, _ => s
  else if b.armCode.isSome then
    s.modCapture fun k => k.modBlock i fun b => { b with state := .free }
  else
    s.modCapture fun k => k.modBlock i fun b =>
      { b with state := .awaitKeep, keepDeadline := some s.now, awaitSince := s.now }

/-- The POST whose counter has reached 0 ends: its block is settled, then the next write block is
chosen. -/
def State.endPost (s : State) : State :=
  match s.capture.writeBlock with
  | some i =>
    if (s.capture.block i).state = .post ∧ (s.capture.block i).post = 0 then
      (s.settlePost i).nextWriteBlock i
    else s
  | none => s

/-! ### Deadlines, release and the first write block -/

/-- The keep deadline of an AWAIT_KEEP block has run: the block becomes FREE (R167). -/
def State.expireKeep (s : State) (i : Nat) : State :=
  let b := s.capture.block i
  if b.state = .awaitKeep ∧ s.ran b.keepDeadline s.prm.keepWindow = true then
    s.modCapture fun k => k.release i
  else s

/-- RELEASE_CAPTURE on the head of the kept queue (R168, R169). -/
def State.releaseHead (s : State) : State :=
  match s.capture.kept with
  | [] => s
  | i :: rest =>
    let s := s.modCapture fun k => { k.release i with kept := rest }
    if s.capture.fullRaised then
      (s.modCapture fun k => { k with fullRaised := false }).returnAlarm .captureFull
    else s

/-- At the exit from LISTEN the store chooses its first write block, or suspends recording and raises
CAPTURE_FULL if every block is KEPT (R160, R171). -/
def State.firstWriteBlock (s : State) : State :=
  match s.capture.firstFree with
  | some i => s.modCapture fun k => k.record i
  | none => if s.capture.allKept then s.raiseFull else s

/-- A local reset keeps each KEPT block and the kept queue, and frees every other block (R171). -/
def CaptureStore.afterLocalReset (k : CaptureStore) : CaptureStore :=
  { CaptureStore.reset with
    blocks := k.blocks.map fun b => if b.state = .kept then b else { b with
      state := .free, keepDeadline := none }
    slots := k.slots
    kept := k.kept }

/-- At a good load the store is cut into BLOCKS blocks; kept blocks recorded under another BLOCKS are
freed (R159, R171). -/
def CaptureStore.divide (k : CaptureStore) (blocks : Nat) : CaptureStore :=
  if k.blocks.length = blocks then k
  else { k with blocks := List.replicate blocks CaptureBlock.blank, kept := [] }

end Sys2Proof.Machine
end

