-- ==== Sys2Proof/Machine/Duties.lean ====
section
/-!
DEFINITION. The moves of the swing, the drag supply and the walk that several events share: brake
permission (R99), the clear of a proposal (R66), the sector marks (R120), stop requests (R134), and the
opening of the transfer output (R130, R131).
-/

namespace Sys2Proof.Machine

/-- Role logic withdraws its permission: if the brake output is released it is set, and the reference,
the duty and the set time are cleared at the event (R99). -/
def State.withdrawPermission (s : State) : State :=
  if s.out.brakeSet then s
  else ((s.setBrake true).clearReference).modDrive fun d => { d with setTime := none }

/-! ### The own proposal's status -/

/-- The owner's clear request: ACTIVE or WITHDRAWING becomes NONE, number and kind are kept (R66).  On
a swing lead or solo the permission to release the brake goes with it (R99). -/
def State.clearProposal (s : State) : State :=
  match s.consent.own.status with
  | .active | .withdrawing =>
    let t := s.modOwn fun o => { o with status := .idle }
    if t.swingLead then t.withdrawPermission else t
  | .idle | .pending => s

/-! ### The swing -/

/-- SECTOR_HOLD: either held mark set (R120). -/
def RoleLogic.sectorHold (r : RoleLogic) : Bool := r.heldForward || r.heldReverse

/-- A swing that leaves FREE has both marks cleared, and SECTOR_STOP is returned if SECTOR_HOLD was set
(R120). -/
def State.dropSectorMarks (s : State) : State :=
  let t := s.modRole fun r => { r with heldForward := false, heldReverse := false }
  if s.role.sectorHold then t.returnAlarm .sectorStop else t

/-- The swing becomes LOCKED: rest time stopped, marks dropped. -/
def State.lockSwing (s : State) : State :=
  (s.modRole fun r => { r with swing := .locked, restTime := none }).dropSectorMarks

/-- The value of SWING_WITHDRAWN and of an objection's WALK_ABORTED: 10 × objector + reason (R116,
R134). -/
def objectionValue (x : Station × Reason) : Int := 10 * (stationNumber x.1 : Int) + x.2.code

/-- The withdrawal that ends raises SWING_WITHDRAWN with the objector and reason passed with it
(R116). -/
def State.raiseWithdrawn (s : State) : State :=
  match s.role.withdrawnBy with
  | some x => s.raiseWarn .swingWithdrawn (objectionValue x)
  | none => s.raiseWarn .swingWithdrawn 0

/-- A swing in FREE or WITHDRAWING at the entry to STOP (R117). -/
def State.stopSwing (s : State) : State :=
  if s.swingLead then
    match s.role.swing with
    | .free => s.lockSwing.clearProposal
    | .withdrawing => s.lockSwing.raiseWithdrawn.clearProposal
    | .locked | .proposing => s
  else s

/-- The withdraw event from the consent engine: a swing in FREE enters WITHDRAWING (R116). -/
def State.withdrawSwing (s : State) (x : Station × Reason) : State :=
  if s.role.swing = .free then
    (s.modRole fun r =>
      { r with swing := .withdrawing, restTime := none, withdrawnBy := some x }).dropSectorMarks
  else s

/-! ### The walk sequencer -/

/-- STEPPING or STOPPING: the states with references and a released cam brake (Table 8-2). -/
def WalkState.moves : WalkState → Bool
  | .stepping | .stopping => true
  | .idle | .proposing | .transfer | .halted | .forced | .returning => false

/-- Enter a walk state: the supply limit, the end time and the phase stop, and in a state other than
STEPPING and STOPPING the walk reference and both references become 0 (R132). -/
def State.enterWalk (s : State) (x : WalkState) : State :=
  s.modWalk fun w =>
    { w with
      state := x
      reference := if x.moves then w.reference else 0
      left := if x.moves then w.left else 0
      right := if x.moves then w.right else 0
      supplyLimit := none
      endTime := none
      phase := none }

/-- STOPPING in a phase (R134, R137). -/
def State.enterStopping (s : State) (p : StopPhase) : State :=
  (s.enterWalk .stopping).modWalk fun w => { w with phase := some p }

/-- The tub is bearing: every region but CARRY, and an unknown region (R123, R124). -/
def WalkSequencer.bearing (w : WalkSequencer) : Bool := w.region != some .carry

/-- The effect of a stop request by the walk state and region (R134). -/
def State.stopWalk (s : State) : State :=
  match s.walk.state with
  | .stepping => s.enterStopping (if s.walk.bearing then .ramp else .creep)
  | .transfer => (s.enterWalk .idle).clearProposal
  | .idle | .proposing | .stopping | .halted | .forced | .returning => s

/-- The walk states in which an objection or a drag going STALE raises WALK_ABORTED (R134). -/
def WalkState.aborts : WalkState → Bool
  | .transfer | .stepping | .stopping | .halted => true
  | .idle | .proposing | .forced | .returning => false

/-- A stop request that also raises WALK_ABORTED (R134). -/
def State.abortWalk (s : State) (value : Int) : State :=
  if s.walk.state.aborts then s.stopWalk.raiseWarn .walkAborted value else s.stopWalk

/-! ### The drag supply -/

/-- Entry to NORMAL: the return limit stops and TRANSFER_FAIL is returned (R130). -/
def State.supplyNormal (s : State) : State :=
  (s.modRole fun r =>
    { r with supply := .normal, transferLimit := none, returnLimit := none }).returnAlarm
      .transferFail

/-- CONTACTOR_FB is low as the drag supply finds it at an event: its debounced value is low, and no rise
of it waits to be taken in the same millisecond (R128, R130; assumption log entry 34).  All commands
that wait belong to the present millisecond, since the timer steps only while none waits. -/
def State.feedbackLow (s : State) : Bool :=
  !s.meas.contactorFb.value && !s.pending.contains .contactorFbRise

/-- The transfer output opens and the return limit starts; with CONTACTOR_FB already low the supply
state is NORMAL at that event (R130). -/
def State.openTransfer (s : State) : State :=
  let t := (s.setTransfer false).modRole fun r => { r with returnLimit := some s.now }
  if t.feedbackLow then t.supplyNormal else t

/-- Supply ends at once: reference and duty cleared, output open, RETURNING (R131). -/
def State.endSupply (s : State) : State :=
  match s.role.supply with
  | .transferring | .walkSupply =>
    ((s.clearReference).modRole fun r =>
      { r with supply := .returning, transferLimit := none }).openTransfer
  | .normal | .returning => s

/-- RETURNING is entered at a walk report of IDLE or RETURNING; the output opens at the entry if the
reference is already 0 (R130). -/
def State.returnSupply (s : State) : State :=
  let t := s.modRole fun r => { r with supply := .returning, transferLimit := none }
  if t.drive.reference = 0 then t.openTransfer else t

end Sys2Proof.Machine
end

