-- ==== Sys2Proof/Machine/Consent.lean ====
section
/-!
DEFINITION. The consent engine (chapter 4): proposing, voting, holding, echoes, objections, the
judgement at the end of the objection window, and cancels.
-/

namespace Sys2Proof.Machine

/-! ### Cancels (R65) -/

/-- The outcomes of Table 4-7. -/
inductive CancelOutcome where
  | objected (st : Station) (reason : Reason)
  | noEcho (st : Station)
  | absent (st : Station)
  | operator
  | notSent
  | yielded (st : Station)
  deriving DecidableEq, Repr

/-- The value of CONSENT_REFUSED: 1000 × outcome code + 10 × detail station + reason code (R65). -/
def CancelOutcome.value : CancelOutcome → Int
  | .objected st r => 1000 + 10 * (stationNumber st : Int) + r.code
  | .noEcho st => 2000 + 10 * (stationNumber st : Int)
  | .absent st => 3000 + 10 * (stationNumber st : Int)
  | .operator => 4000
  | .notSent => 5000
  | .yielded st => 6000 + 10 * (stationNumber st : Int)

/-- The owner is told a cancel and returns to its waiting state (R114, R126). -/
def State.tellCancel (s : State) (k : ProposalKind) : State :=
  match k with
  | .swingRelease =>
    if s.role.swing = .proposing then s.modRole fun r => { r with swing := .locked } else s
  | .walkStart => if s.walk.state = .proposing then s.enterWalk .idle else s

/-- A proposal is cancelled: status NONE, number and kind kept, both timers stopped, the owner told,
CONSENT_REFUSED raised (R65). -/
def State.cancelProposal (s : State) (o : CancelOutcome) : State :=
  let t := s.modOwn fun r => { r with status := .idle, sendLimit := none, windowTimer := none }
  let t :=
    match s.consent.own.kind with
    | some k => t.tellCancel k
    | none => t
  t.raiseWarn .consentRefused o.value

/-! ### Proposing (R50 to R53) -/

/-- The owner enters PROPOSING when the engine takes its request (R113, R126). -/
def State.tellProposing (s : State) (k : ProposalKind) : State :=
  match k with
  | .swingRelease => s.modRole fun r => { r with swing := .proposing }
  | .walkStart => s.enterWalk .proposing

/-- Step 5 of R50: PENDING, the PROPOSE queued, the send limit started. -/
def State.beginProposal (s : State) (k : ProposalKind) : State :=
  let t := s.modOwn fun r => { r with status := .pending, sendLimit := some s.now }
  t.queueFrame (.propose t.consent.own.number k)

/-- Queue an OBJECT naming a proposer and number (R57). -/
def State.objectTo (s : State) (p : Station) (n : Byte) (r : Reason) : State :=
  s.queueFrame (.object p n r)

/-- A request to propose: ignored unless the own status is NONE, and otherwise taken in the five steps
of R50. -/
def State.requestProposal (s : State) (k : ProposalKind) : State :=
  if s.consent.own.status ≠ .idle then s
  else
    let s := (s.returnAlarm .consentRefused).modOwn fun r =>
      { r with
        number := nextNumber r.number
        kind := some k
        queueTime := s.now
        objected := none
        windowStart := none
        echoSeen := Vector.replicate 8 false }
    let s := s.tellProposing k
    match s.consent.held, s.self with
    | some h, some me =>
      if h.proposer < me then s.cancelProposal (.yielded h.proposer)
      else
        ((s.modConsent fun c => { c with held := none }).objectTo h.proposer h.number
          .contending).beginProposal k
    | _, _ => s.beginProposal k

/-- The completion of the own PROPOSE with a number starts the objection window (R51). -/
def State.proposeCompleted (s : State) (n : Byte) : State :=
  let r := s.consent.own
  if r.status = .pending ∧ r.number = n ∧ r.windowStart = none then
    s.modOwn fun r =>
      { r with
        windowStart := some s.now
        echoSeen := Vector.replicate 8 false
        sendLimit := none
        windowTimer := some s.now }
  else s

/-- The send limit expires (R52): the raise comes before the removal of the PROPOSE (assumption log entry
35). -/
def State.expireSendLimit (s : State) : State :=
  let r := s.consent.own
  if r.status = .pending ∧ s.ran r.sendLimit s.prm.objectionWindow = true then
    (s.cancelProposal .notSent).removePropose r.number
  else s

/-- An echo of the current proposal in a taken report of roster station `k` (R53). -/
def State.noteEcho (s : State) (k : Station) (f : ReportFields) : State :=
  let r := s.consent.own
  if r.status = .pending ∧ r.windowStart.isSome = true ∧ k ∈ s.rosterOthers
      ∧ stationOf f.echoProposer.toNat = s.self ∧ f.echoNumber = r.number then
    s.modOwn fun r => { r with echoSeen := r.echoSeen.set k true }
  else s

/-! ### Voting (R57, R60) -/

/-- Rows 1 to 7 of Table 4-4, in order. -/
def State.voteByRole (s : State) (k : ProposalKind) : Option Reason :=
  if s.ctl.mode = .stop then some .stationStop
  else
    match k, s.ownRole with
    | .swingRelease, some .drag =>
      if s.prm.digTension < s.meas.tension then some .bucketInDig
      else if s.role.supply ≠ .normal then some .walkSupply
      else none
    | .swingRelease, some .walk => if s.walk.state ≠ .idle then some .walking else none
    | .walkStart, some .hoist =>
      if !s.atRest || decide (s.prm.groundTension ≤ s.meas.tension) then some .bucketNotGrounded
      else none
    | .walkStart, some .swing => if !s.out.brakeSet then some .swingFree else none
    | .walkStart, some .drag =>
      if !s.out.brakeSet || !s.atRest || decide (s.prm.walkDerateMax < s.heat.effective) then
        some .dragNotReady
      else none
    | _, _ => none

/-- Row 8 of Table 4-4: an own proposal that conflicts with one of `p`. -/
def State.contends (s : State) (p : Station) : Bool :=
  match s.consent.own.status, s.self with
  | .pending, some me => decide (me < p)
  | .active, _ | .withdrawing, _ => true
  | _, _ => false

/-- The vote on a proposal of `p`: the reason of the first row that applies (R57). -/
def State.vote (s : State) (p : Station) (k : ProposalKind) : Option Reason :=
  match s.voteByRole k with
  | some r => some r
  | none => if s.contends p then some .contending else none

/-- The objecting mark of the held proposal. -/
def State.setObjecting (s : State) (b : Bool) : State :=
  s.modConsent fun c => { c with held := c.held.map fun h => { h with objecting := b } }

/-- The proposal of `p` with number `n` is the one held. -/
def State.holds (s : State) (p : Station) (n : Byte) : Bool :=
  match s.consent.held with
  | some h => h.proposer == p && h.number == n
  | none => false

/-- Vote on a taken PROPOSE: queue an OBJECT on an objection and set or clear the objecting mark of the
held record (R57). -/
def State.castVote (s : State) (p : Station) (n : Byte) (k : ProposalKind) : State :=
  let v := s.vote p k
  let s := if s.holds p n then s.setObjecting v.isSome else s
  match v with
  | some r => s.objectTo p n r
  | none => s

/-- At an own report event a held proposal reported ACTIVE is voted on again: each change from
consenting to objecting queues one OBJECT (R60). -/
def State.revote (s : State) : State :=
  match s.consent.held with
  | some h =>
    if h.reported = .active then
      match s.voteByRole h.kind with
      | some r =>
        if h.objecting then s else (s.setObjecting true).objectTo h.proposer h.number r
      | none => s.setObjecting false
    else s
  | none => s

/-! ### The bystander (R54 to R59) -/

/-- Hold `p`'s proposal as a new held record, unless entry `p` is ABSENT (R55, R56). -/
def State.holdNew (s : State) (p : Station) (n : Byte) (k : ProposalKind) : State :=
  if (s.entry p).status = .absent then s
  else s.modConsent fun c => { c with held := some ⟨p, n, k, .pending, false, false⟩ }

/-- Hold a heard proposal or not while the own status is NONE (R56). -/
def State.holdByTable (s : State) (p : Station) (n : Byte) (k : ProposalKind) : State :=
  match s.consent.held with
  | none => s.holdNew p n k
  | some h =>
    if h.proposer = p then
      if h.number = n then s else s.holdNew p n k
    else if p < h.proposer then s.holdNew p n k
    else s

/-- Give way to the lower address `p`: the own proposal is cancelled with YIELDED, its PROPOSE leaves
the queue if it is not in transmission, and `p`'s proposal is held (R55); the raise of the cancel comes
before the removal (assumption log entry 35). -/
def State.yieldTo (s : State) (p : Station) (n : Byte) (k : ProposalKind) : State :=
  ((s.cancelProposal (.yielded p)).removePropose s.consent.own.number).holdNew p n k

/-- Settle what becomes of the own and the held proposal at a PROPOSE of `p` (R55, R56). -/
def State.settlePropose (s : State) (p : Station) (n : Byte) (k : ProposalKind) : State :=
  match s.consent.own.status, s.self with
  | .idle, _ => s.holdByTable p n k
  | .pending, some me => if p < me then s.yieldTo p n k else s
  | _, _ => s

/-- A well-formed PROPOSE with a usable payload, by the mode (R49, R54). -/
def State.takePropose (s : State) (p : Station) (n : Byte) (k : ProposalKind) : State :=
  if s.inService then (s.settlePropose p n k).castVote p n k
  else if s.unconfigured then s.objectTo p n .stationStop
  else s

/-- Number `m` is newer than `n`: counting on from `n` through 1 to 255 reaches `m` in 1 to 127 steps
(R58). -/
def isNewer (m n : Byte) : Bool :=
  let d := (m.toNat + 255 - n.toNat) % 255
  m != 0 && decide (1 ≤ d) && decide (d ≤ 127)

/-- The held record after a taken report of its proposer (R58). -/
def HeldRecord.afterReport (h : HeldRecord) (f : ReportFields) : Option HeldRecord :=
  if f.propNumber = h.number then
    if f.propStatus = 0 then none
    else
      some { h with confirmed := true, reported := ProposalStatus.ofCode f.propStatus.toNat }
  else if isNewer f.propNumber h.number then none
  else if f.propNumber = 0 ∧ h.confirmed = true then none
  else some h

/-- A taken report keeps the held record true (R58). -/
def State.updateHeld (s : State) (n : Station) (f : ReportFields) : State :=
  s.modConsent fun c =>
    match c.held with
    | some h => if h.proposer = n then { c with held := h.afterReport f } else c
    | none => c

/-- The held proposal is dropped when its proposer's entry becomes ABSENT (R59). -/
def State.dropHeldOf (s : State) (n : Station) : State :=
  s.modConsent fun c =>
    match c.held with
    | some h => if h.proposer = n then { c with held := none } else c
    | none => c

/-! ### Objections at the proposer (R61 to R63) -/

/-- A current OBJECT (R62, R63). -/
def State.takeCurrentObject (s : State) (x : Station × Reason) : State :=
  match s.consent.own.status with
  | .pending =>
    s.modOwn fun r => { r with objected := if r.objected.isSome then r.objected else some x }
  | .active =>
    match s.consent.own.kind with
    | some .walkStart => s.abortWalk (objectionValue x)
    | some .swingRelease | none =>
      (s.modOwn fun r => { r with status := .withdrawing }).withdrawSwing x
  | .withdrawing | .idle => s

/-- A usable OBJECT of `src` naming proposer `p`, number `n` (R61). -/
def State.takeObject (s : State) (src p : Station) (n : Byte) (r : Reason) : State :=
  if s.self ≠ some p then s
  else if s.consent.own.status ≠ .idle ∧ n = s.consent.own.number then
    s.takeCurrentObject (src, r)
  else s.modConsent fun c => { c with lateObject := satInc c.lateObject }

/-! ### Window expiry (R64) -/

/-- The own preconditions of test 4 (Table 4-6). -/
def State.preconditions (s : State) (k : ProposalKind) : Bool :=
  s.ctl.mode == .run
    && (match k with
      | .swingRelease => s.out.brakeSet
      | .walkStart => s.meas.walkCmd.value)

/-- The tests of Table 4-6 in order: the outcome of the first that fails. -/
def State.windowTests (s : State) (k : ProposalKind) : Option CancelOutcome :=
  match s.consent.own.objected with
  | some (st, r) => some (.objected st r)
  | none =>
    match s.rosterOthers.find? fun st => (s.entry st).status != .fresh with
    | some st => some (.absent st)
    | none =>
      match s.rosterOthers.find? fun st => !s.consent.own.echoSeen[st] with
      | some st => some (.noEcho st)
      | none => if s.preconditions k then none else some .operator

/-- The owner is told a commit: the swing goes FREE (R114), the walk to TRANSFER with its supply limit
started (R126). -/
def State.tellCommit (s : State) (k : ProposalKind) : State :=
  match k with
  | .swingRelease =>
    if s.role.swing = .proposing then
      s.modRole fun r =>
        { r with swing := .free, restTime := none, heldForward := false, heldReverse := false }
    else s
  | .walkStart =>
    if s.walk.state = .proposing then
      (s.enterWalk .transfer).modWalk fun w => { w with supplyLimit := some s.now }
    else s

/-- The window timer expires (R64). -/
def State.expireWindow (s : State) : State :=
  let r := s.consent.own
  if r.status = .pending ∧ s.ran r.windowTimer s.prm.objectionWindow = true then
    match r.kind with
    | none => s
    | some k =>
      match s.windowTests k with
      | some o => s.cancelProposal o
      | none =>
        (s.modOwn fun r => { r with status := .active, windowTimer := none }).tellCommit k
  else s

end Sys2Proof.Machine
end

