-- ==== Sys2Proof/Machine/Report.lean ====
section
/-!
DEFINITION. The own state report: its contents (R5, R82, R96, R106, R123, R143, R151), the own report
event with the own peer entry (R38, R60), and the report timer (R7).
-/

namespace Sys2Proof.Machine

/-! ### The contents of a report -/

/-- The report of an unconfigured STOP (R5): mode STOP, alarm summary STOP, the hold flag, the brake-set
flag, and every other field 0. -/
def State.unconfiguredFields (s : State) : ReportFields :=
  { ReportFields.zero with
    mode := 3
    holdFlag := !s.ctl.causes.isEmpty
    brakeSet := true
    summary := 3 }

/-- The phase code that a report carries: the role phase of the last expiry (R106), or on the walk
station the code of the walk state, plus 8 while the off-home flag is set (R123). -/
def State.phaseCode (s : State) : Nat :=
  if s.is .walk then s.walk.state.code + (if s.walk.offHome then 8 else 0) else s.role.phase

/-- The position field (Table 5-7). -/
def State.positionField (s : State) : Nat :=
  if s.is .hoist || s.is .drag then s.meas.payout else s.meas.angleA

/-- The tension field: on the walk station the step count modulo 65 536 (Table 5-7, R125). -/
def State.tensionField (s : State) : Word16 :=
  if s.is .walk then s.walk.stepCount.extractLsb' 0 16 else unsigned16 s.meas.tension

/-- The current field: on the walk station the right cam angle (Table 5-7). -/
def State.currentField (s : State) : Int :=
  if s.is .walk then s.meas.angleB else s.meas.current

/-- The report of a configured station, from its values as they stand. -/
def State.configuredFields (s : State) : ReportFields where
  mode := BitVec.ofNat 2 s.ctl.mode.code
  holdFlag := !s.ctl.causes.isEmpty
  brakeSet := s.out.brakeSet
  summary := s.alarmSummary
  derate := byteOf s.heat.effective
  speedRef := signed16 s.drive.duty
  speed := signed16 s.measuredSpeed
  current := signed16 s.currentField
  tension := s.tensionField
  position := unsigned16 s.positionField
  phase := byteOf s.phaseCode
  supply := if s.is .drag then byteOf s.role.supply.code else 0
  propNumber := s.consent.own.number
  propKind :=
    match s.consent.own.kind with
    | some k => BitVec.ofNat 4 k.code
    | none => 0
  propStatus := BitVec.ofNat 4 s.consent.own.status.code
  echoProposer :=
    match s.consent.held with
    | some h => byteOf (stationNumber h.proposer)
    | none => 0
  echoNumber :=
    match s.consent.held with
    | some h => h.number
    | none => 0
  refLeft := if s.is .walk then unsigned16 s.walk.left else 0
  refRight := if s.is .walk then unsigned16 s.walk.right else 0

/-- The fields of the own report as requested now. -/
def State.reportFields (s : State) : ReportFields :=
  if s.configured then s.configuredFields else s.unconfiguredFields

/-- The role field: the strapped role. -/
def State.roleBits (s : State) : BitVec 3 :=
  match s.ownRole with
  | some r => r.bits
  | none => 0

/-! ### The own report event -/

/-- The own entry takes the report as requested (R38).  An unconfigured station keeps every entry
ABSENT (R32). -/
def State.fillOwnEntry (s : State) (seq : BitVec 4) (f : ReportFields) : State :=
  match s.self with
  | some st =>
    if s.configured then
      s.modEntry st fun e =>
        { e with
          status := .fresh
          role := s.roleBits
          lastSeq := seq
          arrival := s.now
          heard := true
          fields := f }
    else s
  | none => s

/-- A request by station control to queue a STATE_REPORT: the held proposal is voted on again, the
report takes its contents and the next sequence number, the own entry takes both, and the link
controller is asked to queue it (R60, R22, R38). -/
def State.ownReport (s : State) : State :=
  let s := s.revote
  let f := s.reportFields
  let seq := s.ctl.reportSeq
  ((s.modCtl fun c => { c with reportSeq := c.reportSeq + 1 }).fillOwnEntry seq f).queueFrame
    (.stateReport seq s.roleBits f)

/-- The report timer starts or restarts now. -/
def State.startReportTimer (s : State) : State :=
  s.modCtl fun c => { c with reportTimer := some s.now }

/-- The report timer runs out: it restarts, and a report is requested (R5, R7). -/
def State.reportEvent (s : State) : State := s.startReportTimer.ownReport

end Sys2Proof.Machine
end

