-- ==== Sys2Proof/Machine/Control.lean ====
section
/-!
DEFINITION. Station control's moves: HOLD and its causes (R8, R10), STOP (R11), the forced stop of a
walk (R136), and raises of TRIP and STOP codes with what they ask of station control (R148, R151).
-/

namespace Sys2Proof.Machine

/-! ### HOLD -/

/-- A station in RUN enters HOLD (R10): the neutral time starts afresh, the target becomes 0 unless the
station serves as walk supply, and a walk station takes a stop request. -/
def State.enterHold (s : State) : State :=
  let t := (s.setMode .hold).modCtl fun c => { c with neutralSince := none }
  let t :=
    if t.role.supply = .normal then t.modDrive fun d => { d with target := 0 } else t
  if t.is .walk then t.stopWalk else t

/-- Request to add a hold cause: without effect when it is present; a station in RUN enters HOLD (R8,
R10). -/
def State.addCause (s : State) (c : HoldCause) : State :=
  if s.hasCause c then s
  else
    let t := s.putCause c true
    if t.ctl.mode = .run then t.enterHold else t

/-- LOCAL_TRIP is added; a drag in walk supply ends its supply at the event (R131, R151). -/
def State.addLocalTrip (s : State) : State :=
  if s.hasCause .localTrip then s else (s.addCause .localTrip).endSupply

/-- A raise request for a TRIP code (R148, R151). -/
def State.raiseTrip (s : State) (c : AlarmCode) (value : Int) : State :=
  if !s.alarmInUse then s
  else
    let mode := s.ctl.mode
    let first := s.alarm.tripsNormal
    let t := s.latch c value
    let t := if first then t.addLocalTrip else t
    t.armAndNotice c value mode

/-! ### The forced stop of a walk (R136) -/

/-- One forced cause. -/
inductive ForcedCause where
  | walkStopHold
  | supply
  | stop
  deriving DecidableEq, Repr

/-- The forced-cause set with one cause present or absent. -/
def ForcedCauses.put (f : ForcedCauses) (c : ForcedCause) (b : Bool) : ForcedCauses :=
  match c with
  | .walkStopHold => { f with walkStopHold := b }
  | .supply => { f with supply := b }
  | .stop => { f with stop := b }

/-- No forced cause present. -/
def ForcedCauses.isEmpty (f : ForcedCauses) : Bool := !(f.walkStopHold || f.supply || f.stop)

/-- Entry to FORCED: references 0 and cam brake set at once, the cause recorded, WALK_FORCED_STOP
raised with the left cam angle. -/
def State.enterForced (s : State) (c : ForcedCause) : State :=
  (((s.enterWalk .forced).setBrake true).modWalk fun w =>
    { w with forced := (⟨false, false, false⟩ : ForcedCauses).put c true }).raiseTrip
      .walkForcedStop s.meas.angleA

/-- A forced cause at its event: it forces STEPPING and STOPPING, and a STOP also TRANSFER and HALTED;
in FORCED it joins the set. -/
def State.forceWalk (s : State) (c : ForcedCause) : State :=
  match s.walk.state with
  | .stepping | .stopping => s.enterForced c
  | .transfer | .halted => if c = .stop then s.enterForced c else s
  | .forced => s.modWalk fun w => { w with forced := w.forced.put c true }
  | .idle | .proposing | .returning => s

/-- A forced cause is cleared; the event that empties the set returns WALK_FORCED_STOP. -/
def State.clearForced (s : State) (c : ForcedCause) : State :=
  if s.walk.forced.isEmpty then s
  else
    let t := s.modWalk fun w => { w with forced := w.forced.put c false }
    if t.walk.forced.isEmpty then t.returnAlarm .walkForcedStop else t

/-! ### STOP (R11) -/

/-- The drag supply at the entry to STOP: it ends at once, and a RETURNING drag whose output is still
closed opens it (R130, R131). -/
def State.stopSupply (s : State) : State :=
  match s.role.supply with
  | .transferring | .walkSupply => s.endSupply
  | .returning => if s.out.transferClosed then s.clearReference.openTransfer else s
  | .normal => s

/-- The safe outputs and cleared drive regulator of the entry to STOP (R11, R85, R95, R98). -/
def State.makeSafe (s : State) : State :=
  ((s.clearReference.setBrake true).setTransfer false).modDrive fun d =>
    { d with target := 0, setTime := none }

/-- What follows when STOP is entered from LISTEN or LOADING: from LISTEN the capture store chooses its
first write block; the report timer starts and the first report is queued, in a strap fault neither
(R1, R5, R7, R160). -/
def State.startReporting (s : State) (previous : Mode) : State :=
  match previous with
  | .listen => s.firstWriteBlock.startReportTimer.ownReport
  | .loading => if s.onLink then s.startReportTimer.ownReport else s
  | .hold | .run | .stop => s

/-- Entry to STOP; a station already in STOP stays there with no further change (R11). -/
def State.enterStop (s : State) : State :=
  if s.ctl.mode = .stop then s
  else
    let previous := s.ctl.mode
    let t := (s.setMode .stop).modCtl fun c => { c with listenTimer := none, neutralSince := none }
    ((t.stopSupply.makeSafe.stopSwing).forceWalk .stop).startReporting previous

/-- A raise request for a STOP code (R148, R151). -/
def State.raiseStop (s : State) (c : AlarmCode) (value : Int) : State :=
  if !s.alarmInUse then s
  else
    let mode := s.ctl.mode
    ((s.latch c value).enterStop).armAndNotice c value mode

/-- A raise request, by the severity of its code (R148). -/
def State.raise (s : State) (c : AlarmCode) (value : Int) : State :=
  match c.severity with
  | .warn => s.raiseWarn c value
  | .trip => s.raiseTrip c value
  | .stop => s.raiseStop c value

end Sys2Proof.Machine
end

