-- ==== Sys2Proof/Machine/Peer.lean ====
section
/-!
DEFINITION. The peer table's events (chapter 3) with what the other blocks do at them: a report taken
(R33 to R35), an entry going STALE or ABSENT (R36, R37), and a STOP notice (R45).

Within one event the raises and added causes come before the returns and removed causes, and several raises
or several returns have one fixed order (assumption log entry 12).
-/

namespace Sys2Proof.Machine

/-! ### Marks and judgements over the whole table -/

/-- Some entry has a mark. -/
def PeerTable.someMark (t : PeerTable) (mark : PeerEntry → Bool) : Bool := t.entries.any mark

/-- Every roster entry other than self is FRESH. -/
def State.allFresh (s : State) : Bool :=
  s.rosterOthers.all fun st => (s.entry st).status == .fresh

/-- Some roster entry other than self is ABSENT (R39). -/
def State.someAbsent (s : State) : Bool :=
  s.rosterOthers.any fun st => (s.entry st).status == .absent

/-- How many stations of a role are heard, self among them (R44). -/
def State.roleCount (s : State) (r : Role) : Nat :=
  (if s.is r then 1 else 0) + (s.heardAs r).length

/-- Some role is overfull: more than two of HOIST, DRAG or SWING, or more than one WALK (R44). -/
def State.overfull (s : State) : Bool :=
  decide (2 < s.roleCount .hoist) || decide (2 < s.roleCount .drag)
    || decide (2 < s.roleCount .swing) || decide (1 < s.roleCount .walk)

/-- A role conflict is present now (R44). -/
def State.conflictNow (s : State) : Bool :=
  s.overfull || s.peers.someMark fun e => e.changeMark

/-- The event at entry `n` makes a conflict present (R44). -/
def State.findConflict (s : State) (n : Station) : State :=
  if !s.peers.conflict && s.conflictNow then
    ((s.modPeers fun t => { t with conflict := true }).raiseTrip .roleConflict
      (stationNumber n)).addCause .roleConflict
  else s

/-- The event makes the conflict absent (R44). -/
def State.endConflict (s : State) : State :=
  if s.peers.conflict && !s.conflictNow then
    ((s.modPeers fun t => { t with conflict := false }).returnAlarm .roleConflict).removeCause
      .roleConflict
  else s

/-- PEER_STOP is added at the event that sets a stop mark while no other is set (R45).  `before` tells
whether a mark was set before the event. -/
def State.addPeerStop (s : State) (before : Bool) : State :=
  if !before && s.peers.someMark fun e => e.stopMark then s.addCause .peerStop else s

/-- PEER_STOP is removed at the event that clears the last set stop mark (R45). -/
def State.removePeerStop (s : State) (before : Bool) : State :=
  if before && !s.peers.someMark fun e => e.stopMark then s.removeCause .peerStop else s

/-- ROLE_MISMATCH is returned at the event that leaves no entry with a mismatch mark (R43). -/
def State.returnMismatch (s : State) (before : Bool) : State :=
  if before && !s.peers.someMark fun e => e.mismatchMark then s.returnAlarm .roleMismatch else s

/-- PEER_LOST is returned at the event that leaves no entry with a lost mark (R41). -/
def State.returnLost (s : State) (before : Bool) : State :=
  if before && !s.peers.someMark fun e => e.lostMark then s.returnAlarm .peerLost else s

/-- PEER_STALE is returned, and every stale mark cleared, at the event that makes every roster entry
other than self FRESH while some roster entry's stale mark is set (R40).  A mark clears at no other event
(assumption log entry 36). -/
def State.returnStale (s : State) : State :=
  if s.allFresh && s.rosterOthers.any fun st => (s.entry st).staleMark then
    (s.modPeers fun t =>
      { t with entries := t.entries.map fun e => { e with staleMark := false } }).returnAlarm
        .peerStale
  else s

/-- PICTURE_INCOMPLETE is removed at the event that leaves no roster entry other than self ABSENT
(R39). -/
def State.completePicture (s : State) : State :=
  if s.someAbsent then s else s.removeCause .pictureIncomplete

/-! ### What a taken report shows of a drag or of the walk -/

/-- An entry shows supply state `x`, coded as in the report. -/
def PeerEntry.shows (e : PeerEntry) (x : SupplyState) : Bool := e.fields.supply == byteOf x.code

/-- A drag entry is FRESH in WALK_SUPPLY. -/
def PeerEntry.supplying (e : PeerEntry) : Bool := e.status == .fresh && e.shows .walkSupply

/-- Every roster entry whose expected role is DRAG is FRESH with supply state WALK_SUPPLY (R127,
R136, R137). -/
def State.allSupplying (s : State) : Bool :=
  (s.rosterOf .drag).all fun st => (s.entry st).supplying

/-- Every roster DRAG entry is FRESH or STALE showing supply NORMAL, or ABSENT (R138). -/
def State.allHandedBack (s : State) : Bool :=
  (s.rosterOf .drag).all fun st =>
    (s.entry st).status == .absent || (s.entry st).shows .normal

/-- The station is the walk station, in a mode in which its sequencer takes events (R139). -/
def State.walkWorks (s : State) : Bool := s.is .walk && s.inService

/-- `n` is a roster entry whose expected role is DRAG. -/
def State.isRosterDrag (s : State) (n : Station) : Bool := (s.entry n).expected == some .drag

/-- In RETURNING, once every drag is handed back, the walk ends (R138). -/
def State.endReturning (s : State) : State :=
  if s.walk.state = .returning ∧ s.allHandedBack = true then (s.enterWalk .idle).clearProposal else s

/-- In TRANSFER, once every drag is in walk supply, the walk steps and the cam brake is released
(R127). -/
def State.takeUpSupply (s : State) : State :=
  if s.walk.state = .transfer ∧ s.allSupplying = true then
    (s.enterWalk .stepping).setBrake false
  else s

/-- The walk sequencer at a report taken from roster drag `n` (R127, R136, R138). -/
def State.walkTakesDrag (s : State) (n : Station) : State :=
  match s.walk.state with
  | .transfer => s.takeUpSupply
  | .stepping | .stopping | .forced =>
    let t := if (s.entry n).shows .walkSupply then s else s.forceWalk .supply
    if t.allSupplying then t.clearForced .supply else t
  | .returning => s.endReturning
  | .idle | .proposing | .halted => s

/-- The drag supply at a report taken from the walk station (R129, R130). -/
def State.dragTakesWalk (s : State) (w : WalkState) : State :=
  match s.role.supply, w with
  | .transferring, .idle | .transferring, .returning => s.returnSupply
  | .walkSupply, .idle | .walkSupply, .returning => s.returnSupply
  | .walkSupply, .forced => s.clearReference
  | _, _ => s

/-- A walk state that holds hoist and swing stations (R121): any but IDLE and PROPOSING. -/
def WalkState.walking : WalkState → Bool
  | .idle | .proposing => false
  | .transfer | .stepping | .stopping | .halted | .forced | .returning => true

/-- The station is a hoist or swing station, which holds WALK_ACTIVE (R121). -/
def State.heldByWalk (s : State) : Bool := s.is .hoist || s.is .swing

/-- WALK_ACTIVE at a report taken from the walk station (R121). -/
def State.walkActive (s : State) (w : WalkState) : State :=
  if w.walking then s.addCause .walkActive else s.removeCause .walkActive

/-- What role logic and the walk sequencer do at a report taken into entry `n` (R121, R127, R129,
R130, R136, R138). -/
def State.dutiesTake (s : State) (n : Station) (f : ReportFields) : State :=
  let s := if s.walkWorks && s.isRosterDrag n then s.walkTakesDrag n else s
  if s.walkStation = some n then
    let w := WalkState.ofPhase f.phase
    let s := if s.is .drag then s.dragTakesWalk w else s
    if s.heldByWalk then s.walkActive w else s
  else s

/-- Pair recovery at a report taken into entry `n`: PARTNER_LOST is removed at a follow, FOLLOW_LOST
returned at a lead (R103, R104). -/
def State.partnerTakes (s : State) (n : Station) : State :=
  if s.follows && s.leadStation == some n then s.removeCause .partnerLost
  else if s.ctl.place == some .lead && s.followStation == some n && s.drive.partnerMark then
    (s.modDrive fun d => { d with partnerMark := false }).returnAlarm .followLost
  else s

/-! ### Taking a report (R33 to R35) -/

/-- What a taken report adds to the gap count (R35): `d` is the step of the sequence modulo 16. -/
def gapAdd (status : EntryStatus) (d : Nat) : Nat :=
  match status with
  | .fresh => d - 1
  | .stale => if d = 0 then 15 else d - 1
  | .absent => 0

/-- A report shows a role other than the roster's. -/
def PeerEntry.mismatches (e : PeerEntry) (role : BitVec 3) : Bool :=
  match e.expected with
  | some r => role != r.bits
  | none => false

/-- An entry after a report is taken into it: fields, sequence, role, arrival, status, gap count and
marks (R35, R41, R43 to R45).  The stale mark stays: the event of R40 alone clears it (assumption log
entry 36). -/
def PeerEntry.afterReport (e : PeerEntry) (now : Time) (seq : BitVec 4) (role : BitVec 3)
    (f : ReportFields) : PeerEntry :=
  { e with
    status := .fresh
    role := role
    lastSeq := seq
    arrival := now
    heard := true
    fields := f
    gaps := satAdd e.gaps (gapAdd e.status (seq - e.lastSeq).toNat)
    lostMark := false
    mismatchMark := e.mismatches role
    changeMark := e.changeMark || (e.status == .fresh && role != e.role)
    stopMark := f.mode == 3 }

/-- UNLISTED_STATION is raised when an unlisted entry goes from ABSENT to FRESH (R42). -/
def State.raiseUnlisted (s : State) (n : Station) (old : PeerEntry) : State :=
  if old.unlisted && old.status == .absent then
    s.raiseWarn .unlistedStation (stationNumber n)
  else s

/-- ROLE_MISMATCH is raised when a roster entry's mismatch mark becomes set (R43). -/
def State.raiseMismatch (s : State) (n : Station) (old : PeerEntry) : State :=
  if !old.mismatchMark && (s.entry n).mismatchMark then
    s.raiseTrip .roleMismatch (stationNumber n)
  else s

/-- A report that is no duplicate is taken into entry `n` (R35), with the marks, alarms and causes of
3-5 to 3-7 and the reactions of the blocks that read it.  Several codes that one report returns get their
RETURNED entries in the order written here: what the walk or the supply returns, PEER_LOST, PEER_STALE,
ROLE_MISMATCH, ROLE_CONFLICT, FOLLOW_LOST.  The spec gives no order among them (DEDUCED, assumption log
entry 12). -/
def State.acceptReport (s : State) (n : Station) (seq : BitVec 4) (role : BitVec 3)
    (f : ReportFields) : State :=
  let old := s.entry n
  let lost := s.peers.someMark fun e => e.lostMark
  let mismatch := s.peers.someMark fun e => e.mismatchMark
  let stop := s.peers.someMark fun e => e.stopMark
  let s := s.modEntry n fun e => e.afterReport s.now seq role f
  let s := ((s.raiseUnlisted n old).raiseMismatch n old).findConflict n
  let s := s.addPeerStop stop
  let s := ((s.noteEcho n f).updateHeld n f).dutiesTake n f
  let s := ((s.returnLost lost).returnStale).returnMismatch mismatch
  let s := ((s.endConflict).removePeerStop stop).partnerTakes n
  s.completePicture

/-- A STATE_REPORT of station `n` reaches the peer table (R32 to R35). -/
def State.takeReport (s : State) (n : Station) (payload : List Byte) : State :=
  let seq := reportSeqOf payload
  let role := reportRoleOf payload
  let f := reportFieldsOf payload
  if !s.loaded then s
  else if !reportUsable role f then s.countMalformed
  else if (s.entry n).status = .fresh ∧ seq = (s.entry n).lastSeq then
    s.modEntry n fun e => { e with dups := satInc e.dups }
  else s.acceptReport n seq role f

/-! ### Ageing (R36) -/

/-- An entry's age in milliseconds (R36). -/
def State.age (s : State) (n : Station) : Nat := s.since (s.entry n).arrival

/-- Entry `n` would go STALE now (R36). -/
def State.staleDue (s : State) (n : Station) : Bool :=
  s.loaded && s.self != some n && (s.entry n).status == .fresh
    && decide (s.prm.staleLimit < s.age n)

/-- Entry `n` would go ABSENT now (R36). -/
def State.absentDue (s : State) (n : Station) : Bool :=
  s.loaded && s.self != some n && (s.entry n).status == .stale
    && decide (s.prm.lostLimit < s.age n)

/-- FOLLOW_LOST at a lead whose follow entry goes STALE (R104). -/
def State.partnerStale (s : State) (n : Station) : State :=
  if s.ctl.place == some .lead && s.followStation == some n then
    (s.modDrive fun d => { d with partnerMark := true }).raiseWarn .followLost (stationNumber n)
  else s

/-- The walk sequencer when roster drag `n` goes STALE: a stop request with WALK_ABORTED (R134), and
the end of a return judged (R138). -/
def State.walkDragStale (s : State) (n : Station) : State :=
  if s.walkWorks && s.isRosterDrag n then
    (s.abortWalk (100 + (stationNumber n : Int))).endReturning
  else s

/-- Entry `n` goes from FRESH to STALE (R36, R40).  PEER_STALE is raised before FOLLOW_LOST (R104) and
WALK_ABORTED (R134); the order is the model's (assumption log entry 12). -/
def State.goStale (s : State) (n : Station) : State :=
  let s := s.modEntry n fun e => { e with status := .stale, staleMark := true }
  let s :=
    if (s.entry n).expected.isSome then s.raiseWarn .peerStale (stationNumber n) else s
  (((s.findConflict n).partnerStale n).walkDragStale n).endConflict

/-- PEER_LOST and PICTURE_INCOMPLETE when a roster entry goes ABSENT (R39, R41). -/
def State.rosterLost (s : State) (n : Station) : State :=
  if (s.entry n).expected.isSome then
    (s.raiseTrip .peerLost (stationNumber n)).addCause .pictureIncomplete
  else s

/-- A follow whose lead entry goes ABSENT (R103). -/
def State.leadAbsent (s : State) (n : Station) : State :=
  if s.follows && s.leadStation == some n then s.addCause .partnerLost else s

/-- The walk sequencer when roster drag `n` goes ABSENT: the supply cause (R136), and the end of a
return judged (R138). -/
def State.walkDragAbsent (s : State) (n : Station) : State :=
  if s.walkWorks && s.isRosterDrag n then (s.forceWalk .supply).endReturning else s

/-- A drag whose walk entry goes ABSENT ends its supply (R131). -/
def State.walkAbsentAtDrag (s : State) (n : Station) : State :=
  if s.is .drag && s.walkStation == some n then s.endSupply else s

/-- A hoist or swing whose walk entry goes ABSENT drops WALK_ACTIVE (R121). -/
def State.walkAbsentHeld (s : State) (n : Station) : State :=
  if s.heldByWalk && s.walkStation == some n && (s.entry n).lostMark then
    s.removeCause .walkActive
  else s

/-- UNLISTED_STATION is returned at the event that leaves every unlisted entry ABSENT (R42). -/
def State.returnUnlisted (s : State) (n : Station) : State :=
  if (s.entry n).unlisted
      && !(s.peers.someMark fun e => e.unlisted && e.status != .absent) then
    s.returnAlarm .unlistedStation
  else s

/-- An entry after it has gone ABSENT (R37, R41). -/
def PeerEntry.afterAbsence (e : PeerEntry) : PeerEntry :=
  { e with
    status := .absent
    lostMark := e.lostMark || e.expected.isSome
    mismatchMark := false
    changeMark := false
    stopMark := false }

/-- Entry `n` goes from STALE to ABSENT (R36, R37, R39, R41).  Several codes that one absence returns get their
RETURNED entries in the order written here: what the supply returns, ROLE_MISMATCH, ROLE_CONFLICT,
UNLISTED_STATION.  The spec gives no order among them (DEDUCED, assumption log entry 12). -/
def State.goAbsent (s : State) (n : Station) : State :=
  let mismatch := s.peers.someMark fun e => e.mismatchMark
  let stop := s.peers.someMark fun e => e.stopMark
  let s := s.modEntry n PeerEntry.afterAbsence
  let s := ((s.rosterLost n).findConflict n).leadAbsent n
  let s := ((s.walkDragAbsent n).walkAbsentAtDrag n).dropHeldOf n
  let s := ((s.returnMismatch mismatch).endConflict).removePeerStop stop
  (s.returnUnlisted n).walkAbsentHeld n

/-! ### Stop notices (R45) -/

/-- A STOP-severity notice from station `n`: the stop mark of an entry that is FRESH or STALE. -/
def State.stopNotice (s : State) (n : Station) : State :=
  if s.loaded && (s.entry n).present then
    let stop := s.peers.someMark fun e => e.stopMark
    (s.modEntry n fun e => { e with stopMark := true }).addPeerStop stop
  else s

end Sys2Proof.Machine
end

