-- ==== Sys2Proof/Machine/Parameters.lean ====
section
/-!
DEFINITION. The parameter block (R2 to R5, Table 12-11): its layout, the load checks of Table 1-2 in
their order, the places of R6, and what a good load starts.
-/

namespace Sys2Proof.Machine

/-! ### The layout -/

/-- Byte `i` of the serial memory; what does not answer reads as all ones (R2). -/
def memoryByte (memory : List Byte) (i : Nat) : Byte := memory.getD i 0xFF

/-- One byte of the block as a number. -/
def u8 (b : List Byte) (o : Nat) : Nat := (byteAt b o).toNat

/-- Two bytes of the block, high byte first. -/
def u16 (b : List Byte) (o : Nat) : Nat := u8 b o * 256 + u8 b (o + 1)

/-- Four bytes of the block, high byte first. -/
def u32 (b : List Byte) (o : Nat) : Nat := u16 b o * 65536 + u16 b (o + 2)

/-- `n` two-byte fields from an offset on. -/
def u16s (b : List Byte) (o n : Nat) : List Nat := (List.range n).map fun i => u16 b (o + 2 * i)

/-- The parameters of a block in the layout of Table 12-11. -/
def Params.parse (b : List Byte) : Params where
  reportInterval := u8 b 3
  staleLimit := u16 b 4
  lostLimit := u16 b 6
  objectionWindow := u16 b 8
  regInterval := u8 b 10
  digTension := u16 b 11
  groundTension := u16 b 13
  zeroBand := u8 b 15
  walkDerateMax := u8 b 16
  msCentre := u16 b 17
  armIPed := u16 b 19
  armVPed := u16 b 21
  fieldIPed := u16 b 23
  vbEnable := u8 b 25
  iScale := u16 b 26
  vScale := u16 b 28
  fScale := u16 b 30
  tensionTable := u16s b 32 33
  speedK := u32 b 98
  countsPerM := u8 b 102
  homePayout := u16 b 103
  countsPerTurn := u16 b 105
  tachTol := u16 b 107
  msDead := u8 b 109
  msSpan := u16 b 110
  pSlow := u16 b 112
  pStop := u16 b 114
  dSlow := u16 b 116
  dStop := u16 b 118
  creep := u16 b 120
  accRate := u16 b 122
  decRate := u16 b 124
  holdDecRate := u16 b 126
  ratedLimit := u16 b 128
  clGain := u16 b 130
  shareGain := u16 b 132
  shareMax := u8 b 134
  soloSpeed := u16 b 135
  brakeSetDelay := u16 b 137
  fieldMin := u16 b 139
  fieldMax := u16 b 141
  armVMax := u16 b 143
  boomLimit := u16 b 145
  boomTable := u16s b 147 9
  dMax := u16 b 165
  boomGain := u16 b 167
  staleCreep := u16 b 169
  swingSetDelay := u16 b 171
  sectorEnable := u8 b 173
  sLo := u16 b 174
  sHi := u16 b 176
  dFull := u16 b 178
  sectorMargin := u16 b 180
  shoeDown := u16 b 182
  liftOff := u16 b 184
  tubDown := u16 b 186
  shoeUp := u16 b 188
  homeBand := u8 b 190
  phaseSpeed := u16s b 191 5
  walkAcc := u16 b 201
  walkDec := u16 b 203
  walkCreep := u16 b 205
  skewGain := u16 b 207
  skewTrimMax := u8 b 209
  skewStop := u16 b 210
  walkEndDelay := u16 b 212
  heatShift := u8 b 214
  hTrip := u32 b 215
  hReset := u32 b 219
  hStop := u32 b 223
  warnMask := BitVec.ofNat 32 (u32 b 227)
  noticeWarn := u8 b 231
  armMask := BitVec.ofNat 32 (u32 b 232)
  blocks := u8 b 236
  postSamples := u16 b 237
  ct1 := u16 b 239
  ct2 := u16 b 241
  ct3 := u16 b 243
  ct4 := u16 b 245
  glitch := u8 b 247
  keepWindow := u16 b 248

/-- The roster as stored: station number and role code of each entry. -/
def rosterFields (b : List Byte) (count : Nat) : List (Nat × Nat) :=
  (List.range count).map fun i => (u8 b (251 + 2 * i), u8 b (252 + 2 * i))

/-! ### Field ranges (check 4) -/

/-- `lo ≤ x ≤ hi`. -/
def within (lo hi x : Nat) : Bool := decide (lo ≤ x) && decide (x ≤ hi)

/-- The ranges of chapters 1, 3, 4 and of Table 4-2. -/
def Params.commonRanges (p : Params) : Bool :=
  within 10 255 p.reportInterval && within 20 500 p.staleLimit && within 100 3000 p.lostLimit
    && within 40 1000 p.objectionWindow
    && (p.regInterval == 1 || p.regInterval == 2 || p.regInterval == 4)
    && within 0 32767 p.digTension && within 0 32767 p.groundTension && within 1 100 p.zeroBand
    && within 0 7 p.walkDerateMax

/-- The ranges of Table 5-2. -/
def Params.measureRanges (p : Params) : Bool :=
  within 0 4095 p.msCentre && within 0 4095 p.armIPed && within 0 4095 p.armVPed
    && within 0 4095 p.fieldIPed && within 0 1 p.vbEnable && within 64 4096 p.iScale
    && within 64 4096 p.vScale && within 64 4096 p.fScale
    && p.tensionTable.all (within 0 32767) && within 1000 16000000 p.speedK
    && within 10 100 p.countsPerM && within 0 65535 p.homePayout
    && within 400 60000 p.countsPerTurn && within 10 500 p.tachTol

/-- The ranges of Table 6-1. -/
def Params.driveRanges (p : Params) : Bool :=
  within 0 200 p.msDead && within 400 2047 p.msSpan && within 0 65535 p.pSlow
    && within 0 65535 p.pStop && within 0 65535 p.dSlow && within 0 65535 p.dStop
    && within 10 500 p.creep && within 50 5000 p.accRate && within 50 5000 p.decRate
    && within 50 5000 p.holdDecRate && within 100 2500 p.ratedLimit && within 1 1024 p.clGain
    && within 0 1000 p.shareGain && within 0 200 p.shareMax && within 0 1000 p.soloSpeed
    && within 50 5000 p.brakeSetDelay && within 0 1000 p.fieldMin && within 100 2500 p.fieldMax
    && within 100 2047 p.armVMax

/-- The ranges of Table 7-1. -/
def Params.roleRanges (p : Params) : Bool :=
  within 1000 60000 p.boomLimit && p.boomTable.all (within 0 1000) && within 100 65535 p.dMax
    && within 0 1024 p.boomGain && within 10 500 p.staleCreep && within 500 10000 p.swingSetDelay
    && within 0 1 p.sectorEnable && within 0 3599 p.sLo && within 0 3599 p.sHi
    && within 0 1800 p.dFull && within 0 300 p.sectorMargin

/-- The ranges of Table 8-1; the four cam angles have check 10 alone. -/
def Params.walkRanges (p : Params) : Bool :=
  within 1 100 p.homeBand && p.phaseSpeed.all (within 0 1000) && within 50 5000 p.walkAcc
    && within 50 5000 p.walkDec && within 10 300 p.walkCreep && within 0 1000 p.skewGain
    && within 0 200 p.skewTrimMax && within 10 900 p.skewStop && within 2000 30000 p.walkEndDelay

/-- The ranges of Table 9-1. -/
def Params.heatRanges (p : Params) : Bool :=
  within 12 20 p.heatShift && within 1 6250000 p.hTrip && within 1 6250000 p.hReset
    && within 1 6250000 p.hStop

/-- WARN_MASK names WARN codes alone, and bits 27 to 31 of both masks are 0 (R4, R147). -/
def Params.maskRanges (p : Params) : Bool :=
  (allCodes.all fun c => c.isWarn || !p.warnMask.getLsbD c.index)
    && p.warnMask.extractLsb' 27 5 == 0 && within 0 1 p.noticeWarn
    && p.armMask.extractLsb' 27 5 == 0

/-- The ranges of Table 11-1. -/
def Params.captureRanges (p : Params) : Bool :=
  (p.blocks == 4 || p.blocks == 8) && within 16 256 p.postSamples && within 0 32767 p.ct1
    && within 0 32767 p.ct2 && within 0 32767 p.ct3 && within 0 32767 p.ct4
    && (p.glitch == 1 || p.glitch == 2) && within 100 5000 p.keepWindow

/-- Every field lies within its range or list (check 4 of Table 1-2). -/
def Params.inRange (p : Params) : Bool :=
  p.commonRanges && p.measureRanges && p.driveRanges && p.roleRanges && p.walkRanges
    && p.heatRanges && p.maskRanges && p.captureRanges

/-! ### Checks 5 to 12 -/

/-- No element of a list is less than the one before it (check 8). -/
def nonDecreasing : List Nat → Bool
  | [] => true
  | [_] => true
  | x :: y :: l => decide (x ≤ y) && nonDecreasing (y :: l)

/-- Each element of a list is greater than the one before it (check 11). -/
def increasing : List Nat → Bool
  | [] => true
  | [_] => true
  | x :: y :: l => decide (x < y) && increasing (y :: l)

/-- How often a role code stands in a roster. -/
def roleCodeCount (r : List (Nat × Nat)) (code : Nat) : Nat := (r.filter fun e => e.2 == code).length

/-- The roster form (check 11). -/
def rosterFormed (r : List (Nat × Nat)) : Bool :=
  within 1 8 r.length && (r.all fun e => within 1 8 e.1 && within 1 4 e.2)
    && increasing (r.map Prod.fst) && decide (roleCodeCount r 1 ≤ 2)
    && decide (roleCodeCount r 2 ≤ 2) && decide (roleCodeCount r 3 ≤ 2)
    && decide (roleCodeCount r 4 ≤ 1)

/-- The length check (R2, check 1). -/
def lengthGood (b : List Byte) : Bool :=
  let l := u16 b 0
  within 253 512 l && l == 253 + 2 * u8 b 250

/-- The check value over every byte before it (R3, check 2). -/
def checkGood (b : List Byte) : Bool :=
  let n := u16 b 0 - 2
  (crc (bitsOfBytes (b.take n))).toNat == u16 b n

/-- The load checks of Table 1-2 in order: the number of the first that fails, or 0.  `own` and `role`
are the strapped number and role code. -/
def loadChecks (b : List Byte) (own role : Nat) : Nat :=
  let p := Params.parse b
  let r := rosterFields b (u8 b 250)
  if !lengthGood b then 1
  else if !checkGood b then 2
  else if u8 b 2 ≠ 1 then 3
  else if !p.inRange then 4
  else if p.pSlow ≤ p.pStop ∨ p.dSlow ≤ p.dStop then 5
  else if p.lostLimit ≤ p.staleLimit ∨ p.lostLimit < 3 * p.reportInterval then 6
  else if p.objectionWindow < 2 * p.reportInterval + 10 then 7
  else if !nonDecreasing p.tensionTable then 8
  else if slotCount / p.blocks / 2 < p.postSamples then 9
  else if ¬(0 < p.shoeDown ∧ p.shoeDown < p.liftOff ∧ p.liftOff < p.tubDown
      ∧ p.tubDown < p.shoeUp ∧ p.shoeUp < 3600) then 10
  else if !rosterFormed r then 11
  else if (own, role) ∉ r then 12
  else 0

/-! ### A good load -/

/-- The roster of a well-formed block. -/
def rosterOfFields (r : List (Nat × Nat)) : List RosterEntry :=
  r.filterMap fun e =>
    match stationOf e.1, Role.ofCode e.2 with
    | some st, some role => some ⟨st, role⟩
    | _, _ => none

/-- The place of a roster station (R6): solo where it is alone in its role, else lead for the lower
number and follow for the other. -/
def placeIn (roster : List RosterEntry) (e : RosterEntry) : Place :=
  let same := roster.filter fun x => x.role == e.role
  if same.length ≤ 1 then .solo
  else if same.all fun x => decide (e.station ≤ x.station) then .lead
  else .follow

/-- The roster entry of a station, if it has one. -/
def rosterEntry (roster : List RosterEntry) (st : Station) : Option RosterEntry :=
  roster.find? fun e => e.station == st

/-- The peer table takes its places, expected roles and unlisted marks from the roster (R31). -/
def PeerTable.enlist (t : PeerTable) (roster : List RosterEntry) : PeerTable :=
  { t with
    entries := Vector.ofFn fun st : Fin 8 =>
      let e := t.entries[st]
      match rosterEntry roster st with
      | some x =>
        { e with unlisted := false, expected := some x.role, place := some (placeIn roster x) }
      | none => { e with unlisted := true, expected := none, place := none } }

/-- Station control freezes parameters, roster and place, and enters LISTEN; PICTURE_INCOMPLETE is
present if the roster names another station (R5 to R8). -/
def State.freeze (s : State) (p : Params) (roster : List RosterEntry) (self : Station) : State :=
  ((s.modCtl fun c =>
      { c with
        params := some p
        roster := roster
        place := (rosterEntry roster self).map (placeIn roster)
        causes := { HoldCauses.empty with
          pictureIncomplete := roster.any fun e => e.station != self }
        listenTimer := some s.now }).modPeers fun t => t.enlist roster).setMode .listen

/-- The measurement unit starts: the regulation timer and both period timers (R67, R75). -/
def State.startMeasuring (s : State) : State :=
  s.modMeas fun m =>
    { m with regTimer := some s.now, timerA := PulseTimer.reset, timerB := PulseTimer.reset }

/-- A home event on PULSE_A of a hoist or drag (R77). -/
def Measurement.homePayout (m : Measurement) : Measurement :=
  { m with payCount := 0, homedA := true }

/-- A home event of the swing angle or left cam (R78). -/
def Measurement.homeLeft (m : Measurement) : Measurement := { m with turnA := 0, homedA := true }

/-- A home event of the right cam (R78). -/
def Measurement.homeRight (m : Measurement) : Measurement := { m with turnB := 0, homedB := true }

/-- A home input already high at the good load is a home event (R77, R78). -/
def State.homeAtLoad (s : State) : State :=
  match s.ownRole with
  | some .hoist | some .drag =>
    if s.meas.limit.value then s.modMeas Measurement.homePayout else s
  | some .swing => if s.meas.homeL.value then s.modMeas Measurement.homeLeft else s
  | some .walk =>
    let t := if s.meas.homeL.value then s.modMeas Measurement.homeLeft else s
    if s.meas.homeR.value then t.modMeas Measurement.homeRight else t
  | none => s

/-- TWO_BLOCK: the two-block switch is found closed (R108). -/
def State.raiseTwoBlock (s : State) : State :=
  s.raiseWarn .twoBlock (min s.meas.payout 32767 : Nat)

/-- What role logic finds at the good load: a hoist's closed two-block switch (R108) and a drag's
closed feedback (R131). -/
def State.dutiesAtLoad (s : State) : State :=
  match s.ownRole with
  | some .hoist => if s.meas.limit.value then s.raiseTwoBlock else s
  | some .drag =>
    if s.meas.contactorFb.value then s.modRole fun r => { r with closedLimit := some s.now } else s
  | some .swing | some .walk | none => s

/-- A good load (R5). -/
def State.goodLoad (s : State) (b : List Byte) (self : Station) : State :=
  let p := Params.parse b
  let roster := rosterOfFields (rosterFields b (u8 b 250))
  let t := (s.freeze p roster self).modCapture fun k => k.divide p.blocks
  t.startMeasuring.homeAtLoad.dutiesAtLoad

/-- The bytes of the block that station control reads: as many as its length field says, and none past
byte 511 (R2). -/
def blockOf (memory : List Byte) : List Byte :=
  (List.range (min 512 (u16 [memoryByte memory 0, memoryByte memory 1] 0))).map (memoryByte memory)

/-- The end of the SPI read (R2 to R5), in LOADING after a good strap read. -/
def State.loadBlock (s : State) (memory : List Byte) : State :=
  match s.ctl.mode, s.self, s.ownRole with
  | .loading, some self, some role =>
    let b := blockOf memory
    let n := loadChecks b (stationNumber self) role.code
    if n = 0 then s.goodLoad b self else s.raiseStop .configBad n
  | _, _, _ => s

end Sys2Proof.Machine
end

