-- ==== Sys2Proof/Machine/Measure.lean ====
section
/-!
DEFINITION. The measurement unit (chapter 5): conversion and scaling, the variable baseline, tension,
pulse edges and speeds, positions, and the speed cross-check.
-/

namespace Sys2Proof.Machine

/-! ### Analog channels (R68 to R73) -/

/-- Saturated to 12 bits signed (R68). -/
def sat12 (x : Int) : Int := clamp (-2048) 2047 x

/-- A raw value less its pedestal, saturated (R68). -/
def lessPedestal (raw : BitVec 12) (pedestal : Nat) : Int := sat12 ((raw.toNat : Int) - pedestal)

/-- A corrected value times a scale, divided by 1024, truncated and clamped (R71, R72). -/
def scaled (x : Int) (scale : Nat) (limit : Int) : Int :=
  clamp (-limit) limit ((x * scale).tdiv 1024)

/-- The baseline after an update (R70). -/
def baselineStep (vb x : Int) : Int := clamp (-64) 64 (vb + (x - vb).tdiv 16)

/-- A point of the tension table. -/
def tensionPoint (table : List Nat) (i : Nat) : Nat := table.getD i 0

/-- The tension at a current (R73). -/
def tensionAt (table : List Nat) (current : Int) : Nat :=
  let a := current.natAbs
  if 2048 ≤ a then tensionPoint table 32
  else
    let lo : Int := tensionPoint table (a / 64)
    let hi : Int := tensionPoint table (a / 64 + 1)
    (lo + ((hi - lo) * ((a % 64 : Nat) : Int) + 32).fdiv 64).toNat

/-- The analog values of an expiry from the raw readings; `learn` tells whether VB is updated (R68 to
R73). -/
def Measurement.convert (m : Measurement) (p : Params) (raw : Analog) (learn : Bool) :
    Measurement :=
  let x := lessPedestal raw.armI p.armIPed
  let armI := if p.vbEnable = 1 then sat12 (x - m.vb) else x
  let armV := lessPedestal raw.armV p.armVPed
  let current := scaled armI p.iScale 2500
  { m with
    master := lessPedestal raw.master p.msCentre
    armV := armV
    vb := if p.vbEnable = 1 ∧ learn = true then baselineStep m.vb x else m.vb
    current := current
    tension := tensionAt p.tensionTable current
    voltageSpeed := scaled armV p.vScale 1500
    fieldCurrent := scaled (lessPedestal raw.fieldI p.fieldIPed) p.fScale 2500 }

/-- The conditions of R70 as they stand now: brake output set, duty 0, mode HOLD or RUN. -/
def State.quietNow (s : State) : Bool :=
  s.out.brakeSet && s.drive.duty == 0 && (s.ctl.mode == .hold || s.ctl.mode == .run)

/-! ### Pulse pairs (R74 to R76) -/

/-- The reading of a period timer `us` microseconds into the present millisecond step. -/
def PulseTimer.reading (t : PulseTimer) (us : Nat) : Nat := min 65535 (t.count + (us - t.since))

/-- A count edge at a period timer (R75). -/
def PulseTimer.edge (t : PulseTimer) (forward : Bool) (us : Nat) : PulseTimer :=
  let r := t.reading us
  { forward := forward
    held :=
      if t.edgeSeen && t.forward == forward && decide (r < 65535) then some (max 1 r) else none
    count := 0
    since := us
    edgeSeen := true }

/-- The millisecond step ends: the timer goes on to the start of the next one. -/
def PulseTimer.advance (t : PulseTimer) : PulseTimer :=
  { t with count := min 65535 (t.count + (1000 - t.since)), since := 0 }

/-- The held period at an expiry: discarded at the timeout (R76). -/
def PulseTimer.atExpiry (t : PulseTimer) : PulseTimer :=
  if t.count = 65535 then { t with held := none } else t

/-- The speed a period timer gives at an expiry (R76). -/
def PulseTimer.speed (t : PulseTimer) (speedK : Nat) : Int :=
  match t.held with
  | none => 0
  | some h =>
    if t.count = 65535 then 0
    else
      let v : Int := min 1500 (speedK / max h t.count)
      if t.forward then v else -v

/-- The line levels, phase 1 then phase 2, run 00, 01, 11, 10, 00 forward: a change of phase 2 is
forward when it leaves the lines at different levels, a change of phase 1 when it leaves them equal
(R74). -/
def edgeForward (changed : Phase) (after : PairLines) : Bool :=
  match changed with
  | .phase2 => after.phase1 != after.phase2
  | .phase1 => after.phase1 == after.phase2

/-- The lines after one of them has changed. -/
def PairLines.flip (l : PairLines) : Phase → PairLines
  | .phase1 => { l with phase1 := !l.phase1 }
  | .phase2 => { l with phase2 := !l.phase2 }

/-- A turn count after one edge (R78). -/
def turnStep (perTurn turn : Nat) (forward : Bool) : Nat :=
  if forward then (if turn + 1 < perTurn then turn + 1 else 0)
  else if turn = 0 then perTurn - 1
  else turn - 1

/-- The PULSE_A counter in the form that Table 5-5 gives the role. -/
def Measurement.countA (m : Measurement) (role : Option Role) (perTurn : Nat) (forward : Bool) :
    Measurement :=
  match role with
  | some .hoist | some .drag =>
    { m with payCount := if forward then m.payCount + 1 else m.payCount - 1 }
  | some .swing | some .walk => { m with turnA := turnStep perTurn m.turnA forward }
  | none => m

/-- The PULSE_B counter: the right cam's turn count on the walk station, none elsewhere. -/
def Measurement.countB (m : Measurement) (role : Option Role) (perTurn : Nat) (forward : Bool) :
    Measurement :=
  match role with
  | some .walk => { m with turnB := turnStep perTurn m.turnB forward }
  | some .hoist | some .drag | some .swing | none => m

/-- A count edge of a pair (R74, R75): the lines follow, and after the good load the counter moves and
the period timer takes the edge. -/
def State.countEdge (s : State) (pair : PairId) (phase : Phase) (us : Nat) : State :=
  match pair with
  | .pulseA =>
    let lines := s.pins.pulseA.flip phase
    let forward := edgeForward phase lines
    let t := s.modPins fun x => { x with pulseA := lines }
    if s.loaded then
      t.modMeas fun m =>
        { m.countA s.ownRole s.prm.countsPerTurn forward with timerA := m.timerA.edge forward us }
    else t
  | .pulseB =>
    let lines := s.pins.pulseB.flip phase
    let forward := edgeForward phase lines
    let t := s.modPins fun x => { x with pulseB := lines }
    if s.loaded then
      t.modMeas fun m =>
        { m.countB s.ownRole s.prm.countsPerTurn forward with timerB := m.timerB.edge forward us }
    else t

/-- A skip of a pair (R74): both lines changed, and QUAD_SKIP is incremented after the good load. -/
def State.skipEdge (s : State) (pair : PairId) : State :=
  let t := s.modPins fun x =>
    match pair with
    | .pulseA => { x with pulseA := (x.pulseA.flip .phase1).flip .phase2 }
    | .pulseB => { x with pulseB := (x.pulseB.flip .phase1).flip .phase2 }
  if s.loaded then t.modMeas fun m => { m with quadSkip := satInc m.quadSkip } else t

/-! ### Speeds and positions at an expiry (R76 to R78) -/

/-- The speeds of both pairs. -/
def Measurement.formSpeeds (m : Measurement) (speedK : Nat) : Measurement :=
  { m with
    speedA := m.timerA.speed speedK
    speedB := m.timerB.speed speedK
    timerA := m.timerA.atExpiry
    timerB := m.timerB.atExpiry }

/-- The payout of a counter (R77). -/
def payoutOf (p : Params) (count : Word16) : Nat :=
  (clamp 0 65535 ((p.homePayout : Int) + (count.toInt * 100).tdiv p.countsPerM)).toNat

/-- The angle of a turn count (R78). -/
def angleOf (p : Params) (turn : Nat) : Nat := turn * 3600 / p.countsPerTurn

/-- The positions of a role (Table 5-1). -/
def Measurement.formPositions (m : Measurement) (p : Params) (role : Option Role) : Measurement :=
  match role with
  | some .hoist | some .drag => { m with payout := payoutOf p m.payCount }
  | some .swing => { m with angleA := angleOf p m.turnA }
  | some .walk => { m with angleA := angleOf p m.turnA, angleB := angleOf p m.turnB }
  | none => m

/-! ### The speed cross-check (R81) -/

/-- How long an excess or a recovery must hold (R81): 200 ms. -/
def tachTime : Nat := 200

/-- Motor speed − voltage speed. -/
def Measurement.speedDifference (m : Measurement) : Int := m.speedB - m.voltageSpeed

/-- The comparison is made: hoist and drag, and a drag only in normal supply. -/
def State.tachCompared (s : State) : Bool :=
  s.is .hoist || (s.is .drag && s.role.supply == .normal)

/-- The comparison of one expiry starts and stops the excess and the recovery time.  Whether it is made is judged
at the expiries: a supply state that leaves NORMAL and is NORMAL again before the next one stops no time
(DEDUCED, assumption log entry 39). -/
def State.watchTach (s : State) : State :=
  let apart := decide (s.prm.tachTol < s.meas.speedDifference.natAbs)
  let compared := s.tachCompared
  s.modMeas fun m =>
    { m with
      tachExcess := if compared && !m.tachRaised && apart then s.running m.tachExcess else none
      tachRecovery :=
        if compared && m.tachRaised && !apart then s.running m.tachRecovery else none }

/-- The excess time has run while the comparison is made: TACH_FAULT is raised. -/
def State.expireTachExcess (s : State) : State :=
  if s.loaded && s.tachCompared && !s.meas.tachRaised && s.ran s.meas.tachExcess tachTime then
    (s.modMeas fun m => { m with tachRaised := true, tachExcess := none }).raiseTrip .tachFault
      s.meas.speedDifference
  else s

/-- The recovery time has run while the comparison is made: TACH_FAULT is returned. -/
def State.expireTachRecovery (s : State) : State :=
  if s.loaded && s.tachCompared && s.meas.tachRaised && s.ran s.meas.tachRecovery tachTime then
    (s.modMeas fun m => { m with tachRaised := false, tachRecovery := none }).returnAlarm
      .tachFault
  else s

/-- The cross-check of one expiry. -/
def State.checkTach (s : State) : State := s.watchTach.expireTachExcess.expireTachRecovery

/-! ### The measurement of one expiry -/

/-- The values of one expiry (R67): the walk station converts no channel. -/
def State.formValues (s : State) (raw : Analog) : State :=
  let learn := s.meas.quiet && s.quietNow
  let p := s.prm
  let walk := s.is .walk
  let role := s.ownRole
  s.modMeas fun m =>
    let m := if walk then m else m.convert p raw learn
    (m.formSpeeds p.speedK).formPositions p role

/-- Measurement at one expiry of the regulation timer. -/
def State.measure (s : State) (raw : Analog) : State := (s.formValues raw).checkTach

/-- What the next expiry needs to know of the interval that starts now (R70). -/
def State.noteQuiet (s : State) : State :=
  let q := s.quietNow
  s.modMeas fun m => { m with quiet := q }

end Sys2Proof.Machine
end

