-- ==== Sys2Proof/Machine/RoleLimits.lean ====
section
/-!
DEFINITION. What role logic gives the drive regulator (chapter 7): the zone limit (R89), the boom factor
and the boom guard (R109, R111), the stale-hoist limit (R112), and the sector rule (R119, R120).
-/

namespace Sys2Proof.Machine

/-! ### The zone (R89) -/

/-- The slowdown point of the role. -/
def State.slowPoint (s : State) : Nat := if s.is .hoist then s.prm.pSlow else s.prm.dSlow

/-- The stop point of the role. -/
def State.stopPoint (s : State) : Nat := if s.is .hoist then s.prm.pStop else s.prm.dStop

/-- The zone limit: the first row of the table of R89 that holds. -/
def State.zoneLimit (s : State) : Nat :=
  let p := s.meas.payout
  let creep := s.prm.creep
  if s.meas.limit.value = true ∨ p ≤ s.stopPoint then 0
  else if !s.meas.homedA then creep
  else if s.slowPoint ≤ p then 1000
  else creep + (1000 - creep) * (p - s.stopPoint) / (s.slowPoint - s.stopPoint)

/-! ### The boom (R109, R111) -/

/-- A point of the boom table. -/
def boomPoint (table : List Nat) (j : Nat) : Nat := table.getD j 0

/-- The boom factor at a drag payout (R109). -/
def boomFactor (p : Params) (payout : Nat) : Nat :=
  if p.dMax ≤ payout then boomPoint p.boomTable 8
  else
    let q := payout * 8
    let j := q / p.dMax
    let lo : Int := boomPoint p.boomTable j
    let hi : Int := boomPoint p.boomTable (j + 1)
    (lo + ((hi - lo) * ((q % p.dMax : Nat) : Int)).tdiv p.dMax).toNat

/-- The share of the allowed drag tension (R111, steps 2 and 3). -/
def boomShare (p : Params) (hoistSum k count : Nat) : Nat :=
  (if p.boomLimit ≤ hoistSum then 0 else (p.boomLimit - hoistSum) * 1000 / k) / count

/-- The boom excess of a drag in normal supply (R111). -/
def State.boomGuard (s : State) : Int :=
  let k := boomFactor s.prm s.meas.payout
  if k = 0 then 0
  else
    let share := boomShare s.prm (s.pairSum .hoist) k (s.pairCount .drag)
    if share < s.meas.tension then
      (((s.meas.tension - share) * s.prm.boomGain / 256 : Nat) : Int)
    else 0

/-- A drag that drives its own motion: supply state NORMAL. -/
def State.normalDrag (s : State) : Bool := s.is .drag && s.role.supply == .normal

/-- A drag that serves or hands over its generator: supply state not NORMAL. -/
def State.supplyDrag (s : State) : Bool := s.is .drag && s.role.supply != .normal

/-- The boom excess Eb of a step: the guard's on a drag in normal supply, 0 elsewhere (R93, R111). -/
def State.stepExcess (s : State) : Int := if s.normalDrag then s.boomGuard else 0

/-- Some roster entry whose expected role is HOIST is STALE (R112). -/
def State.hoistStale (s : State) : Bool :=
  (s.rosterOf .hoist).any fun st => (s.entry st).status == .stale

/-! ### The forbidden sector (R119, R120) -/

/-- A difference of angles modulo a turn. -/
def angleMod (x : Int) : Nat := (x % 3600).toNat

/-- Angle `a` lies inside the sector (R119). -/
def insideSector (p : Params) (a : Nat) : Bool :=
  decide (angleMod ((a : Int) - p.sLo) < angleMod ((p.sHi : Int) - p.sLo))

/-- The stopping distance from a speed (R119). -/
def stoppingDistance (p : Params) (v : Int) : Nat := p.dFull * (v.natAbs * v.natAbs) / 1000000

/-- The clockwise direction is in reach (R119). -/
def reachForward (p : Params) (a : Nat) (v : Int) : Bool :=
  let x : Int := a
  if insideSector p a then decide (angleMod (x - p.sLo) + 1 < angleMod (p.sHi - x))
  else
    decide (angleMod (p.sLo - x) ≤ (if 0 < v then stoppingDistance p v else 0) + p.sectorMargin)

/-- The anticlockwise direction is in reach; inside the sector also on equal costs (R119). -/
def reachReverse (p : Params) (a : Nat) (v : Int) : Bool :=
  let x : Int := a
  if insideSector p a then decide (angleMod (p.sHi - x) ≤ angleMod (x - p.sLo) + 1)
  else
    decide (angleMod (x - p.sHi) + 1
      ≤ (if v < 0 then stoppingDistance p v else 0) + p.sectorMargin)

/-- The sector rule is in force at a step: a swing lead or solo in FREE, the sector enabled and not
empty (R119). -/
def State.sectorInForce (s : State) : Bool :=
  s.swingLead && s.role.swing == .free && s.prm.sectorEnable == 1 && s.prm.sLo != s.prm.sHi

/-- The sector rule judges distances: the swing angle is homed. -/
def State.sectorJudged (s : State) : Bool := s.sectorInForce && s.meas.homedA

/-- The clockwise direction is in reach at the step. -/
def State.inReachForward (s : State) : Bool := reachForward s.prm s.meas.angleA s.meas.speedB

/-- The anticlockwise direction is in reach at the step. -/
def State.inReachReverse (s : State) : Bool := reachReverse s.prm s.meas.angleA s.meas.speedB

/-- The held marks and SECTOR_STOP at a step with command `c` (R120, steps 1 and 2). -/
def State.sectorMarks (s : State) (c : Int) : State :=
  if s.sectorJudged then
    let was := s.role.sectorHold
    let fwd := decide (0 < c) && (s.role.heldForward || s.inReachForward)
    let rev := decide (c < 0) && (s.role.heldReverse || s.inReachReverse)
    let t := s.modRole fun r => { r with heldForward := fwd, heldReverse := rev }
    if !was && t.role.sectorHold then t.raiseWarn .sectorStop s.meas.angleA
    else if was && !t.role.sectorHold then t.returnAlarm .sectorStop
    else t
  else s

/-- The sector forces the target to 0 clockwise (R120, step 3). -/
def State.sectorStopsForward (s : State) : Bool :=
  s.sectorJudged && (s.inReachForward || s.role.heldForward)

/-- The sector forces the target to 0 anticlockwise (R120, step 3). -/
def State.sectorStopsReverse (s : State) : Bool :=
  s.sectorJudged && (s.inReachReverse || s.role.heldReverse)

/-- An unhomed free swing is bounded to CREEP (R119). -/
def State.sectorCreeps (s : State) : Bool := s.sectorInForce && !s.meas.homedA

end Sys2Proof.Machine
end

