-- ==== Sys2Proof/Machine/Drive.lean ====
section
/-!
DEFINITION. The drive regulator (chapter 6): the six stages of a step, the brake rule, the brake
feedback check, and the field and armature checks.
-/

namespace Sys2Proof.Machine

/-! ### Stage 1: command (R86, R87) -/

/-- The command of a corrected MASTER value (R86). -/
def masterCommand (p : Params) (m : Int) : Int :=
  let a := m.natAbs
  if a ≤ p.msDead then 0
  else
    let c : Int := min 1000 ((a - p.msDead) * 1000 / (p.msSpan - p.msDead))
    if m < 0 then -c else c

/-- A reference or current field of an entry as a signed number, clamped by its reader (R33). -/
def fieldClamped (limit : Int) (w : Word16) : Int := clamp (-limit) limit w.toInt

/-- The command of a follow: the lead's reported reference, 0 while the lead is ABSENT (R87). -/
def State.leadCommand (s : State) : Int :=
  match s.leadStation with
  | some st =>
    if (s.entry st).present then fieldClamped 1000 (s.entry st).fields.speedRef else 0
  | none => 0

/-- The command c of a step. -/
def State.command (s : State) : Int :=
  if s.follows then s.leadCommand else masterCommand s.prm s.meas.master

/-! ### Stage 2: target (R88) -/

/-- A lead whose follow entry is not FRESH is bounded to SOLO_SPEED (R104). -/
def State.soloLimited (s : State) : Bool :=
  s.ctl.place == some .lead
    && (match s.followStation with
      | some st => (s.entry st).status != .fresh
      | none => false)

/-- One limit source in force or not. -/
def bounded (force : Bool) (value limit : Nat) : Nat := if force then min limit value else limit

/-- The forward limit of a step: the least of its sources (R88, Table 6-2). -/
def State.forwardLimit (s : State) : Nat :=
  let l := bounded (s.is .hoist || s.is .drag) s.zoneLimit 1000
  let l := bounded (s.normalDrag && s.hoistStale) s.prm.staleCreep l
  let l := bounded s.soloLimited s.prm.soloSpeed l
  let l := bounded s.sectorCreeps s.prm.creep l
  bounded s.sectorStopsForward 0 l

/-- The reverse limit of a step (R88, Table 6-2). -/
def State.reverseLimit (s : State) : Nat :=
  let l := bounded s.soloLimited s.prm.soloSpeed 1000
  let l := bounded s.sectorCreeps s.prm.creep l
  bounded s.sectorStopsReverse 0 l

/-- The HOLD force: every station in HOLD but a drag in walk supply (R88). -/
def State.holdForce (s : State) : Bool := s.ctl.mode == .hold && !s.supplyDrag

/-- A swing lead or solo whose swing state is not FREE has its target forced to 0 (R113). -/
def State.swingForce (s : State) : Bool := s.swingLead && s.role.swing != .free

/-- The walk reference a drag serves: the walk entry's left one on a lead or solo, its right one on a
follow, 0 unless the entry is FRESH (R128, R129). -/
def State.walkReference (s : State) : Int :=
  match s.walkStation with
  | some st =>
    let e := s.entry st
    if e.status = .fresh then
      clamp 0 1000 (if s.follows then e.fields.refRight.toInt else e.fields.refLeft.toInt)
    else 0
  | none => 0

/-- The target of a drag whose supply state is not NORMAL (R129). -/
def State.supplyTarget (s : State) : Int :=
  if s.role.supply = .walkSupply then s.walkReference else 0

/-- The target t of a step with command `c` (R88). -/
def State.targetOf (s : State) (c : Int) : Int :=
  if s.supplyDrag then s.supplyTarget
  else if s.holdForce || s.swingForce then 0
  else clamp (-(s.reverseLimit : Int)) s.forwardLimit c

/-! ### Stage 3: ramp (R90, R91) -/

/-- The step size of a rate (R90). -/
def rampStep (rate interval : Nat) : Nat := max 1 (rate * 256 * interval / 1000)

/-- One move of a reference toward `goal` (R91). -/
def rampMove (r goal : Int) (acc dec : Nat) : Int :=
  if (0 < r ∧ goal < 0) ∨ (r < 0 ∧ 0 < goal) then moveToward r 0 dec
  else if r.natAbs < goal.natAbs then moveToward r goal acc
  else if goal.natAbs < r.natAbs then moveToward r goal dec
  else r

/-- The deceleration rate of a step: HOLD_DEC_RATE under the HOLD force or in WITHDRAWING (R90). -/
def State.decelRate (s : State) : Nat :=
  if s.holdForce || (s.swingLead && s.role.swing == .withdrawing) then s.prm.holdDecRate
  else s.prm.decRate

/-- The reference after stage 3. -/
def State.ramped (s : State) (t : Int) : Int :=
  rampMove s.drive.reference (256 * t) (rampStep s.prm.accRate s.prm.regInterval)
    (rampStep s.decelRate s.prm.regInterval)

/-! ### Stage 4: foldback (R92, R93) -/

/-- The current limit in force (R92). -/
def currentLimit (rated level : Nat) : Nat := rated * (8 - level) / 8

/-- The current excess Ec (R92). -/
def State.currentExcess (s : State) : Nat :=
  s.meas.current.natAbs - currentLimit s.prm.ratedLimit s.heat.effective

/-- The fold step of an excess (R93). -/
def foldStep (excess : Int) (gain : Nat) : Int := (excess * gain).tdiv 256

/-- The reference after stage 4 (R93). -/
def State.folded (s : State) (r eb : Int) : Int :=
  moveToward r 0 (256 * foldStep (max (s.currentExcess : Int) eb) s.prm.clGain)

/-! ### Stages 5 and 6: trim and output (R94, R95) -/

/-- The trim of a step (R94), omitted on a drag in walk supply (R84). -/
def State.trimOf (s : State) (r : Int) : Int :=
  if s.follows && !s.supplyDrag && s.ctl.mode == .run && r != 0 then
    match s.leadStation with
    | some st =>
      if (s.entry st).status = .fresh then
        clamp (-(s.prm.shareMax : Int)) s.prm.shareMax
          (((fieldClamped 2500 (s.entry st).fields.current - s.meas.current)
            * s.prm.shareGain).tdiv 1000)
      else 0
    | none => 0
  else 0

/-- The duty of a reference and trim (R95). -/
def dutyOf (r trim : Int) : Int :=
  let x := r + 256 * trim
  if (0 < r ∧ x < 0) ∨ (r < 0 ∧ 0 < x) then 0 else clamp (-1000) 1000 (x.tdiv 256)

/-! ### The brake (R97, R98, R118) -/

/-- Role logic permits the release of the brake (R97). -/
def State.permitsRelease (s : State) : Bool :=
  match s.ownRole with
  | some .hoist => true
  | some .drag => s.role.supply == .normal
  | some .swing => s.consent.own.status == .active || s.consent.own.status == .withdrawing
  | some .walk | none => false

/-- A swing follow: its brake follows its lead (R118). -/
def State.swingFollow (s : State) : Bool := s.is .swing && s.follows

/-- The brake of a swing follow at a step: the lead entry's brake-set flag while it is FRESH or STALE,
set while it is ABSENT (R118). -/
def State.followBrake (s : State) : State :=
  match s.leadStation with
  | some st => s.setBrake (!(s.entry st).present || (s.entry st).fields.brakeSet)
  | none => s.setBrake true

/-- The set time of a step with the brake released: it runs while r and t are 0 and the motor is at
rest (R98). -/
def State.watchBrakeSet (s : State) : State :=
  let still := s.drive.reference == 0 && s.drive.target == 0 && s.atRest
  s.modDrive fun d => { d with setTime := if still then s.running d.setTime else none }

/-- The regulator takes steps: a hoist, drag or swing station in HOLD or RUN (R84). -/
def State.takesStep (s : State) : Bool :=
  (s.is .hoist || s.is .drag || s.is .swing) && (s.ctl.mode == .hold || s.ctl.mode == .run)

/-- The set time has run: the brake is set (R98). -/
def State.expireBrakeSet (s : State) : State :=
  if s.takesStep && !s.swingFollow && !s.out.brakeSet
      && s.ran s.drive.setTime s.prm.brakeSetDelay then
    (s.setBrake true).modDrive fun d => { d with setTime := none }
  else s

/-- The brake rule of a step (R97, R98, R118). -/
def State.brakeRule (s : State) : State :=
  if s.swingFollow then s.followBrake
  else if s.out.brakeSet then
    if s.ctl.mode == .run && (s.drive.target != 0 || s.drive.reference != 0)
        && s.permitsRelease then
      s.setBrake false
    else s
  else s.watchBrakeSet.expireBrakeSet

/-! ### The step (R84) -/

/-- The regulator's values of a step with command `c`, target `t` and boom excess `eb`. -/
def State.regulate (s : State) (c t eb : Int) : State :=
  let r := s.folded (s.ramped t) eb
  let trim := s.trimOf r
  ((s.modRole fun x => { x with boomExcess := eb }).modDrive fun d =>
    { d with reference := r, command := c, target := t, trim := trim }).setDuty (dutyOf r trim)

/-- One step: stages 1 to 6, then the brake rule. -/
def State.driveStep (s : State) : State :=
  let c := s.command
  let s := s.sectorMarks c
  (s.regulate c (s.targetOf c) s.stepExcess).brakeRule

/-- An expiry without a step: the target is taken as 0, and there is no boom excess (R84, R111).  The trim is
held until the next step (R94). -/
def State.noStep (s : State) : State :=
  (s.modDrive fun d => { d with command := 0, target := 0 }).modRole fun r =>
    { r with boomExcess := 0 }

/-- The regulator at an expiry, in the mode that the cross-check of the same expiry leaves (DEDUCED, assumption
log entry 40). -/
def State.driveExpiry (s : State) : State := if s.takesStep then s.driveStep else s.noStep

/-- Capture channel 1 as the step leaves it: c, on a drag not in normal supply the target, and 0
without a step (R161). -/
def State.stepChannel (s : State) : Int :=
  if s.supplyDrag then s.drive.target else s.drive.command

/-! ### The brake feedback check (R100) -/

/-- How long a disagreement or an agreement must hold (R100): 300 ms. -/
def brakeCheckTime : Nat := 300

/-- The brake output and its feedback disagree. -/
def State.brakeDisagrees (s : State) : Bool := s.out.brakeSet != s.meas.brakeFb.value

/-- The comparison of one expiry starts and stops the two times. -/
def State.watchBrake (s : State) : State :=
  let bad := s.brakeDisagrees
  s.modDrive fun d =>
    { d with
      disagreeTime := if !d.brakeFaultRaised && bad then s.running d.disagreeTime else none
      agreeTime := if d.brakeFaultRaised && !bad then s.running d.agreeTime else none }

/-- The disagreement time has run: BRAKE_FAULT is raised. -/
def State.expireDisagree (s : State) : State :=
  if s.loaded && !s.drive.brakeFaultRaised && s.ran s.drive.disagreeTime brakeCheckTime then
    (s.modDrive fun d => { d with brakeFaultRaised := true, disagreeTime := none }).raiseTrip
      .brakeFault (if s.out.brakeSet then 1 else 2)
  else s

/-- The agreement time has run: BRAKE_FAULT is returned. -/
def State.expireAgree (s : State) : State :=
  if s.loaded && s.drive.brakeFaultRaised && s.ran s.drive.agreeTime brakeCheckTime then
    (s.modDrive fun d => { d with brakeFaultRaised := false, agreeTime := none }).returnAlarm
      .brakeFault
  else s

/-- The brake feedback check of one expiry. -/
def State.checkBrake (s : State) : State := s.watchBrake.expireDisagree.expireAgree

/-! ### Field and armature checks (R101, R102) -/

/-- How long a field condition or its clearing must hold (R101, R102): 100 ms. -/
def fieldTime : Nat := 100

/-- The loss condition with `duty` in force through the interval just ended (R101). -/
def State.fieldLost (s : State) (duty : Int) : Bool :=
  decide (200 < duty.natAbs) && decide (s.meas.fieldCurrent.natAbs < s.prm.fieldMin)

/-- The loss time and the clear time of one expiry. -/
def State.watchFieldLoss (s : State) (duty : Int) : State :=
  let lost := s.fieldLost duty
  s.modDrive fun d =>
    { d with
      lossTime := if !d.fieldLossRaised && lost then s.running d.lossTime else none
      lossClear := if d.fieldLossRaised && !lost then s.running d.lossClear else none }

/-- The loss time has run: FIELD_LOSS is raised. -/
def State.expireLoss (s : State) : State :=
  if s.loaded && !s.drive.fieldLossRaised && s.ran s.drive.lossTime fieldTime then
    (s.modDrive fun d => { d with fieldLossRaised := true, lossTime := none }).raiseTrip
      .fieldLoss s.meas.fieldCurrent
  else s

/-- The clear time has run: FIELD_LOSS is returned. -/
def State.expireLossClear (s : State) : State :=
  if s.loaded && s.drive.fieldLossRaised && s.ran s.drive.lossClear fieldTime then
    (s.modDrive fun d => { d with fieldLossRaised := false, lossClear := none }).returnAlarm
      .fieldLoss
  else s

/-- The field overcurrent condition (R102). -/
def State.overcurrent (s : State) : Bool :=
  decide (s.prm.fieldMax < s.meas.fieldCurrent.natAbs)

/-- The armature overvoltage condition (R102). -/
def State.overvoltage (s : State) : Bool := decide (s.prm.armVMax < s.meas.armV.natAbs)

/-- FIELD_OVERCURRENT is raised at once; after the raise its clear time is kept (R102). -/
def State.watchOvercurrent (s : State) : State :=
  let bad := s.overcurrent
  if s.drive.overcurrentRaised then
    s.modDrive fun d =>
      { d with overcurrentClear := if bad then none else s.running d.overcurrentClear }
  else if bad then
    (s.modDrive fun d => { d with overcurrentRaised := true, overcurrentClear := none }).raiseTrip
      .fieldOvercurrent s.meas.fieldCurrent
  else s

/-- ARMATURE_OVERVOLTAGE is raised at once; after the raise its clear time is kept (R102). -/
def State.watchOvervoltage (s : State) : State :=
  let bad := s.overvoltage
  if s.drive.overvoltageRaised then
    s.modDrive fun d =>
      { d with overvoltageClear := if bad then none else s.running d.overvoltageClear }
  else if bad then
    (s.modDrive fun d => { d with overvoltageRaised := true, overvoltageClear := none }).raiseTrip
      .armatureOvervoltage s.meas.armV
  else s

/-- The clear time of one of the two codes of R102 has run: the code is returned. -/
def State.expireClear (s : State) (which : FieldCheck) : State :=
  match which with
  | .fieldOvercurrent =>
    if s.loaded && s.drive.overcurrentRaised && s.ran s.drive.overcurrentClear fieldTime then
      (s.modDrive fun d =>
        { d with overcurrentRaised := false, overcurrentClear := none }).returnAlarm
          .fieldOvercurrent
    else s
  | .armatureOvervoltage =>
    if s.loaded && s.drive.overvoltageRaised && s.ran s.drive.overvoltageClear fieldTime then
      (s.modDrive fun d =>
        { d with overvoltageRaised := false, overvoltageClear := none }).returnAlarm
          .armatureOvervoltage
    else s

/-- The field checks of one expiry, on hoist, drag and swing stations: `duty` was in force through the
interval just ended.  FIELD_LOSS, FIELD_OVERCURRENT and ARMATURE_OVERVOLTAGE are taken in this order (R101,
R102; assumption log entry 20). -/
def State.checkField (s : State) (duty : Int) : State :=
  if s.is .hoist || s.is .drag || s.is .swing then
    let s := ((s.watchFieldLoss duty).expireLoss).expireLossClear
    let s := s.watchOvercurrent.expireClear .fieldOvercurrent
    s.watchOvervoltage.expireClear .armatureOvervoltage
  else s

end Sys2Proof.Machine
end

