-- ==== Sys2Proof/Machine/RoleLogic.lean ====
section
/-!
DEFINITION. Role logic at a regulation interval expiry and at the contactor's events: the boom load
estimate (R110), the swing sequence (R113 to R116), the drag supply (R128, R130, R131), and the phase
codes (R106, R107).
-/

namespace Sys2Proof.Machine

/-! ### The boom load estimate (R110) -/

/-- How long an overload must hold (R110): 500 ms. -/
def overloadHold : Nat := 500

/-- The boom factor a hoist reads: at the payout of the lowest-numbered drag heard, 0 where none is
(R109). -/
def State.hoistFactor (s : State) : Nat :=
  match (s.heardAs .drag).head? with
  | some st => boomFactor s.prm (s.entry st).fields.position.toNat
  | none => 0

/-- The boom load estimate L (R110). -/
def State.boomLoad (s : State) : Nat :=
  s.pairSum .hoist + s.pairSum .drag * s.hoistFactor / 1000

/-- The trip level (R110). -/
def State.boomTripLevel (s : State) : Nat := s.prm.boomLimit * 110 / 100

/-- The station forms the estimate: a hoist lead or solo. -/
def State.estimatesBoom (s : State) : Bool := s.is .hoist && s.leads

/-- The overload time of one expiry, and the return after a raise. -/
def State.watchOverload (s : State) : State :=
  let load := s.boomLoad
  if s.role.overloadRaised then
    if load ≤ s.prm.boomLimit then
      (s.modRole fun r => { r with overloadRaised := false, overloadTime := none }).returnAlarm
        .boomOverload
    else s.modRole fun r => { r with overloadTime := none }
  else
    let heavy := decide (s.boomTripLevel < load)
    s.modRole fun r =>
      { r with overloadTime := if heavy then s.running r.overloadTime else none }

/-- The overload time has run: BOOM_OVERLOAD is raised. -/
def State.expireOverload (s : State) : State :=
  if s.loaded && s.estimatesBoom && !s.role.overloadRaised
      && s.ran s.role.overloadTime overloadHold then
    (s.modRole fun r => { r with overloadRaised := true, overloadTime := none }).raiseTrip
      .boomOverload (min s.boomLoad 32767 : Nat)
  else s

/-- The estimate's watch of one expiry. -/
def State.checkBoom (s : State) : State :=
  if s.estimatesBoom then s.watchOverload.expireOverload else s

/-! ### The swing sequence (R113 to R116) -/

/-- A locked swing in RUN whose command leaves neutral asks for a SWING_RELEASE; it asks for the return
of SWING_WITHDRAWN at the request (R113, R116).  The mode is tested as the checks of the same expiry leave it:
a TRIP of theirs has put the station in HOLD, and nothing is asked (DEDUCED, assumption log entry 40). -/
def State.requestSwing (s : State) : State :=
  if s.ctl.mode = .run ∧ s.drive.command ≠ 0 ∧ s.role.prevCommand = 0 then
    (s.returnAlarm .swingWithdrawn).requestProposal .swingRelease
  else s

/-- The rest time of a step in FREE (R115). -/
def State.watchRest (s : State) : State :=
  let still := s.drive.command == 0 && s.drive.reference == 0 && s.atRest
  s.modRole fun r => { r with restTime := if still then s.running r.restTime else none }

/-- The brake is set and its set time stopped, as the swing locks (R115, R116). -/
def State.setSwingBrake (s : State) : State :=
  (s.setBrake true).modDrive fun d => { d with setTime := none }

/-- The rest time has run: the swing is locked and its proposal cleared (R115). -/
def State.expireRest (s : State) : State :=
  if s.takesStep && s.swingLead && s.role.swing == .free
      && s.ran s.role.restTime s.prm.swingSetDelay then
    s.setSwingBrake.lockSwing.clearProposal
  else s

/-- A withdrawal ends at the first step at rest with a reference of 0 (R116). -/
def State.endWithdrawal (s : State) : State :=
  if s.drive.reference = 0 ∧ s.atRest = true then
    s.setSwingBrake.lockSwing.raiseWithdrawn.clearProposal
  else s

/-- The swing sequence at a step. -/
def State.swingStep (s : State) : State :=
  let t :=
    match s.role.swing with
    | .locked => s.requestSwing
    | .proposing => s
    | .free => s.watchRest.expireRest
    | .withdrawing => s.endWithdrawal
  let c := s.drive.command
  t.modRole fun r => { r with prevCommand := c }

/-! ### The drag supply (R128, R130, R131) -/

/-- The transfer, return and closed-feedback limits (8-1): 500 ms. -/
def supplyTime : Nat := 500

/-- The walk entry is FRESH and shows TRANSFER, HALTED or FORCED (R128). -/
def State.walkAsksSupply (s : State) : Bool :=
  match s.walkStation with
  | some st =>
    (s.entry st).status == .fresh
      && (match WalkState.ofPhase (s.entry st).fields.phase with
        | .transfer | .halted | .forced => true
        | .idle | .proposing | .stepping | .stopping | .returning => false)
  | none => false

/-- A drag begins a transfer (R128). -/
def State.startTransfer (s : State) : State :=
  if s.role.supply = .normal ∧ (s.ctl.mode = .hold ∨ s.ctl.mode = .run) ∧ s.walkAsksSupply = true
      ∧ s.out.brakeSet = true ∧ s.drive.reference = 0 ∧ s.hasCause .localTrip = false
      ∧ s.meas.contactorFb.value = false then
    ((s.modRole fun r =>
      { r with supply := .transferring, transferLimit := some s.now }).setTransfer
        true).withdrawPermission
  else s

/-- A RETURNING drag opens its output at the first step at which the reference is 0 (R130). -/
def State.openWhenStill (s : State) : State :=
  if s.takesStep && s.role.supply == .returning && s.out.transferClosed
      && s.drive.reference == 0 then
    s.openTransfer
  else s

/-- The drag supply at an expiry. -/
def State.supplyExpiry (s : State) : State :=
  if s.is .drag then s.startTransfer.openWhenStill else s

/-- A debounced rise of CONTACTOR_FB at a drag after the good load (R128, R131). -/
def State.contactorRises (s : State) : State :=
  match s.role.supply with
  | .transferring => s.modRole fun r => { r with supply := .walkSupply, transferLimit := none }
  | .normal => s.modRole fun r => { r with closedLimit := some s.now }
  | .walkSupply | .returning => s

/-- TRANSFER_FAIL and the end of the supply at once (R128, R131). -/
def State.failSupply (s : State) (value : Int) : State :=
  (s.raiseTrip .transferFail value).endSupply

/-- A debounced fall of CONTACTOR_FB in NORMAL: the closed-feedback limit stops, and the code that it
raised is returned (R131). -/
def State.feedbackOpens (s : State) : State :=
  let failed := s.role.closedFailed
  let t := s.modRole fun r => { r with closedLimit := none, closedFailed := false }
  if failed then t.returnAlarm .transferFail else t

/-- A debounced fall of CONTACTOR_FB at a drag after the good load (R130, R131). -/
def State.contactorFalls (s : State) : State :=
  match s.role.supply with
  | .walkSupply => s.failSupply 3
  | .returning => if s.out.transferClosed then s else s.supplyNormal
  | .normal => s.feedbackOpens
  | .transferring => s

/-- The transfer limit has run (R128). -/
def State.expireTransfer (s : State) : State :=
  if s.loaded && s.is .drag && s.role.supply == .transferring
      && s.ran s.role.transferLimit supplyTime then
    (s.modRole fun r => { r with transferLimit := none }).failSupply 1
  else s

/-- The return limit has run: the drag stays in RETURNING (R130). -/
def State.expireReturn (s : State) : State :=
  if s.loaded && s.is .drag && s.role.supply == .returning
      && s.ran s.role.returnLimit supplyTime then
    (s.modRole fun r => { r with returnLimit := none }).raiseTrip .transferFail 2
  else s

/-- The closed-feedback limit has run (R131). -/
def State.expireClosed (s : State) : State :=
  if s.loaded && s.is .drag && s.role.supply == .normal
      && s.ran s.role.closedLimit supplyTime then
    (s.modRole fun r => { r with closedLimit := none, closedFailed := true }).raiseTrip
      .transferFail 4
  else s

/-! ### Phase codes (Table 7-2) -/

/-- The zone phase of a zone limit (R107). -/
def zonePhase (limit : Nat) : Nat := if limit = 0 then 2 else if limit = 1000 then 0 else 1

/-- The phase code of a swing state (Table 7-2). -/
def RoleLogic.swingPhase (r : RoleLogic) : Nat :=
  match r.swing with
  | .locked => 0
  | .proposing => 1
  | .free => if r.sectorHold then 4 else 2
  | .withdrawing => 3

/-- The role phase of an expiry (R106, R107, R118).  At the expiry at which a drag begins its transfer the boom
excess is still that of its step, and the phase BOOM_GUARD (DEDUCED, assumption log entry 41). -/
def State.phaseNow (s : State) : Nat :=
  match s.ownRole with
  | some .hoist => zonePhase s.zoneLimit
  | some .drag => if 0 < s.role.boomExcess then 3 else zonePhase s.zoneLimit
  | some .swing =>
    if s.follows then (if s.out.brakeSet then 0 else 2) else s.role.swingPhase
  | some .walk | none => 0

/-- The phase code is kept until the next expiry. -/
def State.notePhase (s : State) : State :=
  let x := s.phaseNow
  s.modRole fun r => { r with phase := x }

/-- Role logic at an expiry: the boom check, the swing sequence at a step, the drag supply, and the
phase code. -/
def State.roleExpiry (s : State) : State :=
  let t := s.checkBoom
  let t := if t.takesStep && t.swingLead then t.swingStep else t
  t.supplyExpiry.notePhase

end Sys2Proof.Machine
end

