-- ==== Sys2Proof/Machine/Walk.lean ====
section
/-!
DEFINITION. The walk sequencer (chapter 8): regions and the step count (R123 to R125), the walk
references (R132), the skew check (R133), the stopping phases (R135), the end of a walk (R138), and
the sequencer's input and limit events (R126, R127, R134, R136, R137).
-/

namespace Sys2Proof.Machine

/-! ### Regions, home and the step count (R123 to R125) -/

/-- The region of a left cam angle (R123). -/
def regionOf (p : Params) (angle : Nat) : Region :=
  if angle < p.shoeDown then .reach
  else if angle < p.liftOff then .lift
  else if angle < p.tubDown then .carry
  else if angle < p.shoeUp then .settle
  else .back

/-- Both cams are homed. -/
def State.camsHomed (s : State) : Bool := s.meas.homedA && s.meas.homedB

/-- The cams are at home (R123). -/
def State.atHome (s : State) : Bool :=
  decide (s.meas.angleA ≤ s.prm.homeBand) || decide (3600 - s.prm.homeBand ≤ s.meas.angleA)

/-- A cam is homed that was not at the previous expiry: this is the expiry at which it first becomes homed,
since a homed flag stays set until a reset (R78, R124). -/
def State.firstHomes (s : State) : Bool :=
  (s.meas.homedA && !s.walk.prevHomed) || (s.meas.homedB && !s.walk.prevHomedRight)

/-- The left cam crosses home forward between two expiries at both of which it is homed (R125), and no cam
first becomes homed at this one (R124; assumption log entry 37). -/
def State.crossesHome (s : State) : Bool :=
  !s.firstHomes && s.walk.prevHomed && s.meas.homedA && decide (s.prm.shoeUp ≤ s.walk.prevAngle)
    && decide (s.meas.angleA < s.prm.shoeDown)

/-- The judgements of an expiry: region, off-home flag and step count. -/
def State.judgeCams (s : State) : State :=
  let homed := s.camsHomed
  let region := if homed then some (regionOf s.prm s.meas.angleA) else none
  let off := !homed || !s.atHome
  let crosses := s.crossesHome
  s.modWalk fun w =>
    { w with
      region := region
      offHome := off
      stepCount := if crosses then w.stepCount + 1 else w.stepCount
      prevAngle := s.meas.angleA
      prevHomed := s.meas.homedA
      prevHomedRight := s.meas.homedB }

/-! ### References (R132) -/

/-- The phase speed of a region (Table 8-1). -/
def phaseSpeedOf (p : Params) : Region → Nat
  | .reach => p.phaseSpeed.getD 0 0
  | .lift => p.phaseSpeed.getD 1 0
  | .carry => p.phaseSpeed.getD 2 0
  | .settle => p.phaseSpeed.getD 3 0
  | .back => p.phaseSpeed.getD 4 0

/-- The walk target of an expiry (R132). -/
def State.walkTarget (s : State) : Nat :=
  match s.walk.state, s.walk.phase with
  | .stepping, _ =>
    match s.walk.region with
    | some x => phaseSpeedOf s.prm x
    | none => s.prm.walkCreep
  | .stopping, some .creep => s.prm.walkCreep
  | _, _ => 0

/-- The skew of the cams, −1800 to +1799 (R132). -/
def State.skew (s : State) : Int := (((s.meas.angleA : Int) - s.meas.angleB + 1800) % 3600) - 1800

/-- How many DRAG entries the roster has. -/
def State.dragCount (s : State) : Nat := (s.rosterOf .drag).length

/-- The skew trim (R132): 0 with one DRAG entry or a cam unhomed. -/
def State.skewTrim (s : State) : Int :=
  if s.camsHomed && decide (2 ≤ s.dragCount) then
    clamp (-(s.prm.skewTrimMax : Int)) s.prm.skewTrimMax ((s.skew * s.prm.skewGain).tdiv 100)
  else 0

/-- One cam reference, clamped to 0 to 1000 (R132). -/
def camReference (x : Int) : Nat := (clamp 0 1000 x).toNat

/-- The walk reference is ramped and the cam references are formed (R132). -/
def State.walkReferences (s : State) : State :=
  let r := rampMove s.walk.reference (256 * (s.walkTarget : Int))
    (rampStep s.prm.walkAcc s.prm.regInterval) (rampStep s.prm.walkDec s.prm.regInterval)
  let w := r.tdiv 256
  let trim := s.skewTrim
  s.modWalk fun x =>
    { x with
      reference := r
      left := camReference (w - trim)
      right := camReference (w + trim) }

/-! ### Skew (R133) -/

/-- The skew exceeds SKEW_STOP. -/
def State.skewed (s : State) : Bool := decide (s.prm.skewStop < s.skew.natAbs)

/-- CAM_SKEW at an expiry: raised in STEPPING or STOPPING with two drags and both cams homed, returned
in any state. -/
def State.checkSkew (s : State) : State :=
  if s.walk.skewRaised then
    if s.camsHomed && !s.skewed then
      (s.modWalk fun w => { w with skewRaised := false }).returnAlarm .camSkew
    else s
  else if s.walk.state.moves && s.camsHomed && decide (2 ≤ s.dragCount) && s.skewed then
    (s.modWalk fun w => { w with skewRaised := true }).raiseStop .camSkew s.skew
  else s

/-! ### Stopping (R135) -/

/-- The cams are braked and the walk is HALTED. -/
def State.haltWalk (s : State) : State := (s.enterWalk .halted).setBrake true

/-- The phases of STOPPING: in the ramp phase CARRY is tested before a reference of 0 (assumption log
entry 21). -/
def State.stoppingPhase (s : State) : State :=
  match s.walk.state, s.walk.phase with
  | .stopping, some .creep =>
    if s.walk.bearing then s.modWalk fun w => { w with phase := some .ramp } else s
  | .stopping, some .ramp =>
    if s.walk.region = some .carry then s.modWalk fun w => { w with phase := some .creep }
    else if s.walk.reference = 0 then s.haltWalk
    else s
  | _, _ => s

/-! ### The end of a walk (R138) -/

/-- The conditions of the end time: WALK_CMD low, both cams homed and at home. -/
def State.endReady (s : State) : Bool := !s.meas.walkCmd.value && s.camsHomed && s.atHome

/-- The end time of one expiry in HALTED. -/
def State.watchEnd (s : State) : State :=
  let ready := s.endReady
  s.modWalk fun w => { w with endTime := if ready then s.running w.endTime else none }

/-- The end time has run: RETURNING, and at once IDLE if every drag is handed back (R138).  Sent between two
expiries, the command does not judge the end's conditions again (assumption log entry 3). -/
def State.expireEnd (s : State) : State :=
  if s.walkWorks && s.walk.state == .halted && s.ran s.walk.endTime s.prm.walkEndDelay then
    (s.enterWalk .returning).endReturning
  else s

/-- The end time's watch of one expiry. -/
def State.checkEnd (s : State) : State :=
  if s.walk.state = .halted ∧ s.inService = true then s.watchEnd.expireEnd else s

/-! ### The sequencer at an expiry -/

/-- The references, the skew check and the stopping phases of an expiry. -/
def State.walkMoves (s : State) : State :=
  let t := if s.walk.state.moves then s.walkReferences else s
  t.checkSkew.stoppingPhase

/-- The walk sequencer at an expiry (R123 to R125, R132, R133, R135, R138). -/
def State.walkExpiry (s : State) : State :=
  if s.is .walk then s.judgeCams.checkEnd.walkMoves else s

/-! ### Input events (R126, R134, R136, R137) -/

/-- A walk begins: WALK_ABORTED is returned and a WALK_START asked for (R126). -/
def State.beginWalk (s : State) : State :=
  if s.dragCount = 0 then s else (s.returnAlarm .walkAborted).requestProposal .walkStart

/-- The walk steps, its cam brake released (R127, R137). -/
def State.stepWalk (s : State) : State := (s.enterWalk .stepping).setBrake false

/-- A forced walk goes on: HALTED where the tub is bearing, creeping where it is not (R137). -/
def State.resumeForced (s : State) : State :=
  if !s.walk.forced.isEmpty then s
  else if s.walk.bearing then s.haltWalk
  else (s.enterStopping .creep).setBrake false

/-- A debounced rise of WALK_CMD in RUN (R126, R137). -/
def State.walkCommanded (s : State) : State :=
  match s.walk.state with
  | .idle => s.beginWalk
  | .halted => if s.allSupplying then s.stepWalk else s
  | .forced => if s.allSupplying then s.resumeForced else s
  | .proposing | .transfer | .stepping | .stopping | .returning => s

/-- The WALK_STOP hold (8-1): 2.0 s. -/
def walkStopTime : Nat := 2000

/-- The supply limit after the commit (8-1): 1000 ms. -/
def supplyLimitTime : Nat := 1000

/-- WALK_STOP has been held for 2.0 s (R136). -/
def State.expireStopHold (s : State) : State :=
  if s.walkWorks && s.ran s.walk.stopHold walkStopTime then
    (s.modWalk fun w => { w with stopHold := none }).forceWalk .walkStopHold
  else s

/-- The lowest roster drag station number that is not FRESH in WALK_SUPPLY, 0 if there is none
(R127). -/
def State.lowestUnsupplied (s : State) : Nat :=
  match (s.rosterOf .drag).find? fun st => !(s.entry st).supplying with
  | some st => stationNumber st
  | none => 0

/-- The supply limit has run: the walk is abandoned (R127). -/
def State.expireSupplyLimit (s : State) : State :=
  if s.walkWorks && s.walk.state == .transfer && s.ran s.walk.supplyLimit supplyLimitTime then
    ((s.enterWalk .idle).clearProposal).raiseWarn .walkAborted
      (200 + (s.lowestUnsupplied : Int))
  else s

end Sys2Proof.Machine
end

