-- ==== Sys2Proof/Machine/Heat.lean ====
section
/-!
DEFINITION. The heat monitor (chapter 9): the integrator (R141), the derate level and its persistence
(R142), the forced and effective levels (R143, R144), and OVERHEAT (R145).
-/

namespace Sys2Proof.Machine

/-- The largest value of H (R141): 2^31 − 1. -/
def heatMax : Nat := 2147483647

/-- The step of the integrator (R141). -/
def heatStep (shift : Nat) (d : Int) : Int :=
  let x := d.tdiv ((2 ^ shift : Nat) : Int)
  if x = 0 then (if 0 < d then 1 else if d < 0 then -1 else 0) else x

/-- H after one update (R141). -/
def heatAfter (shift heat current : Nat) : Nat :=
  let ic := min 2500 current
  (clamp 0 heatMax ((heat : Int) + heatStep shift (((ic * ic : Nat) : Int) - heat))).toNat

/-- The effective level is formed again: the larger of the two levels, with DERATE_ACTIVE raised when
it leaves 0 and returned when it becomes 0 (R143, R144). -/
def State.formLevel (s : State) : State :=
  let was := s.heat.effective
  let t := s.modHeat fun h => { h with effective := max h.level h.forced }
  if was = 0 ∧ 0 < t.heat.effective then
    t.raiseWarn .derateActive (10 * (s.heat.forced : Int) + s.heat.level)
  else if 0 < was ∧ t.heat.effective = 0 then t.returnAlarm .derateActive
  else t

/-- How long H must stay in one band (R142): 2000 ms. -/
def derateTime : Nat := 2000

/-- The persistence timer of one update (R142). -/
def State.bandTimer (s : State) : Persistence :=
  if s.prm.hTrip < s.heat.heat then
    if s.heat.level < 7 then
      match s.heat.persistence with
      | .rising t => .rising t
      | .stopped | .falling _ => .rising s.now
    else .stopped
  else if s.heat.heat < s.prm.hReset then
    if 0 < s.heat.level then
      match s.heat.persistence with
      | .falling t => .falling t
      | .stopped | .rising _ => .falling s.now
    else .stopped
  else .stopped

/-- The persistence timer starts, goes on or stops at an update. -/
def State.watchDerate (s : State) : State :=
  let x := s.bandTimer
  s.modHeat fun h => { h with persistence := x }

/-- The heat monitor works: a hoist, drag or swing station after a good load (R140). -/
def State.heats (s : State) : Bool := s.loaded && (s.is .hoist || s.is .drag || s.is .swing)

/-- The persistence timer has run: the level moves one step, the timer starts again, and the effective
level follows (R142, R143). -/
def State.expireDerate (s : State) : State :=
  if s.heats then
    match s.heat.persistence with
    | .rising t =>
      if derateTime ≤ s.since t ∧ s.heat.level < 7 then
        (s.modHeat fun h =>
          { h with level := h.level + 1, persistence := .rising s.now }).formLevel
      else s
    | .falling t =>
      if derateTime ≤ s.since t ∧ 0 < s.heat.level then
        (s.modHeat fun h =>
          { h with level := h.level - 1, persistence := .falling s.now }).formLevel
      else s
    | .stopped => s
  else s

/-- OVERHEAT of one update (R145). -/
def State.checkOverheat (s : State) : State :=
  if s.heat.overheatRaised then
    if s.heat.heat < s.prm.hReset then
      (s.modHeat fun h => { h with overheatRaised := false }).returnAlarm .overheat
    else s
  else if s.prm.hStop ≤ s.heat.heat then
    (s.modHeat fun h => { h with overheatRaised := true }).raiseTrip .overheat
      (s.heat.heat / 1000 : Nat)
  else s

/-- The integrator at an update (R141). -/
def State.integrate (s : State) : State :=
  let x := heatAfter s.prm.heatShift s.heat.heat s.meas.current.natAbs
  s.modHeat fun h => { h with heat := x }

/-- The update of one expiry: the integrator, then the derate level (R142, R144), then OVERHEAT (R145); the
order of the last two is the model's (assumption log entry 20). -/
def State.heatExpiry (s : State) : State :=
  if s.heats then s.integrate.watchDerate.expireDerate.checkOverheat else s

/-- FORCE_DERATE with a level of 0 to 7 (R143). -/
def State.forceLevel (s : State) (level : Nat) : State :=
  (s.modHeat fun h => { h with forced := level }).formLevel

end Sys2Proof.Machine
end

