-- ==== Sys2Proof/Machine/Service.lean ====
section
/-!
DEFINITION. The service logic (chapter 12): the request slot (R172), the judgement of a request (R173),
and what each request reads or does (R174, R175) with its reply data (Tables 12-3 to 12-10).
-/

namespace Sys2Proof.Machine

/-! ### Replies -/

/-- A reply: its status and its data. -/
structure Reply where
  status : Byte
  data : List Byte
  deriving DecidableEq, Repr

/-- Status OK with data. -/
def Reply.ok (data : List Byte) : Reply := ⟨0, data⟩

/-- Status NOTHING_KEPT. -/
def Reply.nothingKept : Reply := ⟨2, []⟩

/-- Status BAD_ARGUMENT. -/
def Reply.badArgument : Reply := ⟨3, []⟩

/-- Queue the reply of a request that was carried out. -/
def State.answer (s : State) (code : Byte) (r : Reply) : State :=
  s.queueFrame (.serviceReply code r.status r.data)

/-- A request that finds the slot full: BUSY once, then nothing while a BUSY reply is queued (R172). -/
def State.answerBusy (s : State) (code : Byte) : State :=
  if s.link.queue.any fun q => q.frame.isBusyReply then s
  else s.queueFrame (.serviceReply code 1 [])

/-- The request takes the slot if it is free and a reply may be sent; `work` carries it out (R172). -/
def State.serve (s : State) (code : Byte) (work : State → State × Reply) : State :=
  if !s.onLink then s
  else if s.slotFull then s.answerBusy code
  else
    let r := work (s.setSlot true)
    r.1.answer code r.2

/-- A request that changes nothing but gives a reply. -/
def readOnly (f : State → Reply) (s : State) : State × Reply := (s, f s)

/-! ### READ_STATUS (Table 12-3) -/

/-- The role state byte. -/
def State.roleStateCode (s : State) : Nat :=
  match s.ownRole with
  | some .walk => s.walk.state.code
  | some .swing => if s.swingLead then s.role.swing.code else 0
  | some .drag => s.role.supply.code
  | some .hoist | none => 0

/-- The restart flag's code. -/
def RestartFlag.code : RestartFlag → Nat
  | .powerOn => 0
  | .localReset => 1

/-- The kept count as READ_STATUS gives it. -/
def State.keptCount (s : State) : Nat := s.capture.kept.length

/-- READ_STATUS data. -/
def State.statusData (s : State) : List Byte :=
  [byteOf s.ctl.mode.code, s.ctl.causes.toByte, byteOf s.roleStateCode, byteOf s.heat.effective,
   byteOf s.heat.forced, byteOf s.keptCount, byteOf s.ctl.restart.code]

/-- READ_STATUS takes no argument. -/
def replyStatus (args : List Byte) (s : State) : Reply :=
  if args.length = 0 then Reply.ok s.statusData else Reply.badArgument

/-! ### READ_PEER (Table 12-4) -/

/-- The marks byte of an entry. -/
def PeerEntry.marks (e : PeerEntry) : Byte :=
  bitByte e.staleMark 0 ||| bitByte e.lostMark 1 ||| bitByte e.mismatchMark 2
    ||| bitByte e.changeMark 3 ||| bitByte e.stopMark 4 ||| bitByte e.unlisted 5

/-- The age of an entry as the tool reads it: saturated, and 0 while the arrival time was never set
(R174). -/
def State.ageField (s : State) (n : Station) : Nat :=
  if (s.entry n).heard then min 65535 (s.age n) else 0

/-- The report bytes of an entry, byte 0 rebuilt from its last sequence and role (R174). -/
def PeerEntry.reportBytes (e : PeerEntry) : List Byte := Machine.reportBytes e.lastSeq e.role e.fields

/-- READ_PEER data of one part. -/
def State.peerData (s : State) (n : Station) (part : Nat) : List Byte :=
  let e := s.entry n
  if part = 0 then
    [byteOf e.status.code, e.marks] ++ bytes16 (unsigned16 (s.ageField n)) ++ bytes16 e.gaps
      ++ bytes16 e.dups ++ e.reportBytes.take 12
  else e.reportBytes.drop 12

/-- READ_PEER takes a station number and a part, 0 or 1. -/
def replyPeer (args : List Byte) (s : State) : Reply :=
  match args with
  | [n, part] =>
    match stationOf n.toNat with
    | some st =>
      if part.toNat ≤ 1 then Reply.ok (s.peerData st part.toNat) else Reply.badArgument
    | none => Reply.badArgument
  | _ => Reply.badArgument

/-! ### READ_COUNTERS (Table 12-1) -/

/-- The counters of one part, in the order of Table 12-1. -/
def State.countersData (s : State) (part : Nat) : List Byte :=
  if part = 0 then
    bytes16 s.link.rxBad ++ bytes16 s.link.rxMalformed ++ bytes16 s.link.txDropped
      ++ bytes16 s.link.txFail ++ bytes16 s.link.arbLost ++ bytes16 s.consent.lateObject
      ++ bytes16 s.meas.quadSkip
  else
    bytes16 s.capture.armCount ++ bytes16 s.capture.armsMerged ++ bytes16 s.capture.armsIgnored
      ++ bytes16 s.capture.lateKeep ++ bytes16 s.alarm.listOverrun

/-- READ_COUNTERS takes a part, 0 or 1. -/
def replyCounters (args : List Byte) (s : State) : Reply :=
  match args with
  | [part] =>
    if part.toNat ≤ 1 then Reply.ok (s.countersData part.toNat) else Reply.badArgument
  | _ => Reply.badArgument

/-! ### READ_ALARMS (Table 12-8, R174) -/

/-- An alarm list entry as bytes. -/
def AlarmEntry.bytes (e : AlarmEntry) : List Byte :=
  bytes16 e.seq ++ bytes32 e.time ++ [byteOf e.code.number, byteOf e.event.code] ++ bytes16 e.value
    ++ [byteOf e.source.toNat]

/-- READ_ALARMS data from sequence `a` on. -/
def AlarmUnit.readFrom (u : AlarmUnit) (a : Word16) : List Byte :=
  match u.list with
  | [] => bytes16 u.nextSeq
  | oldest :: _ =>
    let i := (a - oldest.seq).toNat
    match u.list[i]? with
    | some e => e.bytes ++ bytes16 (a + 1)
    | none =>
      if a = u.nextSeq then bytes16 u.nextSeq else oldest.bytes ++ bytes16 (oldest.seq + 1)

/-- READ_ALARMS takes a sequence. -/
def replyAlarms (args : List Byte) (s : State) : Reply :=
  match args with
  | [hi, lo] => Reply.ok (s.alarm.readFrom (hi ++ lo))
  | _ => Reply.badArgument

/-! ### The capture requests (R169, Tables 12-9 and 12-10) -/

/-- The block that the three capture requests act on: the head of the kept queue, none in unconfigured
STOP (R169, R174). -/
def State.headBlock (s : State) : Option Nat :=
  if s.configured then s.capture.kept.head? else none

/-- A block header as bytes. -/
def CaptureBlock.headerBytes (b : CaptureBlock) (number : Nat) : List Byte :=
  let station :=
    match b.armId with
    | some id => stationNumber id.station
    | none => 0
  let seq :=
    match b.armId with
    | some id => id.seq
    | none => 0
  let code :=
    match b.armCode with
    | some c => c.number
    | none => 0
  [byteOf number, byteOf station] ++ bytes16 seq ++ [byteOf code] ++ bytes32 b.armTime
    ++ bytes16 (unsigned16 b.stored) ++ bytes16 (unsigned16 b.armIndex)
    ++ bytes16 (unsigned16 b.oldest) ++ [bitByte b.complete 0]

/-- READ_CAPTURE_HEADER takes no argument. -/
def replyHeader (args : List Byte) (s : State) : Reply :=
  if args.length ≠ 0 then Reply.badArgument
  else
    match s.headBlock with
    | some i => Reply.ok ((s.capture.block i).headerBytes i)
    | none => Reply.nothingKept

/-- A sample record as bytes. -/
def Sample.bytes (v : Sample) : List Byte :=
  byteOf v.delta :: bytes16 (signed16 v.ch1) ++ bytes16 (signed16 v.ch2) ++ bytes16 (signed16 v.ch3)
    ++ bytes16 (unsigned16 v.ch4)
    ++ [bitByte v.brakeSet 0 ||| bitByte v.hold 1 ||| byteOf (v.level * 4)]

/-- Sample number `n` of block `i`, counted from the oldest in the order written (R162). -/
def CaptureStore.sampleAt (k : CaptureStore) (i n : Nat) : Sample :=
  readSlot k.slots (k.first i + ((k.block i).oldest - k.first i + n) % k.size)

/-- The samples at an offset: two, or one at the last (R169). -/
def CaptureStore.samplesAt (k : CaptureStore) (i offset : Nat) : List Byte :=
  if offset + 1 = (k.block i).stored then 1 :: (k.sampleAt i offset).bytes
  else 2 :: ((k.sampleAt i offset).bytes ++ (k.sampleAt i (offset + 1)).bytes)

/-- READ_CAPTURE_SAMPLES takes an offset; an empty kept queue is tested before it (R174). -/
def replySamples (args : List Byte) (s : State) : Reply :=
  match args with
  | [hi, lo] =>
    match s.headBlock with
    | some i =>
      let offset := (hi ++ lo).toNat
      if offset < (s.capture.block i).stored then Reply.ok (s.capture.samplesAt i offset)
      else Reply.badArgument
    | none => Reply.nothingKept
  | _ => Reply.badArgument

/-- RELEASE_CAPTURE releases the head of the kept queue (R169, R175). -/
def workRelease (args : List Byte) (s : State) : State × Reply :=
  if args.length ≠ 0 then (s, Reply.badArgument)
  else
    match s.headBlock with
    | some _ => (s.releaseHead, Reply.ok [])
    | none => (s, Reply.nothingKept)

/-! ### ACK_ALARMS and FORCE_DERATE (R175) -/

/-- ACK_ALARMS acknowledges as R150 gives. -/
def workAck (args : List Byte) (s : State) : State × Reply :=
  if args.length ≠ 0 then (s, Reply.badArgument) else (s.acknowledge, Reply.ok [])

/-- FORCE_DERATE sets the forced level (R143). -/
def workForce (args : List Byte) (s : State) : State × Reply :=
  match args with
  | [level] =>
    if level.toNat ≤ 7 then (s.forceLevel level.toNat, Reply.ok []) else (s, Reply.badArgument)
  | _ => (s, Reply.badArgument)

/-- A request code outside 1 to 9 is answered BAD_ARGUMENT (R173). -/
def replyUnknown (_ : State) : Reply := Reply.badArgument

end Sys2Proof.Machine
end

