-- ==== Sys2Proof/Machine/Receive.lean ====
section
/-!
DEFINITION. The link controller's receiving side: the reception checks (R26 to R28), the address clash
(R27), the hand-over of each kind to its block (R29), and the ends of transmissions (R18 to R20, R24,
R25).
-/

namespace Sys2Proof.Machine

/-! ### The reception checks -/

/-- The source of a frame is 0 or the station's own address (R27). -/
def State.offends (s : State) (f : Frame) : Bool :=
  f.src == 0
    || (match s.self with
      | some st => f.src == stationAddress st
      | none => false)

/-- An offending frame: the return time starts or restarts, and ADDRESS_CLASH is raised unless its
condition is already present (R27). -/
def State.clash (s : State) (src : BitVec 4) : State :=
  let present := s.link.clashTimer.isSome
  let t := s.modLink fun l => { l with clashTimer := some s.now }
  if present then t else t.raiseStop .addressClash src.toNat

/-- The return time of ADDRESS_CLASH has run (R27). -/
def State.expireClash (s : State) : State :=
  if s.ran s.link.clashTimer clashReturnTime then
    (s.modLink fun l => { l with clashTimer := none }).returnAlarm .addressClash
  else s

/-- The receive buffer is free again at the end of the arrival event (R26). -/
def State.freeBuffer (s : State) : State := s.modLink fun l => { l with receiveBuffer := none }

/-- A good frame at its arrival event: judged by R27 and R28, and handed on by `hand` (R29). -/
def State.receive (s : State) (f : Frame) (hand : State → State) : State :=
  if !s.receives then s
  else
    (if s.offends f then s.clash f.src
    else if !frameFits f then s.countMalformed
    else hand s).freeBuffer

/-! ### The receiving blocks -/

/-- A STATE_REPORT is handed to the peer table. -/
def State.handReport (f : Frame) (s : State) : State :=
  match stationOf f.src.toNat with
  | some n => s.takeReport n f.payload
  | none => s

/-- A PROPOSE is handed to the consent engine, which judges its payload (R54). -/
def State.handPropose (f : Frame) (s : State) : State :=
  match stationOf f.src.toNat with
  | some p =>
    let n := byteAt f.payload 0
    match ProposalKind.ofCode (byteAt f.payload 1).toNat with
    | some k => if n = 0 then s.countMalformed else s.takePropose p n k
    | none => s.countMalformed
  | none => s

/-- An OBJECT is handed to the consent engine, which judges its payload (R61). -/
def State.handObject (f : Frame) (s : State) : State :=
  match stationOf f.src.toNat with
  | some src =>
    let n := byteAt f.payload 1
    match stationOf (byteAt f.payload 0).toNat, Reason.ofCode (byteAt f.payload 2).toNat with
    | some p, some r => if n = 0 then s.countMalformed else s.takeObject src p n r
    | _, _ => s.countMalformed
  | none => s

/-- A usable ALARM_NOTICE (R156): logged; a STOP notice passed on to the peer table; an arm passed on to
the capture store, but in LISTEN and in unconfigured STOP. -/
def State.takeNotice (s : State) (src : Station) (c : AlarmCode) (value : Word16) (flag : Bool)
    (armSeq : Word16) : State :=
  let s := s.log c .peerNotice value (stationAddress src)
  let s := if c.severity = .stop then s.stopNotice src else s
  if flag && s.inService then s.captureArm ⟨src, armSeq⟩ none else s

/-- An ALARM_NOTICE is handed to the alarm unit, which judges its payload (R156).  A set arm flag with arm
sequence 0 is taken as the arm id of that sequence (R159; assumption log entry 10). -/
def State.handNotice (f : Frame) (s : State) : State :=
  match stationOf f.src.toNat with
  | some src =>
    match AlarmCode.ofNumber (byteAt f.payload 0).toNat with
    | some c =>
      if (byteAt f.payload 1).toNat = c.severity.code ∧ (byteAt f.payload 4).toNat ≤ 1 then
        s.takeNotice src c (word16At f.payload 2) (byteAt f.payload 4 == 1) (word16At f.payload 5)
      else s.countMalformed
    | none => s.countMalformed
  | none => s

/-- A KEEP_NOTICE is handed to the capture store, which judges its payload (R167). -/
def State.handKeep (f : Frame) (s : State) : State :=
  let seq := word16At f.payload 1
  match stationOf (byteAt f.payload 0).toNat with
  | some st =>
    if seq = 0 then s.countMalformed
    else if s.inService then s.takeKeepNotice ⟨st, seq⟩
    else s
  | none => s.countMalformed

/-- A SERVICE_REQUEST is handed to the service logic if it is addressed to this station (R29). -/
def State.handRequest (f : Frame) (work : State → State × Reply) (s : State) : State :=
  match s.self with
  | some st =>
    if f.dst = stationAddress st then s.serve (byteAt f.payload 0) work else s
  | none => s

/-- The frame of a SERVICE_REQUEST row: the request code and its argument bytes. -/
def requestFrame (h : Header) (code : Byte) (args : List Byte) : Frame :=
  headerFrame h 6 (code :: args)

/-- A SERVICE_REQUEST as received. -/
def State.request (s : State) (h : Header) (code : Byte) (args : List Byte)
    (work : State → State × Reply) : State :=
  let f := requestFrame h code args
  s.receive f (State.handRequest f work)

/-! ### Ends of transmissions -/

/-- A lost contest (R18). -/
def State.loseContest (s : State) : State :=
  match s.link.sending with
  | some _ => s.stopDriving.modLink fun l => { l with arbLost := satInc l.arbLost }
  | none => s

/-- A link fault is declared (R24): the queue is emptied, quiet-out starts with a failure count of 0,
LINK_FAULT is raised with value 16 and its hold cause added. -/
def State.declareFault (s : State) : State :=
  let t := s.discardQueue.modLink fun l => { l with quietOut := some s.now, failCount := 0 }
  (t.raiseTrip .linkFault 16).addCause .linkFault

/-- A transmit failure (R20). -/
def State.failTransmission (s : State) : State :=
  match s.link.sending with
  | some _ =>
    let t := s.stopDriving.modLink fun l =>
      { l with txFail := satInc l.txFail, failCount := l.failCount + 1 }
    if failLimit ≤ t.link.failCount then t.declareFault else t
  | none => s

/-- The first completed own report after a quiet-out removes the hold cause LINK_FAULT and returns the
code (R25). -/
def State.clearFault (s : State) : State :=
  if s.hasCause .linkFault then (s.returnAlarm .linkFault).removeCause .linkFault else s

/-- The use of a completion by the source block of the frame (R19). -/
def State.useCompletion (s : State) (f : OutFrame) : State :=
  match f with
  | .stateReport .. => s.clearFault
  | .propose n _ => s.proposeCompleted n
  | .serviceReply .. => if f.holdsSlot then s.setSlot false else s
  | .object .. | .alarmNotice .. | .keepNotice .. => s

/-- A completion event (R19). -/
def State.completeTransmission (s : State) : State :=
  match s.link.sending with
  | some x => s.takeCompleted.useCompletion x.frame
  | none => s

/-- The end of a quiet-out (R25): a report is requested at once and the report timer restarted. -/
def State.endQuietOut (s : State) : State :=
  if s.ran s.link.quietOut s.quietOutTime then
    (s.modLink fun l => { l with quietOut := none }).reportEvent
  else s

end Sys2Proof.Machine
end

