-- ==== Sys2Proof/Machine/Expiry.lean ====
section
/-!
DEFINITION. One expiry of the regulation timer, whole (R67): measurement, the regulator's step, the
checks, role logic, the walk sequencer, the heat update, the neutral test and the capture store, in
that order (assumption log entry 20).
-/

namespace Sys2Proof.Machine

/-! ### The neutral test (R9) -/

/-- The station's command is neutral (R9). -/
def State.neutralNow (s : State) : Bool :=
  if s.is .walk then !s.meas.walkCmd.value
  else if s.follows then
    match s.leadStation with
    | some st => (s.entry st).status == .fresh && (s.entry st).fields.speedRef == 0
    | none => false
  else s.drive.command == 0

/-- The neutral time at an expiry in HOLD, and the entry to RUN (R9). -/
def State.neutralExpiry (s : State) : State :=
  if s.ctl.mode = .hold then
    let neutral := s.neutralNow
    (s.modCtl fun c =>
      { c with neutralSince := if neutral then s.running c.neutralSince else none }).tryRun
  else s

/-! ### The capture sample (R161) -/

/-- The candidate of an expiry; `channel1` is what the regulator's step left for channel 1. -/
def State.candidate (s : State) (channel1 : Int) : Sample :=
  let walk := s.is .walk
  { delta := 1
    ch1 := if walk then s.walk.left else channel1
    ch2 := if walk then s.meas.angleA else s.measuredSpeed
    ch3 := s.currentField
    ch4 := s.tensionField.toNat
    brakeSet := s.out.brakeSet
    hold := !s.ctl.causes.isEmpty
    level := s.heat.effective }

/-! ### The expiry -/

/-- The regulation timer has run its period (R67). -/
def State.regulationDue (s : State) : Bool := s.loaded && s.ran s.meas.regTimer s.prm.regInterval

/-- The regulation timer starts again, and the analog lines stand at the readings taken. -/
def State.restartRegulation (s : State) (raw : Analog) : State :=
  (s.modMeas fun m => { m with regTimer := some s.now }).modPins fun x => { x with analog := raw }

/-- The regulator's checks after its step: `duty` was in force through the interval just ended. -/
def State.checks (s : State) (duty : Int) : State := s.checkBrake.checkField duty

/-- Role logic, walk sequencer, heat monitor and the neutral test. -/
def State.duties (s : State) : State :=
  s.roleExpiry.walkExpiry.heatExpiry.neutralExpiry

/-- Measurement and the regulator's step of an expiry. -/
def State.expiryStep (s : State) (raw : Analog) : State :=
  ((s.restartRegulation raw).measure raw).driveExpiry

/-- The work of an expiry outside the capture store. `s.drive.duty` was in force through the interval just
ended. -/
def State.expiryWork (s : State) (raw : Analog) : State :=
  ((s.expiryStep raw).checks s.drive.duty).duties

/-- The candidate of an expiry: the values that its work leaves, with the command of its step (R161). -/
def State.expirySample (s : State) (raw : Analog) : Sample :=
  (s.expiryWork raw).candidate (s.expiryStep raw).stepChannel

/-- The capture store put in place of the one that stands. -/
def State.withStore (s : State) (k : CaptureStore) : State := { s with capture := k }

/-- The capture store's work at an expiry in HOLD, RUN and configured STOP: candidate `v`, the counts of the
decision list, its due entries, the end of a POST (R161, R163, R165, R166). -/
def State.captureWork (s : State) (v : Sample) : State :=
  ((s.modCapture fun k => k.take s.prm v).countDecisions).decideDue.endPost

/-- The arms that the work of the expiry of `s` raises are handed to the store as it stands.  The work hands
over the same arms whatever the store holds. -/
def State.takeArms (t s : State) (raw : Analog) : State :=
  t.withStore ((s.withStore t.capture).expiryWork raw).capture

/-- The work of one expiry of the regulation timer.  The expiry stands before the arms raised in its course
(R164, section 11-7): the store's work finds the store as it stood before them, with every other value as
the work leaves it, and the arms come after it (assumption log entry 20).  In LISTEN the store has no work
of its own. -/
def State.regulationWork (s : State) (raw : Analog) : State :=
  let t := s.expiryWork raw
  if s.inService then
    (((t.withStore s.capture).captureWork (s.expirySample raw)).takeArms s raw).noteQuiet
  else t.noteQuiet

/-- An expiry of the regulation timer. -/
def State.regulationExpiry (s : State) (raw : Analog) : State :=
  if s.regulationDue then s.regulationWork raw else s

end Sys2Proof.Machine
end

