-- ==== Sys2Proof/Machine/Inputs.lean ====
section
/-!
DEFINITION. Edge events of the debounced and filtered inputs (R79, R80, Table 5-4): the level and the
debounced value each edge leaves, and what each taker of the edge does.
-/

namespace Sys2Proof.Machine

/-! ### The level an edge leaves -/

/-- A debounced value that has just taken a level: run count 0 (R79). -/
def Debounced.settled (level : Bool) : Debounced := ⟨level, 0⟩

/-- RUN_PERMIT has settled at a level. -/
def State.settleRunPermit (s : State) (x : Bool) : State :=
  (s.modPins fun p => { p with runPermit := x }).modMeas fun m =>
    { m with runPermit := Debounced.settled x }
/-- ACK has settled at a level. -/
def State.settleAck (s : State) (x : Bool) : State :=
  (s.modPins fun p => { p with ack := x }).modMeas fun m => { m with ack := Debounced.settled x }
/-- LIMIT has settled at a level. -/
def State.settleLimit (s : State) (x : Bool) : State :=
  (s.modPins fun p => { p with limit := x }).modMeas fun m =>
    { m with limit := Debounced.settled x }
/-- BRAKE_FB has settled at a level. -/
def State.settleBrakeFb (s : State) (x : Bool) : State :=
  (s.modPins fun p => { p with brakeFb := x }).modMeas fun m =>
    { m with brakeFb := Debounced.settled x }
/-- CONTACTOR_FB has settled at a level. -/
def State.settleContactorFb (s : State) (x : Bool) : State :=
  (s.modPins fun p => { p with contactorFb := x }).modMeas fun m =>
    { m with contactorFb := Debounced.settled x }
/-- WALK_CMD has settled at a level. -/
def State.settleWalkCmd (s : State) (x : Bool) : State :=
  (s.modPins fun p => { p with walkCmd := x }).modMeas fun m =>
    { m with walkCmd := Debounced.settled x }
/-- WALK_STOP has settled at a level. -/
def State.settleWalkStop (s : State) (x : Bool) : State :=
  (s.modPins fun p => { p with walkStop := x }).modMeas fun m =>
    { m with walkStop := Debounced.settled x }
/-- HOME_L has settled at a level. -/
def State.settleHomeL (s : State) (x : Bool) : State :=
  (s.modPins fun p => { p with homeL := x }).modMeas fun m =>
    { m with homeL := Debounced.settled x }
/-- HOME_R has settled at a level. -/
def State.settleHomeR (s : State) (x : Bool) : State :=
  (s.modPins fun p => { p with homeR := x }).modMeas fun m =>
    { m with homeR := Debounced.settled x }
/-- SUPPLY_OK has an edge to a level.  Where the filter has taken the level at its sample (R80), line and
filter stay as they stand; an edge handed in without its samples settles them (assumption log entry 2). -/
def State.settleSupplyOk (s : State) (x : Bool) : State :=
  if s.meas.supplyOk.value = x then s
  else
    (s.modPins fun p => { p with supplyOk := x, supplyDip := 0 }).modMeas fun m =>
      { m with supplyOk := Debounced.settled x }

/-! ### What the takers do -/

/-- A rise of RUN_PERMIT: the first one taken while RESTART is present removes it; it may enter RUN
(R8, R9). -/
def State.permitRises (s : State) : State := (s.removeCause .restart).tryRun

/-- A fall of RUN_PERMIT takes a station in RUN to HOLD, with no cause added (R10). -/
def State.permitFalls (s : State) : State := if s.ctl.mode = .run then s.enterHold else s

/-- A rise of ACK acknowledges, but in a strap fault (R1, R150). -/
def State.ackRises (s : State) : State := if s.strapFault then s else s.acknowledge

/-- A rise of LIMIT after the good load: the home event of a hoist or drag, and TWO_BLOCK on a hoist
(R77, R108). -/
def State.limitRises (s : State) : State :=
  if s.loaded then
    match s.ownRole with
    | some .hoist => (s.modMeas Measurement.homePayout).raiseTwoBlock
    | some .drag => s.modMeas Measurement.homePayout
    | some .swing | some .walk | none => s
  else s

/-- A fall of LIMIT after the good load: a hoist asks for the return of TWO_BLOCK (R108). -/
def State.limitFalls (s : State) : State :=
  if s.loaded && s.is .hoist then s.returnAlarm .twoBlock else s

/-- A rise of HOME_L after the good load: the home event of the swing angle and the left cam (R78). -/
def State.homeLeftRises (s : State) : State :=
  if s.loaded && (s.is .swing || s.is .walk) then s.modMeas Measurement.homeLeft else s

/-- A rise of HOME_R after the good load: the home event of the right cam (R78). -/
def State.homeRightRises (s : State) : State :=
  if s.loaded && s.is .walk then s.modMeas Measurement.homeRight else s

/-- A rise of CONTACTOR_FB, taken by a drag after the good load (R128, R131). -/
def State.feedbackRises (s : State) : State :=
  if s.loaded && s.is .drag then s.contactorRises else s

/-- A fall of CONTACTOR_FB, taken by a drag after the good load (R130, R131). -/
def State.feedbackFalls (s : State) : State :=
  if s.loaded && s.is .drag then s.contactorFalls else s

/-- A rise of WALK_CMD, taken by the walk sequencer in RUN (R126, R137). -/
def State.walkCmdRises (s : State) : State :=
  if s.walkWorks && s.ctl.mode == .run then s.walkCommanded else s

/-- A fall of WALK_CMD is a stop request (R134). -/
def State.walkCmdFalls (s : State) : State := if s.walkWorks then s.stopWalk else s

/-- A rise of WALK_STOP is a stop request and starts the hold timer (R134, R136). -/
def State.walkStopRises (s : State) : State :=
  if s.walkWorks then (s.modWalk fun w => { w with stopHold := some s.now }).stopWalk else s

/-- A fall of WALK_STOP stops the hold timer and clears its forced cause (R136). -/
def State.walkStopFalls (s : State) : State :=
  if s.walkWorks then
    (s.modWalk fun w => { w with stopHold := none }).clearForced .walkStopHold
  else s

/-- A fall of SUPPLY_OK raises SUPPLY_LOW; in LOADING it also ends the read (R12). -/
def State.supplyFalls (s : State) : State := s.raiseStop .supplyLow 0

/-- A rise of SUPPLY_OK asks for the return of SUPPLY_LOW (R12). -/
def State.supplyRises (s : State) : State := s.returnAlarm .supplyLow

end Sys2Proof.Machine
end

