-- ==== Sys2Proof/Machine/Startup.lean ====
section
/-!
DEFINITION. Resets with the strap read (R1, R13), LISTEN's end (R7), and the report timers (R5, R7).
-/

namespace Sys2Proof.Machine

/-- The strap read that opens LOADING; a strap fault enters STOP at once (R1). -/
def State.readStraps (s : State) (straps : Straps) : State :=
  let t := s.modCtl fun c => { c with straps := some straps }
  if strapsValid straps then t else t.enterStop

/-- A power-on reset (R13).  The input lines and the commands that wait belong to the world outside. -/
def State.powerOn (s : State) (straps : Straps) : State :=
  ({ State.reset with pins := s.pins, pending := s.pending } : State).readStraps straps

/-- A local reset (R13): as a power-on reset, but with the restart flag LOCAL and the KEPT blocks
(R171). -/
def State.localReset (s : State) (straps : Straps) : State :=
  (({ State.reset with
      pins := s.pins
      capture := s.capture.afterLocalReset
      pending := s.pending } : State).modCtl fun c =>
        { c with restart := .localReset }).readStraps straps

/-- LISTEN has lasted LOST_LIMIT: HOLD with cause RESTART, the first write block, the report timer and
the first report (R7, R160). -/
def State.leaveListen (s : State) : State :=
  let t := ((s.setMode .hold).modCtl fun c =>
    { c with listenTimer := none, neutralSince := none }).putCause .restart true
  t.firstWriteBlock.startReportTimer.ownReport

/-- The LISTEN timer has run. -/
def State.listenDue (s : State) : Bool :=
  s.ctl.mode == .listen && s.ran s.ctl.listenTimer s.prm.lostLimit

/-- The end of LISTEN, at its time (R7). -/
def State.endListen (s : State) : State := if s.listenDue then s.leaveListen else s

/-- The report timer of a configured station has run (R7). -/
def State.reportDue (s : State) : Bool :=
  s.inService && s.ran s.ctl.reportTimer s.reportInterval

/-- The 50 ms report time of an unconfigured STOP has run (R5). -/
def State.unconfiguredReportDue (s : State) : Bool :=
  s.unconfigured && s.ran s.ctl.reportTimer s.reportInterval

end Sys2Proof.Machine
end

