-- ==== Sys2Proof/Machine/Clock.lean ====
section
/-!
DEFINITION. The station's clock: what one step of the millisecond timer does when no command waits.
The lines are sampled as they stand at the pins, and the commands whose time has come are put in the
queue (assumption log entry 1).
-/

namespace Sys2Proof.Machine

/-! ### Debouncing (R79) and the SUPPLY_OK filter (R80) -/

/-- How many differing samples make an edge (R79): 16. -/
def debounceSteps : Nat := 16

/-- The sample of this step completes an edge. -/
def Debounced.edges (d : Debounced) (level : Bool) : Bool :=
  level != d.value && decide (debounceSteps ≤ d.run + 1)

/-- One sample of a contact whose edges are commands: the edge itself is left to the command. -/
def Debounced.sample (d : Debounced) (level : Bool) : Debounced :=
  if level = d.value then { d with run := 0 }
  else if debounceSteps ≤ d.run + 1 then d
  else { d with run := d.run + 1 }

/-- One sample of an input that takes its edge itself, at so many differing samples in a row: a sample at
the value sets the run count to 0, a differing one adds 1, and the last of them is the edge, from which
the count starts at 0 (R79, R80). -/
def Debounced.sampleOver (steps : Nat) (d : Debounced) (level : Bool) : Debounced :=
  if level = d.value then { d with run := 0 }
  else if steps ≤ d.run + 1 then Debounced.settled level
  else { d with run := d.run + 1 }

/-- One sample of a contact at a step at which its edge is no command. -/
def Debounced.sampleFree (d : Debounced) (level : Bool) : Debounced :=
  Debounced.sampleOver debounceSteps d level

/-- A contact whose rise alone is a command: its fall is taken at the sample. -/
def Debounced.sampleRise (d : Debounced) (level : Bool) : Debounced :=
  if level then d.sample level else d.sampleFree level

/-- How many differing samples in a row pass the SUPPLY_OK filter (R80): 8. -/
def filterSteps : Nat := 8

/-- The level of SUPPLY_OK at each of its eight samples of one millisecond, the first first (R80). -/
def Pins.supplyLevels (p : Pins) : List Bool :=
  (List.range 8).map fun j => p.supplyOk != p.supplyDip.getLsbD j

/-- The SUPPLY_OK filter over samples in order (R80): the filtered value takes the sampled level at the
eighth differing sample in a row, and every sample counts, those after an edge too. -/
def Debounced.filter (d : Debounced) (levels : List Bool) : Debounced :=
  levels.foldl (Debounced.sampleOver filterSteps) d

/-- The contacts and SUPPLY_OK sampled, and the period timers run on, over one step (R74, R75, R79,
R80). -/
def Measurement.tick (m : Measurement) (pins : Pins) (pulses : Bool) : Measurement :=
  { m with
    runPermit := m.runPermit.sample pins.runPermit
    ack := m.ack.sampleRise pins.ack
    limit := m.limit.sample pins.limit
    brakeFb := m.brakeFb.sample pins.brakeFb
    contactorFb := m.contactorFb.sample pins.contactorFb
    walkCmd := m.walkCmd.sample pins.walkCmd
    walkStop := m.walkStop.sample pins.walkStop
    homeL := m.homeL.sampleRise pins.homeL
    homeR := m.homeR.sampleRise pins.homeR
    supplyOk := m.supplyOk.filter pins.supplyLevels
    timerA := if pulses then m.timerA.advance else m.timerA
    timerB := if pulses then m.timerB.advance else m.timerB }

/-! ### The commands that are due -/

/-- One command if its time has come. -/
def dueIf (b : Bool) (i : Instr) : List Instr := if b then [i] else []

/-- The edge commands of a contact. -/
def edgeOf (d : Debounced) (level : Bool) (rise fall : Instr) : List Instr :=
  dueIf (d.edges level) (if level then rise else fall)

/-- The edges that this step's samples complete (R79, R80). -/
def State.dueEdges (s : State) : List Instr :=
  let m := s.meas
  let p := s.pins
  edgeOf m.runPermit p.runPermit .runPermitRise .runPermitFall
    ++ dueIf (p.ack && m.ack.edges p.ack) .ackRise
    ++ edgeOf m.limit p.limit .limitRise .limitFall
    ++ dueIf (m.brakeFb.edges p.brakeFb) (.brakeFbEdge p.brakeFb)
    ++ edgeOf m.contactorFb p.contactorFb .contactorFbRise .contactorFbFall
    ++ edgeOf m.walkCmd p.walkCmd .walkCmdRise .walkCmdFall
    ++ edgeOf m.walkStop p.walkStop .walkStopRise .walkStopFall
    ++ dueIf (p.homeL && m.homeL.edges p.homeL) .homeLRise
    ++ dueIf (p.homeR && m.homeR.edges p.homeR) .homeRRise
    ++ dueIf ((m.supplyOk.filter p.supplyLevels).value != m.supplyOk.value)
        (if m.supplyOk.value then .supplyOkFall else .supplyOkRise)

/-- The entries that go STALE or ABSENT at this step (R36). -/
def State.dueAges (s : State) : List Instr :=
  (allStations.flatMap fun st => dueIf (s.staleDue st) (.entryGoesStale st))
    ++ allStations.flatMap fun st => dueIf (s.absentDue st) (.entryGoesAbsent st)

/-- The timers that run out at this step. -/
def State.dueTimers (s : State) : List Instr :=
  dueIf s.listenDue .listenExpiry
    ++ dueIf (s.ran s.link.clashTimer clashReturnTime) .addressClashReturnExpiry
    ++ dueIf (s.ran s.link.quietOut s.quietOutTime) .quietOutExpiry
    ++ dueIf (s.ran s.consent.own.sendLimit s.prm.objectionWindow) .sendLimitExpiry
    ++ dueIf (s.ran s.consent.own.windowTimer s.prm.objectionWindow) .windowExpiry
    ++ dueIf (s.ran s.walk.stopHold walkStopTime) .walkStopHoldExpiry
    ++ dueIf (s.ran s.walk.supplyLimit supplyLimitTime) .supplyLimitExpiry
    ++ dueIf (s.ran s.role.transferLimit supplyTime) .transferLimitExpiry
    ++ dueIf (s.ran s.role.returnLimit supplyTime) .returnLimitExpiry
    ++ dueIf (s.ran s.role.closedLimit supplyTime) .closedFeedbackLimitExpiry

/-- The keep deadlines that run out at this step (R167). -/
def State.dueKeeps (s : State) : List Instr :=
  (List.finRange 8).flatMap fun i : Fin 8 =>
    dueIf ((s.capture.block i.val).state == .awaitKeep
      && s.ran (s.capture.block i.val).keepDeadline s.prm.keepWindow) (.keepDeadlineExpiry i)

/-- The expiries that close a step: the regulation timer with the analog lines as they stand, and the
report timer. -/
def State.dueExpiries (s : State) : List Instr :=
  dueIf s.regulationDue (.regulationIntervalExpiry s.pins.analog)
    ++ dueIf s.reportDue .reportTimerExpiry
    ++ dueIf s.unconfiguredReportDue .unconfiguredReportExpiry

/-- Every command that is due at this step, in the order it will be taken. -/
def State.due (s : State) : List Instr :=
  s.dueEdges ++ s.dueAges ++ s.dueTimers ++ s.dueKeeps ++ s.dueExpiries

/-- One step of the millisecond timer with no command waiting. -/
def State.tick (s : State) : State :=
  let t := { s with now := s.now + 1 }
  { t.modMeas fun m => m.tick t.pins t.loaded with pending := t.due }

end Sys2Proof.Machine
end

