-- ==== Sys2Proof/Machine/ExecControl.lean ====
section
/-!
DEFINITION. The meanings of the commands of station control and of the regulation timer: resets, the load, LISTEN,
report timers, and the conditions of RUN (chapter 1, R67).
-/

namespace Sys2Proof.Machine

/-- POWER_ON_RESET (R13): every block at its power-on values, LOADING opened by the strap read (R1). -/
def execPowerOnReset (straps : Straps) (s : State) : Host.Outcome State Fault Refusal :=
  .next (s.powerOn straps)

/-- LOCAL_RESET (R13): every block at its local-reset values, the KEPT capture blocks kept (R171). -/
def execLocalReset (straps : Straps) (s : State) : Host.Outcome State Fault Refusal :=
  .next (s.localReset straps)

/-- PARAMETER_BLOCK_LOADED (R2 to R5): the load checks, then LISTEN or an unconfigured STOP. -/
def execParameterBlockLoaded (memory : List Byte) (s : State) : Host.Outcome State Fault Refusal :=
  .next (s.loadBlock memory)

/-- LISTEN_EXPIRY (R7), at the end of LOST_LIMIT. -/
def execListenExpiry (s : State) : Host.Outcome State Fault Refusal :=
  .next s.endListen

/-- REPORT_TIMER_EXPIRY (R7, R38), when REPORT_INTERVAL has run. -/
def execReportTimerExpiry (s : State) : Host.Outcome State Fault Refusal :=
  .next (if s.reportDue then s.reportEvent else s)

/-- UNCONFIGURED_REPORT_EXPIRY (R5), when 50 ms have run. -/
def execUnconfiguredReportExpiry (s : State) : Host.Outcome State Fault Refusal :=
  .next (if s.unconfiguredReportDue then s.reportEvent else s)

/-- REGULATION_INTERVAL_EXPIRY (R67), when REG_INTERVAL has run: the whole work of one expiry. -/
def execRegulationIntervalExpiry (raw : Analog) (s : State) : Host.Outcome State Fault Refusal :=
  .next (s.regulationExpiry raw)

/-- NEUTRAL_TIME_ELAPSED (R9): a station in HOLD enters RUN if the three conditions hold. -/
def execNeutralTimeElapsed (s : State) : Host.Outcome State Fault Refusal :=
  .next s.tryRun

end Sys2Proof.Machine
end

