-- ==== Sys2Proof/Machine/ExecInput.lean ====
section
/-!
DEFINITION. The meanings of the edges of contact inputs, of SUPPLY_OK and of the pulse lines (chapters 1, 5, 7, 8
and 10).
-/

namespace Sys2Proof.Machine

/-- RUN_PERMIT_RISE (R8, R9). -/
def execRunPermitRise (s : State) : Host.Outcome State Fault Refusal :=
  .next (s.settleRunPermit true).permitRises

/-- RUN_PERMIT_FALL (R10). -/
def execRunPermitFall (s : State) : Host.Outcome State Fault Refusal :=
  .next (s.settleRunPermit false).permitFalls

/-- ACK_RISE (R150). -/
def execAckRise (s : State) : Host.Outcome State Fault Refusal :=
  .next (s.settleAck true).ackRises

/-- LIMIT_RISE (R77, R108). -/
def execLimitRise (s : State) : Host.Outcome State Fault Refusal :=
  .next (s.settleLimit true).limitRises

/-- LIMIT_FALL (R108). -/
def execLimitFall (s : State) : Host.Outcome State Fault Refusal :=
  .next (s.settleLimit false).limitFalls

/-- HOME_L_RISE (R78). -/
def execHomeLRise (s : State) : Host.Outcome State Fault Refusal :=
  .next (s.settleHomeL true).homeLeftRises

/-- HOME_R_RISE (R78). -/
def execHomeRRise (s : State) : Host.Outcome State Fault Refusal :=
  .next (s.settleHomeR true).homeRightRises

/-- CONTACTOR_FB_RISE (R128, R131). -/
def execContactorFbRise (s : State) : Host.Outcome State Fault Refusal :=
  .next (s.settleContactorFb true).feedbackRises

/-- CONTACTOR_FB_FALL (R130, R131). -/
def execContactorFbFall (s : State) : Host.Outcome State Fault Refusal :=
  .next (s.settleContactorFb false).feedbackFalls

/-- WALK_CMD_RISE (R126, R137). -/
def execWalkCmdRise (s : State) : Host.Outcome State Fault Refusal :=
  .next (s.settleWalkCmd true).walkCmdRises

/-- WALK_CMD_FALL (R134). -/
def execWalkCmdFall (s : State) : Host.Outcome State Fault Refusal :=
  .next (s.settleWalkCmd false).walkCmdFalls

/-- WALK_STOP_RISE (R134, R136). -/
def execWalkStopRise (s : State) : Host.Outcome State Fault Refusal :=
  .next (s.settleWalkStop true).walkStopRises

/-- WALK_STOP_FALL (R136). -/
def execWalkStopFall (s : State) : Host.Outcome State Fault Refusal :=
  .next (s.settleWalkStop false).walkStopFalls

/-- SUPPLY_OK_FALL (R12). -/
def execSupplyOkFall (s : State) : Host.Outcome State Fault Refusal :=
  .next (s.settleSupplyOk false).supplyFalls

/-- SUPPLY_OK_RISE (R12). -/
def execSupplyOkRise (s : State) : Host.Outcome State Fault Refusal :=
  .next (s.settleSupplyOk true).supplyRises

/-- COUNT_EDGE (R74, R75). -/
def execCountEdge (pair : PairId) (phase : Phase) (us : Fin 1000) (s : State) : Host.Outcome State Fault Refusal :=
  .next (s.countEdge pair phase us)

/-- QUAD_SKIP (R74). -/
def execQuadSkip (pair : PairId) (s : State) : Host.Outcome State Fault Refusal :=
  .next (s.skipEdge pair)

/-- BRAKE_FB_EDGE (R79): the feedback check reads the debounced level at the next expiry (R100). -/
def execBrakeFbEdge (level : Bool) (s : State) : Host.Outcome State Fault Refusal :=
  .next (s.settleBrakeFb level)

end Sys2Proof.Machine
end

