-- ==== Sys2Proof/Machine/ExecLink.lean ====
section
/-!
DEFINITION. The meanings of the link events (chapter 2): transmissions, quiet-out, and received frames, each judged by
R26 to R28 and handed to the block that owns its kind (R29).
-/

namespace Sys2Proof.Machine

/-- TRANSMISSION_START (R17). -/
def execTransmissionStart (s : State) : Host.Outcome State Fault Refusal :=
  .next s.startTransmission

/-- CONTEST_LOST (R18). -/
def execContestLost (s : State) : Host.Outcome State Fault Refusal :=
  .next s.loseContest

/-- TRANSMIT_FAILURE (R20, R24). -/
def execTransmitFailure (s : State) : Host.Outcome State Fault Refusal :=
  .next s.failTransmission

/-- COMPLETION_EVENT (R19). -/
def execCompletionEvent (s : State) : Host.Outcome State Fault Refusal :=
  .next s.completeTransmission

/-- QUIET_OUT_EXPIRY (R25). -/
def execQuietOutExpiry (s : State) : Host.Outcome State Fault Refusal :=
  .next s.endQuietOut

/-- FRAME_LENGTH_ABANDONED (R26): a length field over 24. -/
def execFrameLengthAbandoned (length : BitVec 5) (s : State) : Host.Outcome State Fault Refusal :=
  .next (if s.receives && decide (maxLength < length.toNat) then s.countMalformed else s)

/-- FRAME_BAD (R26): a check value that differs, or a dominant end-field bit. -/
def execFrameBad (f : Frame) (check : BitVec 16) (endField : BitVec 4) (s : State) : Host.Outcome State Fault Refusal :=
  .next (if s.receives && frameIsBad f check endField then s.countBad.freeBuffer else s)

/-- FRAME_OWN_ADDRESS (R27): source 0, or the own address on a frame that the station did not send. -/
def execFrameOwnAddress (f : Frame) (s : State) : Host.Outcome State Fault Refusal :=
  .next (if s.receives && s.offends f then (s.clash f.src).freeBuffer else s)

/-- ADDRESS_CLASH_RETURN_EXPIRY (R27). -/
def execAddressClashReturnExpiry (s : State) : Host.Outcome State Fault Refusal :=
  .next s.expireClash

/-- FRAME_MALFORMED (R28): a good frame that does not fit Table 2-2. -/
def execFrameMalformed (f : Frame) (s : State) : Host.Outcome State Fault Refusal :=
  .next (s.receive f fun t => t)

/-- STATE_REPORT (R33 to R35), received. -/
def execStateReport (h : Header) (payload : List Byte) (s : State) : Host.Outcome State Fault Refusal :=
  .next (s.receive (headerFrame h 1 payload) (State.handReport (headerFrame h 1 payload)))

/-- PROPOSE (R54 to R57), received. -/
def execPropose (h : Header) (payload : List Byte) (s : State) : Host.Outcome State Fault Refusal :=
  .next (s.receive (headerFrame h 2 payload) (State.handPropose (headerFrame h 2 payload)))

/-- OBJECT (R61 to R63), received. -/
def execObject (h : Header) (payload : List Byte) (s : State) : Host.Outcome State Fault Refusal :=
  .next (s.receive (headerFrame h 3 payload) (State.handObject (headerFrame h 3 payload)))

/-- ALARM_NOTICE (R156), received. -/
def execAlarmNotice (h : Header) (payload : List Byte) (s : State) : Host.Outcome State Fault Refusal :=
  .next (s.receive (headerFrame h 4 payload) (State.handNotice (headerFrame h 4 payload)))

/-- KEEP_NOTICE (R167), received. -/
def execKeepNotice (h : Header) (payload : List Byte) (s : State) : Host.Outcome State Fault Refusal :=
  .next (s.receive (headerFrame h 5 payload) (State.handKeep (headerFrame h 5 payload)))

/-- SERVICE_REPLY (R29), received: ignored once it has passed the checks. -/
def execServiceReply (h : Header) (payload : List Byte) (s : State) : Host.Outcome State Fault Refusal :=
  .next (s.receive (headerFrame h 7 payload) fun t => t)

end Sys2Proof.Machine
end

