-- ==== Sys2Proof/Machine/ExecService.lean ====
section
/-!
DEFINITION. The meanings of the service requests (chapter 12), each a SERVICE_REQUEST as received: judged by R27 and
R28, answered if it is addressed to this station (R29, R172).
-/

namespace Sys2Proof.Machine

/-- READ_STATUS (R174). -/
def execReadStatus (h : Header) (args : List Byte) (s : State) : Host.Outcome State Fault Refusal :=
  .next (s.request h 1 args (readOnly (replyStatus args)))

/-- READ_PEER (R174). -/
def execReadPeer (h : Header) (args : List Byte) (s : State) : Host.Outcome State Fault Refusal :=
  .next (s.request h 2 args (readOnly (replyPeer args)))

/-- READ_COUNTERS (R174). -/
def execReadCounters (h : Header) (args : List Byte) (s : State) : Host.Outcome State Fault Refusal :=
  .next (s.request h 3 args (readOnly (replyCounters args)))

/-- READ_ALARMS (R174). -/
def execReadAlarms (h : Header) (args : List Byte) (s : State) : Host.Outcome State Fault Refusal :=
  .next (s.request h 4 args (readOnly (replyAlarms args)))

/-- ACK_ALARMS (R150, R175). -/
def execAckAlarms (h : Header) (args : List Byte) (s : State) : Host.Outcome State Fault Refusal :=
  .next (s.request h 5 args (workAck args))

/-- READ_CAPTURE_HEADER (R169, R174). -/
def execReadCaptureHeader (h : Header) (args : List Byte) (s : State) : Host.Outcome State Fault Refusal :=
  .next (s.request h 6 args (readOnly (replyHeader args)))

/-- READ_CAPTURE_SAMPLES (R169, R174). -/
def execReadCaptureSamples (h : Header) (args : List Byte) (s : State) : Host.Outcome State Fault Refusal :=
  .next (s.request h 7 args (readOnly (replySamples args)))

/-- RELEASE_CAPTURE (R169, R175). -/
def execReleaseCapture (h : Header) (args : List Byte) (s : State) : Host.Outcome State Fault Refusal :=
  .next (s.request h 8 args (workRelease args))

/-- FORCE_DERATE (R143, R175). -/
def execForceDerate (h : Header) (args : List Byte) (s : State) : Host.Outcome State Fault Refusal :=
  .next (s.request h 9 args (workForce args))

/-- SERVICE_REQUEST_UNKNOWN_CODE (R173): a code outside 1 to 9. -/
def execServiceRequestUnknownCode (h : Header) (code : Byte) (args : List Byte) (s : State) : Host.Outcome State Fault Refusal :=
  .next (if 1 ≤ code.toNat ∧ code.toNat ≤ 9 then s else s.request h code args (readOnly replyUnknown))

end Sys2Proof.Machine
end

