-- ==== Sys2Proof/Machine/ExecTimer.lean ====
section
/-!
DEFINITION. The meanings of the limits and persistence times that run out (chapters 3 to 9 and 11).  Each acts only
when its time has run, and leaves the station unchanged otherwise.  The times that a regulation
interval expiry keeps run out within that expiry too, by the same operations (assumption log entry 3).
-/

namespace Sys2Proof.Machine

/-- WALK_STOP_HOLD_EXPIRY (R136). -/
def execWalkStopHoldExpiry (s : State) : Host.Outcome State Fault Refusal :=
  .next s.expireStopHold

/-- SEND_LIMIT_EXPIRY (R52). -/
def execSendLimitExpiry (s : State) : Host.Outcome State Fault Refusal :=
  .next s.expireSendLimit

/-- WINDOW_EXPIRY (R64). -/
def execWindowExpiry (s : State) : Host.Outcome State Fault Refusal :=
  .next s.expireWindow

/-- ENTRY_GOES_STALE (R36, R40). -/
def execEntryGoesStale (n : Station) (s : State) : Host.Outcome State Fault Refusal :=
  .next (if s.staleDue n then s.goStale n else s)

/-- ENTRY_GOES_ABSENT (R36, R37, R41). -/
def execEntryGoesAbsent (n : Station) (s : State) : Host.Outcome State Fault Refusal :=
  .next (if s.absentDue n then s.goAbsent n else s)

/-- TACH_EXCESS_EXPIRY (R81). -/
def execTachExcessExpiry (s : State) : Host.Outcome State Fault Refusal :=
  .next s.expireTachExcess

/-- TACH_RECOVERY_EXPIRY (R81). -/
def execTachRecoveryExpiry (s : State) : Host.Outcome State Fault Refusal :=
  .next s.expireTachRecovery

/-- BRAKE_SET_TIME_EXPIRY (R98). -/
def execBrakeSetTimeExpiry (s : State) : Host.Outcome State Fault Refusal :=
  .next s.expireBrakeSet

/-- BRAKE_DISAGREE_EXPIRY (R100). -/
def execBrakeDisagreeExpiry (s : State) : Host.Outcome State Fault Refusal :=
  .next s.expireDisagree

/-- BRAKE_AGREE_EXPIRY (R100). -/
def execBrakeAgreeExpiry (s : State) : Host.Outcome State Fault Refusal :=
  .next s.expireAgree

/-- FIELD_LOSS_TIME_EXPIRY (R101). -/
def execFieldLossTimeExpiry (s : State) : Host.Outcome State Fault Refusal :=
  .next s.expireLoss

/-- FIELD_LOSS_CLEAR_EXPIRY (R101). -/
def execFieldLossClearExpiry (s : State) : Host.Outcome State Fault Refusal :=
  .next s.expireLossClear

/-- OVERCURRENT_CLEAR_EXPIRY (R102), of one of its two codes. -/
def execOvercurrentClearExpiry (which : FieldCheck) (s : State) : Host.Outcome State Fault Refusal :=
  .next (s.expireClear which)

/-- BOOM_OVERLOAD_TIME_EXPIRY (R110). -/
def execBoomOverloadTimeExpiry (s : State) : Host.Outcome State Fault Refusal :=
  .next s.expireOverload

/-- SWING_REST_EXPIRY (R115). -/
def execSwingRestExpiry (s : State) : Host.Outcome State Fault Refusal :=
  .next s.expireRest

/-- DERATE_PERSISTENCE_EXPIRY (R142). -/
def execDeratePersistenceExpiry (s : State) : Host.Outcome State Fault Refusal :=
  .next s.expireDerate

/-- SUPPLY_LIMIT_EXPIRY (R127). -/
def execSupplyLimitExpiry (s : State) : Host.Outcome State Fault Refusal :=
  .next s.expireSupplyLimit

/-- TRANSFER_LIMIT_EXPIRY (R128). -/
def execTransferLimitExpiry (s : State) : Host.Outcome State Fault Refusal :=
  .next s.expireTransfer

/-- RETURN_LIMIT_EXPIRY (R130). -/
def execReturnLimitExpiry (s : State) : Host.Outcome State Fault Refusal :=
  .next s.expireReturn

/-- CLOSED_FEEDBACK_LIMIT_EXPIRY (R131). -/
def execClosedFeedbackLimitExpiry (s : State) : Host.Outcome State Fault Refusal :=
  .next s.expireClosed

/-- END_TIME_EXPIRY (R138). -/
def execEndTimeExpiry (s : State) : Host.Outcome State Fault Refusal :=
  .next s.expireEnd

/-- POST_END (R165). -/
def execPostEnd (s : State) : Host.Outcome State Fault Refusal :=
  .next (if s.inService then s.endPost else s)

/-- DECISION_ENTRY_DUE (R166). -/
def execDecisionEntryDue (s : State) : Host.Outcome State Fault Refusal :=
  .next (if s.inService then s.decideDue else s)

/-- KEEP_DEADLINE_EXPIRY (R167). -/
def execKeepDeadlineExpiry (block : Fin 8) (s : State) : Host.Outcome State Fault Refusal :=
  .next (s.expireKeep block)

end Sys2Proof.Machine
end

