-- ==== Sys2Proof/Machine/Dispatch.lean ====
section
/-!
DEFINITION. The dispatch: one arm for each command, one direct call of its meaning.
-/

namespace Sys2Proof.Machine

/-- The effect of one command on the station, the queue of waiting commands apart. -/
def exec (i : Instr) (s : State) : Host.Outcome State Fault Refusal :=
  match i with
  | .powerOnReset straps => Sys2Proof.Machine.execPowerOnReset straps s
  | .localReset straps => Sys2Proof.Machine.execLocalReset straps s
  | .parameterBlockLoaded memory => Sys2Proof.Machine.execParameterBlockLoaded memory s
  | .listenExpiry => Sys2Proof.Machine.execListenExpiry s
  | .reportTimerExpiry => Sys2Proof.Machine.execReportTimerExpiry s
  | .unconfiguredReportExpiry => Sys2Proof.Machine.execUnconfiguredReportExpiry s
  | .regulationIntervalExpiry raw => Sys2Proof.Machine.execRegulationIntervalExpiry raw s
  | .neutralTimeElapsed => Sys2Proof.Machine.execNeutralTimeElapsed s
  | .runPermitRise => Sys2Proof.Machine.execRunPermitRise s
  | .runPermitFall => Sys2Proof.Machine.execRunPermitFall s
  | .ackRise => Sys2Proof.Machine.execAckRise s
  | .limitRise => Sys2Proof.Machine.execLimitRise s
  | .limitFall => Sys2Proof.Machine.execLimitFall s
  | .homeLRise => Sys2Proof.Machine.execHomeLRise s
  | .homeRRise => Sys2Proof.Machine.execHomeRRise s
  | .contactorFbRise => Sys2Proof.Machine.execContactorFbRise s
  | .contactorFbFall => Sys2Proof.Machine.execContactorFbFall s
  | .walkCmdRise => Sys2Proof.Machine.execWalkCmdRise s
  | .walkCmdFall => Sys2Proof.Machine.execWalkCmdFall s
  | .walkStopRise => Sys2Proof.Machine.execWalkStopRise s
  | .walkStopFall => Sys2Proof.Machine.execWalkStopFall s
  | .walkStopHoldExpiry => Sys2Proof.Machine.execWalkStopHoldExpiry s
  | .supplyOkFall => Sys2Proof.Machine.execSupplyOkFall s
  | .supplyOkRise => Sys2Proof.Machine.execSupplyOkRise s
  | .countEdge pair phase us => Sys2Proof.Machine.execCountEdge pair phase us s
  | .quadSkip pair => Sys2Proof.Machine.execQuadSkip pair s
  | .transmissionStart => Sys2Proof.Machine.execTransmissionStart s
  | .contestLost => Sys2Proof.Machine.execContestLost s
  | .transmitFailure => Sys2Proof.Machine.execTransmitFailure s
  | .completionEvent => Sys2Proof.Machine.execCompletionEvent s
  | .quietOutExpiry => Sys2Proof.Machine.execQuietOutExpiry s
  | .frameLengthAbandoned length => Sys2Proof.Machine.execFrameLengthAbandoned length s
  | .frameBad f check endField => Sys2Proof.Machine.execFrameBad f check endField s
  | .frameOwnAddress f => Sys2Proof.Machine.execFrameOwnAddress f s
  | .addressClashReturnExpiry => Sys2Proof.Machine.execAddressClashReturnExpiry s
  | .frameMalformed f => Sys2Proof.Machine.execFrameMalformed f s
  | .stateReport h payload => Sys2Proof.Machine.execStateReport h payload s
  | .propose h payload => Sys2Proof.Machine.execPropose h payload s
  | .object h payload => Sys2Proof.Machine.execObject h payload s
  | .sendLimitExpiry => Sys2Proof.Machine.execSendLimitExpiry s
  | .windowExpiry => Sys2Proof.Machine.execWindowExpiry s
  | .alarmNotice h payload => Sys2Proof.Machine.execAlarmNotice h payload s
  | .keepNotice h payload => Sys2Proof.Machine.execKeepNotice h payload s
  | .serviceReply h payload => Sys2Proof.Machine.execServiceReply h payload s
  | .readStatus h args => Sys2Proof.Machine.execReadStatus h args s
  | .readPeer h args => Sys2Proof.Machine.execReadPeer h args s
  | .readCounters h args => Sys2Proof.Machine.execReadCounters h args s
  | .readAlarms h args => Sys2Proof.Machine.execReadAlarms h args s
  | .ackAlarms h args => Sys2Proof.Machine.execAckAlarms h args s
  | .readCaptureHeader h args => Sys2Proof.Machine.execReadCaptureHeader h args s
  | .readCaptureSamples h args => Sys2Proof.Machine.execReadCaptureSamples h args s
  | .releaseCapture h args => Sys2Proof.Machine.execReleaseCapture h args s
  | .forceDerate h args => Sys2Proof.Machine.execForceDerate h args s
  | .serviceRequestUnknownCode h code args => Sys2Proof.Machine.execServiceRequestUnknownCode h code args s
  | .entryGoesStale n => Sys2Proof.Machine.execEntryGoesStale n s
  | .entryGoesAbsent n => Sys2Proof.Machine.execEntryGoesAbsent n s
  | .tachExcessExpiry => Sys2Proof.Machine.execTachExcessExpiry s
  | .tachRecoveryExpiry => Sys2Proof.Machine.execTachRecoveryExpiry s
  | .brakeSetTimeExpiry => Sys2Proof.Machine.execBrakeSetTimeExpiry s
  | .brakeDisagreeExpiry => Sys2Proof.Machine.execBrakeDisagreeExpiry s
  | .brakeAgreeExpiry => Sys2Proof.Machine.execBrakeAgreeExpiry s
  | .fieldLossTimeExpiry => Sys2Proof.Machine.execFieldLossTimeExpiry s
  | .fieldLossClearExpiry => Sys2Proof.Machine.execFieldLossClearExpiry s
  | .overcurrentClearExpiry which => Sys2Proof.Machine.execOvercurrentClearExpiry which s
  | .boomOverloadTimeExpiry => Sys2Proof.Machine.execBoomOverloadTimeExpiry s
  | .swingRestExpiry => Sys2Proof.Machine.execSwingRestExpiry s
  | .deratePersistenceExpiry => Sys2Proof.Machine.execDeratePersistenceExpiry s
  | .supplyLimitExpiry => Sys2Proof.Machine.execSupplyLimitExpiry s
  | .transferLimitExpiry => Sys2Proof.Machine.execTransferLimitExpiry s
  | .returnLimitExpiry => Sys2Proof.Machine.execReturnLimitExpiry s
  | .closedFeedbackLimitExpiry => Sys2Proof.Machine.execClosedFeedbackLimitExpiry s
  | .endTimeExpiry => Sys2Proof.Machine.execEndTimeExpiry s
  | .postEnd => Sys2Proof.Machine.execPostEnd s
  | .decisionEntryDue => Sys2Proof.Machine.execDecisionEntryDue s
  | .keepDeadlineExpiry block => Sys2Proof.Machine.execKeepDeadlineExpiry block s
  | .brakeFbEdge level => Sys2Proof.Machine.execBrakeFbEdge level s

end Sys2Proof.Machine
end

