-- ==== Sys2Proof/Safety.lean ====
section
/-!
DEFINITION. What a sound station is: the promises that the manual makes of every moment, in the terms that the
statements use.  Each is a predicate on one state, and each holds at reset and after every step.  Where
a promise needs help to survive a step, the help is part of the predicate and its docstring says so.
-/

namespace Sys2Proof

/-- One of the two resets (R13). -/
def Instr.isReset : Instr → Bool
  | .powerOnReset _ | .localReset _ => true
  | _ => false

/-- The end of the parameter load. -/
def Instr.isLoad : Instr → Bool
  | .parameterBlockLoaded _ => true
  | _ => false

end Sys2Proof

namespace Sys2Proof.Machine

/-! ### Outputs (R11) -/

/-- LOADING, LISTEN and STOP: the modes with safe outputs (Table 1-3). -/
def Mode.safe : Mode → Bool
  | .loading | .listen | .stop => true
  | .hold | .run => false

/-- Field duty 0, brake output set, transfer output open (Table 1-3). -/
abbrev State.outputsOff (s : State) : Prop :=
  s.out.fieldPwm = 0 ∧ s.out.brakeSet = true ∧ s.out.transferClosed = false

/-- A walk that could release the cam brake or drive a reference at its next event. -/
def WalkState.live : WalkState → Bool
  | .transfer | .stepping | .stopping | .halted => true
  | .idle | .proposing | .forced | .returning => false

/-- The safe outputs hold in the three safe modes (R11), with nothing left behind them that would drive
an output: the duty and the internal reference are 0 and no walk is live (R85, R136). -/
def State.SafeModes (s : State) : Prop :=
  s.ctl.mode.safe = true →
    s.outputsOff ∧ s.drive.duty = 0 ∧ s.drive.reference = 0 ∧ s.walk.state.live = false

/-! ### Station control (R8, R9, R11, R151) -/

/-- A station with any STOP-severity code away from NORMAL is in mode STOP (R11). -/
def State.StopCodesStop (s : State) : Prop :=
  (∃ c ∈ allCodes, c.severity = .stop ∧ s.ann c ≠ .normal) → s.ctl.mode = .stop

/-- A station is in RUN only while its hold-cause set is empty (R9). -/
def State.RunIsFree (s : State) : Prop := s.ctl.mode = .run → s.ctl.causes.isEmpty = true

/-- Four hold causes say exactly what their owners find (Table 1-4): LOCAL_TRIP that a TRIP code is away
from NORMAL (R151), PEER_STOP that a stop mark is set (R45), ROLE_CONFLICT that a conflict is present
(R44), PICTURE_INCOMPLETE that a roster entry other than self is ABSENT (R39).  Before the load, when
the set is not yet in force, nothing has been found and nothing is being sent. -/
def State.CausesAgree (s : State) : Prop :=
  (s.hasCause .localTrip = !s.alarm.tripsNormal)
    ∧ (s.hasCause .peerStop = s.peers.someMark fun e => e.stopMark)
    ∧ (s.hasCause .roleConflict = s.peers.conflict)
    ∧ (s.hasCause .pictureIncomplete = s.someAbsent)
    ∧ (s.ctl.mode = .loading →
        s.ctl.causes.isEmpty = true ∧ s.link.sending = none
          ∧ ∀ n : Station, (s.entry n).status = .absent)

/-! ### Link controller (R21) -/

/-- A list of frames stands in order of class, lowest first. -/
def classOrdered : List Queued → Bool
  | [] => true
  | [_] => true
  | x :: y :: l => decide (x.cls ≤ y.cls) && classOrdered (y :: l)

/-- How many frames of a queue a test picks. -/
def countOf (p : Queued → Bool) (l : List Queued) : Nat := (l.filter p).length

/-- The transmit queue holds at most 8 frames in class order, at most one of them a STATE_REPORT and at
most one an OBJECT for any one proposal (R21). -/
def State.QueueSound (s : State) : Prop :=
  s.link.queue.length ≤ 8 ∧ classOrdered s.link.queue = true
    ∧ countOf (fun q => q.frame.isReport) s.link.queue ≤ 1
    ∧ ∀ q ∈ s.link.queue, countOf (fun x => x.frame.sameObject q.frame) s.link.queue ≤ 1

/-! ### Peer table (R37, R38) -/

/-- An ABSENT entry has its stop, mismatch and change marks clear (R37). -/
def State.AbsentUnmarked (s : State) : Prop :=
  ∀ n : Station, (s.entry n).status = .absent →
    (s.entry n).stopMark = false ∧ (s.entry n).mismatchMark = false
      ∧ (s.entry n).changeMark = false

/-- The own entry is not aged, its counts stay 0 and its marks stay clear (R38). -/
def State.OwnEntryClean (s : State) : Prop :=
  ∀ n : Station, s.self = some n →
    (s.entry n).status ≠ .stale ∧ (s.entry n).gaps = 0 ∧ (s.entry n).dups = 0
      ∧ (s.entry n).staleMark = false ∧ (s.entry n).lostMark = false
      ∧ (s.entry n).mismatchMark = false ∧ (s.entry n).changeMark = false
      ∧ (s.entry n).stopMark = false

/-! ### Consent engine and swing (R48, R55, R97, R113 to R117) -/

/-- While its own proposal stands, a station holds nothing, and the proposal has a number and a kind
(R50, R55).  A station without an address, which could tell no proposer from itself, is in LOADING or
STOP and proposes nothing (R1). -/
def State.ConsentSound (s : State) : Prop :=
  (s.self = none → s.ctl.mode = .loading ∨ s.ctl.mode = .stop)
    ∧ (s.consent.own.status ≠ .idle →
        s.consent.held = none ∧ s.consent.own.number ≠ 0 ∧ s.consent.own.kind.isSome = true)

/-- The proposal status that goes with a swing state (R113 to R117). -/
def SwingState.status : SwingState → ProposalStatus
  | .locked => .idle
  | .proposing => .pending
  | .free => .active
  | .withdrawing => .withdrawing

/-- On a swing lead or solo the swing state and the own proposal go together, and the brake output is
released only while the proposal is ACTIVE or WITHDRAWING (R99).  Such a station has no walk and
makes no other proposal.  Before the load, when no station has a place yet, nothing has begun. -/
def State.SwingSound (s : State) : Prop :=
  (s.swingLead = true →
    s.consent.own.status = s.role.swing.status
      ∧ (s.out.brakeSet = false → s.role.swing = .free ∨ s.role.swing = .withdrawing)
      ∧ s.walk.state = .idle
      ∧ (s.role.swing ≠ .locked → s.consent.own.kind = some .swingRelease))
    ∧ (s.ctl.mode = .loading →
        s.consent.own.status = .idle ∧ s.role.swing = .locked ∧ s.out.brakeSet = true
          ∧ s.walk.state = .idle)

/-! ### Drive regulator (R85, R88, R95) -/

/-- The direction output that a duty asks for; at a duty of 0 either may stand (R95). -/
def directionFits (duty : Int) (dir : FieldDir) : Prop :=
  (0 < duty → dir = .forward) ∧ (duty < 0 → dir = .reverse)

/-- The reference stays within ±256 000 (R85), the target within ±1000 (R88) and the duty within ±1000,
and the field outputs show the duty (R95). -/
def State.DriveSound (s : State) : Prop :=
  s.drive.reference.natAbs ≤ 256000 ∧ s.drive.target.natAbs ≤ 1000 ∧ s.drive.duty.natAbs ≤ 1000
    ∧ s.out.fieldPwm = s.drive.duty.natAbs ∧ directionFits s.drive.duty s.out.fieldDir

/-! ### Drag supply and walk (R128, R132) -/

/-- The transfer output is closed only away from NORMAL, and on a drag away from NORMAL the drag brake
output is set: the two are never closed and released at one time.  No station but a drag leaves NORMAL
(R128). -/
def State.SupplySound (s : State) : Prop :=
  (s.out.transferClosed = true → s.role.supply ≠ .normal)
    ∧ (s.is .drag = false → s.role.supply = .normal)
    ∧ (s.is .drag = true → s.role.supply ≠ .normal → s.out.brakeSet = true)

/-- The cam references lie within 0 to 1000, and they and the walk reference are nonzero only in
STEPPING and STOPPING (R132). -/
def State.WalkSound (s : State) : Prop :=
  s.walk.left ≤ 1000 ∧ s.walk.right ≤ 1000
    ∧ (s.walk.state.moves = false → s.walk.reference = 0 ∧ s.walk.left = 0 ∧ s.walk.right = 0)

/-! ### Heat monitor (R143) -/

/-- The effective level is the larger of the derate and the forced level, and all lie within 0 to 7. -/
def State.LevelsSound (s : State) : Prop :=
  s.heat.level ≤ 7 ∧ s.heat.forced ≤ 7 ∧ s.heat.effective = max s.heat.level s.heat.forced

/-! ### Alarm unit (R152 to R154) -/

/-- Horn and lamps show what the annunciator states and the mode ask for (R1, R152, R153). -/
def State.LampsShow (s : State) : Prop :=
  s.out.horn = s.hornState ∧ s.out.lampWarn = s.lampWarnState ∧ s.out.lampTrip = s.lampTripState

/-- Each entry's sequence is one more than that of the entry before it, the last one below `next`. -/
def consecutive (next : Word16) : List AlarmEntry → Bool
  | [] => true
  | [e] => e.seq + 1 == next
  | e :: f :: l => e.seq + 1 == f.seq && consecutive next (f :: l)

/-- The alarm list holds at most 32 entries, in consecutive sequence order (R154). -/
def State.ListSound (s : State) : Prop :=
  s.alarm.list.length ≤ 32 ∧ consecutive s.alarm.nextSeq s.alarm.list = true

/-! ### Capture store (R160, R168) -/

/-- How many blocks are RECORDING or POST. -/
def CaptureStore.writers (k : CaptureStore) : Nat := (k.blocks.filter fun b => b.state.writes).length

/-- Block `i` exists and is KEPT. -/
def CaptureStore.isKept (k : CaptureStore) (i : Nat) : Bool :=
  decide (i < k.blocks.length) && (k.block i).state == .kept

/-- At most one block is RECORDING or POST (R160), the kept queue holds exactly the KEPT blocks, each
once (R168), and the slot list stands in its canonical form.  Before the exit from LISTEN every block
is FREE or KEPT (R171). -/
def State.CaptureSound (s : State) : Prop :=
  s.capture.writers ≤ 1
    ∧ s.capture.kept.Nodup ∧ (∀ i ∈ s.capture.kept, s.capture.isKept i = true)
    ∧ (∀ i ∈ List.range s.capture.blocks.length, s.capture.isKept i = true → i ∈ s.capture.kept)
    ∧ slotsWf s.capture.slots = true
    ∧ (s.ctl.mode = .loading ∨ s.ctl.mode = .listen →
        ∀ b ∈ s.capture.blocks, b.state = .free ∨ b.state = .kept)

/-! ### The terms of the statements -/

/-- The command completes: `exec` answers a next state, and `P` holds of it. -/
def Completes (c : Instr) (s : State) (P : State → Prop) : Prop := ∃ t, exec c s = .next t ∧ P t

/-- Where Table 1-3 lets a mode go at one command that is no reset. -/
def Mode.mayBecome : Mode → Mode → Bool
  | .loading, m => m == .loading || m == .listen || m == .stop
  | .listen, m => m == .listen || m == .hold || m == .stop
  | .hold, m => m == .hold || m == .run || m == .stop
  | .run, m => m == .run || m == .hold || m == .stop
  | .stop, m => m == .stop

/-- The move of a return request (Table 10-3). -/
def AnnState.afterReturn : AnnState → AnnState
  | .activeUnack => .returnedUnack
  | .activeAck => .normal
  | .normal => .normal
  | .returnedUnack => .returnedUnack

/-- The move of an acknowledge (Table 10-3). -/
def AnnState.afterAck : AnnState → AnnState
  | .activeUnack => .activeAck
  | .returnedUnack => .normal
  | .normal => .normal
  | .activeAck => .activeAck

/-- From `s` to `t` code `c` has been raised with value `v`: it is ACTIVE_UNACK, and the entry that was
to be written next in `s` stands in the list as its RAISED entry (R148). -/
abbrev Raised (s t : State) (c : AlarmCode) (v : Int) : Prop :=
  t.ann c = .activeUnack
    ∧ (⟨s.alarm.nextSeq, s.now, c, .raised, alarmValue v, s.sourceNumber⟩ : AlarmEntry) ∈ t.alarm.list

/-- From `s` to `t` code `c` has been raised with value `v` among what else the event raised and returned:
it is ACTIVE_UNACK, and one of the entries written since `s` is its RAISED entry (R148). -/
abbrev RaisedAmong (s t : State) (c : AlarmCode) (v : Int) : Prop :=
  t.ann c = .activeUnack
    ∧ ∃ e ∈ t.alarm.list, (e.seq - s.alarm.nextSeq).toNat < 32
      ∧ e = ⟨e.seq, s.now, c, .raised, alarmValue v, s.sourceNumber⟩

/-- A raise of code `c` takes effect: the alarm unit is in use and the code is not masked (R147). -/
abbrev State.raises (s : State) (c : AlarmCode) : Prop := s.alarmInUse = true ∧ s.masked c = false

/-- A TRIP that has left its traces: LOCAL_TRIP is present and the station is not in RUN (R151). -/
abbrev State.tripped (t : State) : Prop := t.hasCause .localTrip = true ∧ t.ctl.mode ≠ .run

/-- Sample `v` shows the values that the station holds: channels 2 to 4 and the flags, and on the walk
station channel 1, the left reference (R161). -/
abbrev State.shownBy (t : State) (v : Sample) : Prop :=
  (t.is .walk = true → v.ch1 = t.walk.left)
    ∧ v.ch2 = (if t.is .walk then (t.meas.angleA : Int) else t.meas.speedB)
    ∧ v.ch3 = (if t.is .walk then (t.meas.angleB : Int) else t.meas.current)
    ∧ v.ch4 = (if t.is .walk then t.walk.stepCount.toNat % 65536 else t.meas.tension)
    ∧ v.brakeSet = t.out.brakeSet ∧ v.hold = !t.ctl.causes.isEmpty ∧ v.level = t.heat.effective

/-- Frame `f` stands in the transmit queue. -/
abbrev State.queued (t : State) (f : OutFrame) : Prop := ∃ q ∈ t.link.queue, q.frame = f

/-- The transmit queue takes `k` more frames without loss: the station is on the link, not in quiet-out,
and has room. -/
abbrev State.hasRoom (s : State) (k : Nat) : Prop :=
  s.onLink = true ∧ s.link.quietOut = none ∧ s.link.queue.length + k ≤ 8

/-- The header of a broadcast frame of class `cls` from station `n` (Table 2-2). -/
def broadcast (cls : BitVec 3) (n : Station) : Header := ⟨cls, stationAddress n, 15⟩

/-- The station receives, and station `n` is not itself. -/
abbrev State.hears (s : State) (n : Station) : Prop := s.receives = true ∧ s.self ≠ some n

/-- `h` heads a SERVICE_REQUEST for this station, whose service logic answers and whose request slot is
free (R29, R172). -/
abbrev State.isAsked (s : State) (h : Header) : Prop :=
  s.onLink = true ∧ s.slotFull = false ∧ h.cls = 6 ∧ h.src = 14
    ∧ ∃ st, s.self = some st ∧ h.dst = stationAddress st

/-- The reply of a request in the place that R21 gives it, the slot full, and nothing else touched. -/
def State.replied (s : State) (code : Byte) (r : Reply) : State :=
  { s with
    link := { s.link with
      receiveBuffer := none
      queue := insertByClass ⟨.serviceReply code r.status r.data, s.now, false, false⟩ s.link.queue }
    slotFull := true }

/-- A good frame has come and gone and left only a higher RX_MALFORMED. -/
def State.malformed (s : State) : State :=
  { s with link := { s.link with receiveBuffer := none, rxMalformed := satInc s.link.rxMalformed } }

/-- A good frame has come and gone and left nothing. -/
def State.ignored (s : State) : State := { s with link := { s.link with receiveBuffer := none } }

/-- Station control as Table 1-5 gives it after a reset that read straps `x`. -/
abbrev State.ControlReset (t : State) (x : Straps) (flag : RestartFlag) : Prop :=
  t.ctl.mode = .loading ∧ t.ctl.straps = some x ∧ t.ctl.params = none ∧ t.ctl.roster = []
    ∧ t.ctl.place = none ∧ t.ctl.causes.isEmpty = true ∧ t.ctl.listenTimer = none
    ∧ t.ctl.neutralSince = none ∧ t.ctl.reportTimer = none ∧ t.ctl.restart = flag ∧ t.outputsOff

/-- The STOP of a strap fault (R1): silent, with safe outputs, horn on, LAMP_TRIP steady, and no code
raised. -/
abbrev State.StrapStopped (s : State) : Prop :=
  s.strapFault = true ∧ s.ctl.mode = .stop ∧ s.outputsOff ∧ s.out.horn = true
    ∧ s.out.lampTrip = .steady ∧ (∀ c ∈ allCodes, s.ann c = .normal) ∧ s.link.queue = []
    ∧ s.link.sending = none

/-! ### A step of the drive regulator (R84 to R97) -/

/-- `x` moved toward `goal` by `d`, not past it (0-6). -/
def stepToward (x goal : Int) (d : Nat) : Int :=
  if x ≤ goal then min goal (x + d) else max goal (x - d)

/-- The step size of a rate (R90). -/
def Params.stepOf (p : Params) (rate : Nat) : Nat := max 1 (rate * 256 * p.regInterval / 1000)

/-- One move of a reference by the first case of R91 that applies. -/
def rampedBy (r goal : Int) (acc dec : Nat) : Int :=
  if r * goal < 0 then stepToward r 0 dec
  else if r.natAbs < goal.natAbs then stepToward r goal acc
  else stepToward r goal dec

/-- Stage 1 at a corrected MASTER value: on a follow the lead's reported reference, 0 while the lead entry is
ABSENT (R86, R87). -/
def State.commandAt (s : State) (master : Int) : Int :=
  if s.follows then
    match s.leadStation with
    | some n =>
      if (s.entry n).status = .absent then 0
      else max (-1000) (min 1000 (s.entry n).fields.speedRef.toInt)
    | none => 0
  else if master.natAbs ≤ s.prm.msDead then 0
  else
    (if master < 0 then -1 else 1)
      * (min 1000 (((master.natAbs : Int) - s.prm.msDead) * 1000 / ((s.prm.msSpan : Int) - s.prm.msDead)))

/-- The zone limit at a payout, by the table of R89. -/
def State.zoneAt (s : State) (slow stop payout : Nat) : Nat :=
  if s.meas.limit.value = true ∨ payout ≤ stop then 0
  else if s.meas.homedA = true ∧ slow ≤ payout then 1000
  else if s.meas.homedA = true then
    s.prm.creep + (1000 - s.prm.creep) * (payout - stop) / (slow - stop)
  else s.prm.creep

/-- The regulator steps in RUN at the expiry from `s` to `t`: the station is in RUN, and the speed cross-check
raises no TACH_FAULT at the expiry, which would put it in HOLD before the step (R84; assumption log entry
40). -/
def State.stepsInRun (s t : State) : Bool :=
  s.ctl.mode == .run && !(t.meas.tachRaised && !s.meas.tachRaised)

/-- What R88 and R104 leave in both directions: 1000, and SOLO_SPEED at a lead whose follow entry is not
FRESH. -/
def State.pairLimit (s : State) : Nat :=
  match s.followStation with
  | some n =>
    if s.ctl.place = some .lead ∧ (s.entry n).status ≠ .fresh then min 1000 s.prm.soloSpeed else 1000
  | none => 1000

/-- The boom excess of a drag in normal supply, with the tension and payout of the expiry in `t`, in the four
steps of R111. -/
def State.excessAt (t : State) : Int :=
  let k := boomFactor t.prm t.meas.payout
  let hoists := t.pairSum .hoist
  let allowed := if t.prm.boomLimit ≤ hoists then 0 else (t.prm.boomLimit - hoists) * 1000 / k
  let share := allowed / t.pairCount .drag
  if k = 0 ∨ t.meas.tension ≤ share then 0
  else ((t.meas.tension - share) * t.prm.boomGain / 256 : Nat)

/-- The walk reference that a drag in walk supply serves, 0 unless the walk entry is FRESH (R128, R129). -/
def State.servedReference (s : State) : Int :=
  match s.walkStation with
  | some n =>
    let f := (s.entry n).fields
    if (s.entry n).status = .fresh then
      max 0 (min 1000 (if s.follows then f.refRight.toInt else f.refLeft.toInt))
    else 0
  | none => 0

/-- From `s` to `t` the regulator has worked stages 3 to 6 with this target, deceleration rate and boom excess,
in RUN or not, at the current that `t` shows: the move of R91, the fold of R92 and R93, the trim of R94,
the duty of R95. -/
abbrev State.Stepped (s t : State) (runs : Bool) (target : Int) (rate : Nat) (excess : Int) : Prop :=
  let ramped := rampedBy s.drive.reference (256 * target) (s.prm.stepOf s.prm.accRate) (s.prm.stepOf rate)
  let limit := s.prm.ratedLimit * (8 - s.heat.effective) / 8
  let beyond : Int := max ((t.meas.current.natAbs - limit : Nat) : Int) excess
  let reference := stepToward ramped 0 (256 * (beyond.toNat * s.prm.clGain / 256))
  let trim : Int :=
    match s.leadStation with
    | some n =>
      if s.follows = true ∧ (s.is .drag = true → s.role.supply = .normal) ∧ runs = true
          ∧ reference ≠ 0 ∧ (s.entry n).status = .fresh then
        max (-(s.prm.shareMax : Int)) (min s.prm.shareMax
          (((max (-2500) (min 2500 (s.entry n).fields.current.toInt) - t.meas.current)
            * s.prm.shareGain).tdiv 1000))
      else 0
    | none => 0
  let x := reference + 256 * trim
  t.drive.reference = reference ∧ t.drive.trim = trim
    ∧ t.drive.duty = (if reference * x < 0 then 0 else max (-1000) (min 1000 (x.tdiv 256)))
    ∧ t.out.fieldPwm = t.drive.duty.natAbs

/-! ### An expiry of the walk sequencer (R123 to R135) -/

/-- The skew of two cam angles, taken into −1800 to +1799 (R132). -/
def skewOf (left right : Nat) : Int := ((left : Int) - right + 1800) % 3600 - 1800

/-- The walk target of an expiry, by the walk state and phase before it and the region judged at it
(R132, Table 8-1). -/
def State.targetIn (s : State) (region : Option Region) : Nat :=
  match s.walk.state, s.walk.phase, region with
  | .stepping, _, none | .stopping, some .creep, _ => s.prm.walkCreep
  | .stepping, _, some .reach => s.prm.phaseSpeed.getD 0 0
  | .stepping, _, some .lift => s.prm.phaseSpeed.getD 1 0
  | .stepping, _, some .carry => s.prm.phaseSpeed.getD 2 0
  | .stepping, _, some .settle => s.prm.phaseSpeed.getD 3 0
  | .stepping, _, some .back => s.prm.phaseSpeed.getD 4 0
  | _, _, _ => 0

/-- The walk station judges the skew and finds it beyond SKEW_STOP, at the angles that `t` shows: both cams
homed, two DRAG entries in the roster (R133). -/
def State.skewedAt (s t : State) : Bool :=
  s.meas.homedA && s.meas.homedB && decide (2 ≤ (s.rosterOf .drag).length)
    && decide (s.prm.skewStop < (skewOf t.meas.angleA t.meas.angleB).natAbs)

/-- In `t` the cams are stopped: no reference, the cam brake set. -/
abbrev State.camsStopped (t : State) : Prop :=
  t.walk.reference = 0 ∧ t.walk.left = 0 ∧ t.walk.right = 0 ∧ t.out.brakeSet = true

/-! ### What an arm does to the blocks (R164, Table 11-3) -/

/-- A block put in POST for an arm: what it takes, and what it keeps of its samples (R164). -/
def CaptureBlock.posted (b : CaptureBlock) (size : Nat) (now : Time) (post : Nat) (id : ArmId)
    (code : Option AlarmCode) : CaptureBlock :=
  { b with
    state := .post, armId := some id, armCode := code, armTime := now, keepMark := false
    keepDeadline := none, post := post, complete := decide (b.stored = size)
    armIndex := min b.stored (size - 1) }

/-- A local arm that was merged or ignored joins the decision list, the oldest entry leaving a list of 8; a
peer's arm does not (R166). -/
def decisionsWith (l : List Decision) (id : ArmId) (code : Option AlarmCode) (mergedInto : Option ArmId)
    (post : Nat) : List Decision :=
  match code with
  | some c => (if l.length < 8 then l else l.drop 1) ++ [⟨id, c, mergedInto, post⟩]
  | none => l

/-- From store `k` to store `k'` one arm has been handled by Table 11-3: a RECORDING block becomes POST; an arm
that finds a POST is merged; with no write block the block that has been AWAIT_KEEP longest is emptied
and reused; with none of these the arm is ignored. -/
abbrev CaptureStore.Armed (k k' : CaptureStore) (now : Time) (post : Nat) (id : ArmId)
    (code : Option AlarmCode) : Prop :=
  let size := 2048 / k.blocks.length
  let age (i : Nat) : Nat := (now - (k.block i).awaitSince).toNat
  (∀ i < k.blocks.length, (k.block i).state = .recording →
      k' = { k with
        armCount := k.armCount + 1
        blocks := k.blocks.set i ((k.block i).posted size now post id code) })
    ∧ (∀ i < k.blocks.length, (k.block i).state = .post →
      k' = { k with
        armCount := k.armCount + 1, armsMerged := k.armsMerged + 1
        decisions := decisionsWith k.decisions id code (k.block i).armId post })
    ∧ (∀ i < k.blocks.length, k.writers = 0 → (k.block i).state = .awaitKeep →
      (∀ j < k.blocks.length, (k.block j).state = .awaitKeep → j ≠ i → age j < age i) →
      k' = { k with
        armCount := k.armCount + 1
        blocks := k.blocks.set i
          ({ k.block i with stored := 0, oldest := i * size }.posted size now post id code)
        exceed := ⟨0, 0, 0, 0⟩, last := none, sinceLast := 0 })
    ∧ (k.writers = 0 → (∀ i < k.blocks.length, (k.block i).state ≠ .awaitKeep) →
      k' = { k with
        armCount := k.armCount + 1, armsIgnored := k.armsIgnored + 1
        decisions := decisionsWith k.decisions id code none post })

/-! ### What one millisecond brings (R36, R79, R80) -/

/-- A contact after one sample, whose edges are left to their commands: the run count is 0 where the
sample equals the value and one higher where it differs, up to the sixteenth (R79). -/
def Debounced.sampled (d : Debounced) (pin : Bool) : Debounced :=
  if pin = d.value then ⟨d.value, 0⟩ else if d.run < 15 then ⟨d.value, d.run + 1⟩ else d

/-- A contact after one sample, whose fall has no command: the sixteenth low sample is the fall (R79). -/
def Debounced.sampledRise (d : Debounced) (pin : Bool) : Debounced :=
  if pin = false ∧ d.value = true ∧ 15 ≤ d.run then ⟨false, 0⟩ else d.sampled pin

/-- The sample of a contact is the sixteenth in a row that differs, and finds it at `level` (R79). -/
def Debounced.turns (d : Debounced) (pin level : Bool) : Bool :=
  pin == level && d.value != level && decide (15 ≤ d.run)

/-- The level of SUPPLY_OK at sample `k` of the millisecond, counted from 0 (R80). -/
def Pins.supplyAt (p : Pins) (k : Nat) : Bool := p.supplyOk != p.supplyDip.getLsbD k

/-- Some sample of SUPPLY_OK in the millisecond is the eighth in a row that differs from the filtered
value.  With eight samples a millisecond, all samples before it differ too (R80). -/
def State.supplyTurns (s : State) : Bool :=
  (List.range 8).any fun j =>
    decide (7 ≤ s.meas.supplyOk.run + j)
      && (List.range (j + 1)).all fun i => s.pins.supplyAt i != s.meas.supplyOk.value

/-- Command `c` falls due at this step of the millisecond timer, which stands at the new reading: an edge
of an input, or a time that has run.  The times are the manual's, in milliseconds. -/
def State.fallsDue (s : State) : Instr → Bool
  | .runPermitRise => s.meas.runPermit.turns s.pins.runPermit true
  | .runPermitFall => s.meas.runPermit.turns s.pins.runPermit false
  | .ackRise => s.meas.ack.turns s.pins.ack true
  | .limitRise => s.meas.limit.turns s.pins.limit true
  | .limitFall => s.meas.limit.turns s.pins.limit false
  | .brakeFbEdge level => s.meas.brakeFb.turns s.pins.brakeFb level
  | .contactorFbRise => s.meas.contactorFb.turns s.pins.contactorFb true
  | .contactorFbFall => s.meas.contactorFb.turns s.pins.contactorFb false
  | .walkCmdRise => s.meas.walkCmd.turns s.pins.walkCmd true
  | .walkCmdFall => s.meas.walkCmd.turns s.pins.walkCmd false
  | .walkStopRise => s.meas.walkStop.turns s.pins.walkStop true
  | .walkStopFall => s.meas.walkStop.turns s.pins.walkStop false
  | .homeLRise => s.meas.homeL.turns s.pins.homeL true
  | .homeRRise => s.meas.homeR.turns s.pins.homeR true
  | .supplyOkRise => s.supplyTurns && !s.meas.supplyOk.value
  | .supplyOkFall => s.supplyTurns && s.meas.supplyOk.value
  | .entryGoesStale n =>
    s.loaded && s.self != some n && (s.entry n).status == .fresh
      && decide (s.prm.staleLimit < s.age n)
  | .entryGoesAbsent n =>
    s.loaded && s.self != some n && (s.entry n).status == .stale
      && decide (s.prm.lostLimit < s.age n)
  | .listenExpiry => s.ctl.mode == .listen && s.ran s.ctl.listenTimer s.prm.lostLimit
  | .addressClashReturnExpiry => s.ran s.link.clashTimer 1000
  | .quietOutExpiry => s.ran s.link.quietOut (4 * s.reportInterval)
  | .sendLimitExpiry => s.ran s.consent.own.sendLimit s.prm.objectionWindow
  | .windowExpiry => s.ran s.consent.own.windowTimer s.prm.objectionWindow
  | .walkStopHoldExpiry => s.ran s.walk.stopHold 2000
  | .supplyLimitExpiry => s.ran s.walk.supplyLimit 1000
  | .transferLimitExpiry => s.ran s.role.transferLimit 500
  | .returnLimitExpiry => s.ran s.role.returnLimit 500
  | .closedFeedbackLimitExpiry => s.ran s.role.closedLimit 500
  | .keepDeadlineExpiry i =>
    (s.capture.block i.val).state == .awaitKeep
      && s.ran (s.capture.block i.val).keepDeadline s.prm.keepWindow
  | .regulationIntervalExpiry raw =>
    raw == s.pins.analog && s.loaded && s.ran s.meas.regTimer s.prm.regInterval
  | .reportTimerExpiry => s.inService && s.ran s.ctl.reportTimer s.reportInterval
  | .unconfiguredReportExpiry => s.unconfigured && s.ran s.ctl.reportTimer s.reportInterval
  | _ => false

end Sys2Proof.Machine
end

