-- ==== Sys2Proof/Certificates/Slice0/Obligations.lean ====
section
/-!
DEFINITION. The statements for the provers.  Each docstring says what its statement claims; OBLIGATIONS.json gives the
rules and sections of spec/ that it rests on.
-/

section
open Sys2Proof Sys2Proof.Machine

/-- For every state s whose queue of waiting commands is c followed by rest, step at s is exec of c
at s with the queue rest. The queue is the model's own (assumption log entry 1). -/
def Obligations.StepRunsFrontCommand : Prop :=
  ∀ (s : State) (c : Instr) (rest : List Instr),
      s.pending = c :: rest →
      step s = exec c { s with pending := rest }

/-- With an empty queue a step advances the millisecond timer by 1 and touches nothing else but the
contacts, the SUPPLY_OK filter, the two period timers and the queue. Each contact is sampled
once: a sample equal to the debounced value sets the run count to 0, a differing one adds 1, and
the sixteenth in a row is the edge, which the command takes, or, for a fall of ACK, HOME_L and
HOME_R, the sample itself. SUPPLY_OK is sampled eight times: the filtered value turns exactly if
some sample is the eighth in a row that differs from it, and the run count is the number of
samples after the last one that equals the value the millisecond leaves. The period timers run
on by the rest of their 1000 microseconds after the good load. A command joins the queue exactly
if it falls due at this step: the edges and the times of State.fallsDue. That a tick is what an
empty queue does, and how its samples lie within the millisecond, is the model's choice
(assumption log entry 1). -/
def Obligations.IdleTick : Prop :=
  ∀ (s : State) (t : State),
      s.pending = [] →
      step s = .next t →
      t = { s with now := s.now + 1, meas := t.meas, pending := t.pending }
      ∧ t.meas = { s.meas with
          runPermit := s.meas.runPermit.sampled s.pins.runPermit
          contactorFb := s.meas.contactorFb.sampled s.pins.contactorFb
          limit := s.meas.limit.sampled s.pins.limit
          brakeFb := s.meas.brakeFb.sampled s.pins.brakeFb
          walkCmd := s.meas.walkCmd.sampled s.pins.walkCmd
          walkStop := s.meas.walkStop.sampled s.pins.walkStop
          ack := s.meas.ack.sampledRise s.pins.ack
          homeL := s.meas.homeL.sampledRise s.pins.homeL
          homeR := s.meas.homeR.sampledRise s.pins.homeR
          supplyOk := t.meas.supplyOk
          timerA := if s.loaded then
              { s.meas.timerA with
                count := min 65535 (s.meas.timerA.count + (1000 - s.meas.timerA.since)), since := 0 }
            else s.meas.timerA
          timerB := if s.loaded then
              { s.meas.timerB with
                count := min 65535 (s.meas.timerB.count + (1000 - s.meas.timerB.since)), since := 0 }
            else s.meas.timerB }
      ∧ t.meas.supplyOk.value = (s.meas.supplyOk.value != s.supplyTurns)
      ∧ (∀ k < 8, s.pins.supplyAt k = t.meas.supplyOk.value →
          (∀ j < 8, k < j → s.pins.supplyAt j ≠ t.meas.supplyOk.value) →
          t.meas.supplyOk.run = 7 - k)
      ∧ ∀ c : Instr, c ∈ t.pending ↔ { s with now := s.now + 1 }.fallsDue c = true

/-- For each command that is a time running out, with the time that the manual gives it in
milliseconds: if its timer is stopped or has not run that long, the command answers the same
state. The times are the manual's; that such a command sent early has no effect is the model's
choice (assumption log entry 2). -/
def Obligations.EarlyExpiryIsNothing : Prop :=
  ∀ (s : State) (raw : Analog) (n : Station) (i : Fin 8),
      (s.ran s.ctl.listenTimer s.prm.lostLimit = false → exec .listenExpiry s = .next s)
      ∧ (s.ran s.ctl.reportTimer s.reportInterval = false → exec .reportTimerExpiry s = .next s)
      ∧ (s.ran s.ctl.reportTimer s.reportInterval = false →
          exec .unconfiguredReportExpiry s = .next s)
      ∧ (s.ran s.meas.regTimer s.prm.regInterval = false →
          exec (.regulationIntervalExpiry raw) s = .next s)
      ∧ (s.ran s.link.quietOut (4 * s.reportInterval) = false → exec .quietOutExpiry s = .next s)
      ∧ (s.ran s.link.clashTimer 1000 = false → exec .addressClashReturnExpiry s = .next s)
      ∧ (s.ran s.consent.own.sendLimit s.prm.objectionWindow = false →
          exec .sendLimitExpiry s = .next s)
      ∧ (s.ran s.consent.own.windowTimer s.prm.objectionWindow = false →
          exec .windowExpiry s = .next s)
      ∧ (s.age n ≤ s.prm.staleLimit → exec (.entryGoesStale n) s = .next s)
      ∧ (s.age n ≤ s.prm.lostLimit → exec (.entryGoesAbsent n) s = .next s)
      ∧ (s.ran s.meas.tachExcess 200 = false → exec .tachExcessExpiry s = .next s)
      ∧ (s.ran s.meas.tachRecovery 200 = false → exec .tachRecoveryExpiry s = .next s)
      ∧ (s.ran s.drive.setTime s.prm.brakeSetDelay = false → exec .brakeSetTimeExpiry s = .next s)
      ∧ (s.ran s.drive.disagreeTime 300 = false → exec .brakeDisagreeExpiry s = .next s)
      ∧ (s.ran s.drive.agreeTime 300 = false → exec .brakeAgreeExpiry s = .next s)
      ∧ (s.ran s.drive.lossTime 100 = false → exec .fieldLossTimeExpiry s = .next s)
      ∧ (s.ran s.drive.lossClear 100 = false → exec .fieldLossClearExpiry s = .next s)
      ∧ (s.ran s.drive.overcurrentClear 100 = false →
          exec (.overcurrentClearExpiry .fieldOvercurrent) s = .next s)
      ∧ (s.ran s.drive.overvoltageClear 100 = false →
          exec (.overcurrentClearExpiry .armatureOvervoltage) s = .next s)
      ∧ (s.ran s.role.overloadTime 500 = false → exec .boomOverloadTimeExpiry s = .next s)
      ∧ (s.ran s.role.restTime s.prm.swingSetDelay = false → exec .swingRestExpiry s = .next s)
      ∧ (s.ran s.walk.stopHold 2000 = false → exec .walkStopHoldExpiry s = .next s)
      ∧ (s.ran s.walk.supplyLimit 1000 = false → exec .supplyLimitExpiry s = .next s)
      ∧ (s.ran s.walk.endTime s.prm.walkEndDelay = false → exec .endTimeExpiry s = .next s)
      ∧ (s.ran s.role.transferLimit 500 = false → exec .transferLimitExpiry s = .next s)
      ∧ (s.ran s.role.returnLimit 500 = false → exec .returnLimitExpiry s = .next s)
      ∧ (s.ran s.role.closedLimit 500 = false → exec .closedFeedbackLimitExpiry s = .next s)
      ∧ (s.ran (s.capture.block i.val).keepDeadline s.prm.keepWindow = false →
          exec (.keepDeadlineExpiry i) s = .next s)
      ∧ (s.ran s.ctl.neutralSince 200 = false → exec .neutralTimeElapsed s = .next s)
      ∧ ((∀ x : Time, s.heat.persistence = .rising x → s.since x < 2000) →
          (∀ x : Time, s.heat.persistence = .falling x → s.since x < 2000) →
          exec .deratePersistenceExpiry s = .next s)

/-- Every command c answers a next state in every state, never a fault or a refusal, and leaves the
queue of waiting commands as it was. Unless c is a reset it leaves the millisecond timer, the
straps read and the restart flag as they were; unless it is also no load, the parameters, the
roster, the place and each entry's expected role, place and unlisted mark stay frozen. That the
queue of waiting commands stays, at a reset too, is the model's choice (assumption log entry 1),
and so is that every command answers in every state, those in which the manual cannot have its
event included (log entry 2). -/
def Obligations.CommandsAnswer : Prop :=
  ∀ (c : Instr) (s : State),
      Completes c s fun t =>
      t.pending = s.pending
      ∧ (c.isReset = false →
          t.now = s.now ∧ t.ctl.straps = s.ctl.straps ∧ t.ctl.restart = s.ctl.restart
          ∧ (c.isLoad = false →
              t.ctl.params = s.ctl.params ∧ t.ctl.roster = s.ctl.roster ∧ t.ctl.place = s.ctl.place
              ∧ ∀ n : Station,
                  (t.entry n).expected = (s.entry n).expected
                  ∧ (t.entry n).place = (s.entry n).place
                  ∧ (t.entry n).unlisted = (s.entry n).unlisted))

/-- In State.reset the mode is LOADING, no parameters and no hold cause, no timer runs, the transmit
queue is empty with the five link counters 0, all eight entries are ABSENT with counts 0 and
marks clear, no proposal stands or is held, all codes are NORMAL with the list empty and next
sequence 0, the integrator and levels are 0, no capture block is kept, the swing LOCKED, the
supply NORMAL, the walk IDLE, and the outputs safe with lamps and horn off. That the region is
unknown until the first expiry judges it, where Table 8-7 gives it no value, is the model's
choice (assumption log entry 6). -/
def Obligations.ResetTables : Prop :=
  let s := State.reset
  s.ctl.mode = .loading ∧ s.ctl.params = none ∧ s.ctl.causes.isEmpty = true
    ∧ s.ctl.listenTimer = none ∧ s.ctl.neutralSince = none ∧ s.ctl.reportTimer = none
    ∧ s.meas.regTimer = none ∧ s.meas.tachExcess = none ∧ s.meas.tachRecovery = none
    ∧ s.consent.own.sendLimit = none ∧ s.consent.own.windowTimer = none
    ∧ s.drive.setTime = none ∧ s.drive.disagreeTime = none ∧ s.drive.agreeTime = none
    ∧ s.drive.lossTime = none ∧ s.drive.lossClear = none ∧ s.drive.overcurrentClear = none
    ∧ s.drive.overvoltageClear = none ∧ s.role.overloadTime = none ∧ s.role.restTime = none
    ∧ s.role.transferLimit = none ∧ s.role.returnLimit = none ∧ s.role.closedLimit = none
    ∧ s.walk.supplyLimit = none ∧ s.walk.endTime = none ∧ s.walk.stopHold = none
    ∧ s.heat.persistence = .stopped ∧ s.ctl.reportSeq = 0
    ∧ s.ctl.restart = .powerOn
    ∧ s.link.queue = [] ∧ s.link.failCount = 0 ∧ s.link.quietOut = none
    ∧ s.link.clashTimer = none ∧ s.link.rxBad = 0 ∧ s.link.rxMalformed = 0
    ∧ s.link.txDropped = 0 ∧ s.link.txFail = 0 ∧ s.link.arbLost = 0
    ∧ (∀ n : Station, (s.entry n).status = .absent ∧ (s.entry n).gaps = 0
        ∧ (s.entry n).dups = 0 ∧ (s.entry n).marks = 0)
    ∧ s.consent.own.status = .idle ∧ s.consent.own.number = 0 ∧ s.consent.own.kind = none
    ∧ s.consent.held = none ∧ s.consent.lateObject = 0
    ∧ s.meas.current = 0 ∧ s.meas.vb = 0 ∧ s.meas.homedA = false ∧ s.meas.quadSkip = 0
    ∧ s.meas.supplyOk.value = true ∧ s.meas.runPermit.value = false
    ∧ s.drive.reference = 0 ∧ s.drive.duty = 0 ∧ s.out.fieldDir = .forward ∧ s.outputsOff
    ∧ s.role.swing = .locked ∧ s.role.supply = .normal ∧ s.walk.state = .idle
    ∧ s.walk.stepCount = 0 ∧ s.walk.region = none
    ∧ s.heat.heat = 0 ∧ s.heat.level = 0 ∧ s.heat.forced = 0 ∧ s.heat.effective = 0
    ∧ (∀ c ∈ allCodes, s.ann c = .normal) ∧ s.alarm.list = [] ∧ s.alarm.nextSeq = 0
    ∧ s.alarm.armSeq = 0 ∧ s.out.horn = false ∧ s.out.lampWarn = .off ∧ s.out.lampTrip = .off
    ∧ s.capture.kept = [] ∧ s.capture.armCount = 0 ∧ s.capture.lateKeep = 0
    ∧ s.slotFull = false

/-- At State.reset the outputs are safe with nothing behind them, STOP codes, hold causes, queue,
peer table, proposals, swing, drive, supply, walk, levels, lamps, alarm list and capture store
all satisfy their invariants (the predicates of Safety.lean that the statements about every step
use). -/
def Obligations.ResetIsSound : Prop :=
  State.reset.SafeModes ∧ State.reset.StopCodesStop ∧ State.reset.RunIsFree
      ∧ State.reset.CausesAgree ∧ State.reset.QueueSound ∧ State.reset.AbsentUnmarked
      ∧ State.reset.OwnEntryClean ∧ State.reset.ConsentSound ∧ State.reset.SwingSound
      ∧ State.reset.DriveSound ∧ State.reset.SupplySound ∧ State.reset.WalkSound
      ∧ State.reset.LevelsSound ∧ State.reset.LampsShow ∧ State.reset.ListSound
      ∧ State.reset.CaptureSound

/-- With valid straps, POWER_ON_RESET and LOCAL_RESET leave station control as Table 1-5 gives it,
with the straps read and the restart flag of their kind, and every other block at its reset
value, but that a local reset keeps each KEPT block, its samples and the kept queue, and frees
every other block. The input lines and the commands that wait are outside the station: that they
stay is the model's choice (assumption log entries 5 and 1). The values inside State.reset that
no table gives are those of log entry 6, and that the list of blocks keeps its length through a
local reset is log entry 19. -/
def Obligations.ResetsStartAfresh : Prop :=
  (∀ (s : State) (x : Straps),
      strapsValid x = true →
      Completes (.powerOnReset x) s fun t =>
      t.ControlReset x .powerOn
      ∧ t = { State.reset with ctl := t.ctl, pins := s.pins, pending := s.pending })
  ∧ (∀ (s : State) (x : Straps),
      strapsValid x = true →
      Completes (.localReset x) s fun t =>
      t.ControlReset x .localReset
      ∧ t = { State.reset with
          ctl := t.ctl, pins := s.pins, capture := t.capture, pending := s.pending }
      ∧ t.capture = { CaptureStore.reset with
          blocks := t.capture.blocks, slots := s.capture.slots, kept := s.capture.kept }
      ∧ t.capture.blocks.length = s.capture.blocks.length
      ∧ ∀ i < s.capture.blocks.length,
          if s.capture.isKept i then t.capture.block i = s.capture.block i
          else (t.capture.block i).state = .free)

/-- A reset that reads straps invalid by Table 1-1 leaves the station in STOP without reading the
block: safe outputs, horn on, LAMP_TRIP steady, no code raised, nothing queued or sent, and no
parameters. From any such state every command that is no reset leaves it so; the ACK input too
has no effect. -/
def Obligations.StrapFaultStays : Prop :=
  (∀ (s : State) (x : Straps),
      strapsValid x = false →
      Completes (.powerOnReset x) s (fun t => t.StrapStopped ∧ t.ctl.params = none)
      ∧ Completes (.localReset x) s fun t => t.StrapStopped ∧ t.ctl.params = none)
  ∧ (∀ (c : Instr) (s : State),
      s.StrapStopped →
      c.isReset = false →
      Completes c s fun t => t.StrapStopped)

/-- In LOADING with valid straps: if the twelve checks pass, the station enters LISTEN with the
block's parameters, its roster as stored in the block, each roster station's entry expecting its
role and taking its place (solo alone in its role, else lead for the lower number and follow for
the other), every other entry unlisted, the own place that of the own entry, its LISTEN and
regulation timers started, the capture store divided, and PICTURE_INCOMPLETE the only cause,
present exactly if the roster names another station. If check k fails, the mode is STOP with
safe outputs and no parameters, CONFIG_BAD is raised with value k, the report timer starts, and
the queue holds the notice and the first report, its other fields 0. That a notice is asked for
is the model's reading (log entry 4). -/
def Obligations.LoadJudged : Prop :=
  (∀ (s : State) (memory : List Byte) (n : Station) (r : Role),
      s.ctl.mode = .loading →
      s.self = some n →
      s.ownRole = some r →
      loadChecks (blockOf memory) (stationNumber n) r.code = 0 →
      Completes (.parameterBlockLoaded memory) s fun t =>
      t.ctl.mode = .listen
      ∧ t.ctl.params = some (Params.parse (blockOf memory))
      ∧ t.ctl.listenTimer = some s.now ∧ t.meas.regTimer = some s.now
      ∧ (∀ k : HoldCause,
          t.hasCause k = (k == .pictureIncomplete && t.ctl.roster.any fun e => e.station != n))
      ∧ t.capture.blocks.length = (Params.parse (blockOf memory)).blocks
      ∧ t.ctl.roster.map (fun e => (stationNumber e.station, e.role.code)) =
          (List.range (u8 (blockOf memory) 250)).map (fun i =>
            (u8 (blockOf memory) (251 + 2 * i), u8 (blockOf memory) (252 + 2 * i)))
      ∧ (∀ e ∈ t.ctl.roster,
          (t.entry e.station).expected = some e.role ∧ (t.entry e.station).unlisted = false
          ∧ (t.entry e.station).place = some (
              if t.ctl.roster.all fun x => x.role != e.role || x.station == e.station then .solo
              else if t.ctl.roster.all fun x => x.role != e.role || decide (e.station ≤ x.station)
              then .lead else .follow))
      ∧ (∀ k : Station, (∀ e ∈ t.ctl.roster, e.station ≠ k) →
          (t.entry k).expected = none ∧ (t.entry k).place = none ∧ (t.entry k).unlisted = true)
      ∧ t.ctl.place = (t.entry n).place
      ∧ t.link = s.link
      ∧ t.out = { s.out with
          horn := t.out.horn, lampWarn := t.out.lampWarn, lampTrip := t.out.lampTrip })
  ∧ (∀ (s : State) (memory : List Byte) (n : Station) (r : Role) (k : Nat),
      s.ctl.mode = .loading →
      s.self = some n →
      s.ownRole = some r →
      loadChecks (blockOf memory) (stationNumber n) r.code = k →
      k ≠ 0 →
      s.ctl.params = none →
      s.ctl.causes.isEmpty = true →
      s.consent.held = none →
      s.link.queue = [] →
      s.link.quietOut = none →
      s.SafeModes →
      s.SwingSound →
      Completes (.parameterBlockLoaded memory) s fun t =>
      t.ctl.mode = .stop ∧ t.ctl.params = none ∧ t.outputsOff ∧ Raised s t .configBad k
      ∧ t.ctl.reportTimer = some s.now
      ∧ t.link.queue.map (fun q => q.frame) =
          [.alarmNotice .configBad (alarmValue k) false 0,
           .stateReport s.ctl.reportSeq r.bits
             { ReportFields.zero with mode := 3, brakeSet := true, summary := 3 }])

/-- LISTEN_EXPIRY at a station in LISTEN whose LISTEN timer has run LOST_LIMIT: the mode is HOLD,
RESTART joins the causes present, the report timer starts, a STATE_REPORT with the next sequence
number and mode HOLD is queued and fills the own entry, and the first FREE capture block becomes
RECORDING. Inputs, measurement, drive, role, walk, heat, alarms and request slot stay as they
were. -/
def Obligations.ListenEnds : Prop :=
  ∀ (s : State) (n : Station) (r : Role) (a : Time) (i : Nat),
      s.ctl.mode = .listen →
      s.configured = true →
      s.self = some n →
      s.ownRole = some r →
      s.ctl.listenTimer = some a →
      s.prm.lostLimit ≤ s.since a →
      s.capture.firstFree = some i →
      s.link.quietOut = none →
      s.link.queue.length ≤ 6 →
      Completes .listenExpiry s fun t =>
      t.ctl.mode = .hold ∧ t.ctl.listenTimer = none ∧ t.ctl.reportTimer = some s.now
      ∧ t.ctl.reportSeq = s.ctl.reportSeq + 1
      ∧ (∀ k : HoldCause, t.hasCause k = (k == .restart || s.hasCause k))
      ∧ (t.entry n).status = .fresh ∧ (t.entry n).fields.mode = 1
      ∧ t.queued (.stateReport s.ctl.reportSeq r.bits (t.entry n).fields)
      ∧ (t.capture.block i).state = .recording
      ∧ t = { s with
          ctl := t.ctl, out := t.out, link := t.link, peers := t.peers, consent := t.consent
          capture := t.capture }
      ∧ t.out = { s.out with
          horn := t.out.horn, lampWarn := t.out.lampWarn, lampTrip := t.out.lampTrip }

/-- Configured in HOLD, RUN or STOP after REPORT_INTERVAL, and unconfigured in STOP after 50 ms: the
timer restarts, the sequence number advances, and a report is queued. The configured one carries
the present values and fills the own entry, every other entry being untouched; the unconfigured
one carries mode STOP, hold flag, brake set, summary STOP and zeros, and touches no entry. While
a report is already queued and nothing is held, the queue keeps its joining times and marks of
transmission, TX_DROPPED stays, and the new report is in the queue. -/
def Obligations.ReportEvents : Prop :=
  (∀ (s : State) (n : Station) (a : Time),
      s.inService = true →
      s.self = some n →
      s.ctl.reportTimer = some a →
      s.prm.reportInterval ≤ s.since a →
      s.link.quietOut = none →
      s.link.queue.length ≤ 6 →
      Completes .reportTimerExpiry s fun t =>
      t.ctl = { s.ctl with reportTimer := some s.now, reportSeq := s.ctl.reportSeq + 1 }
      ∧ t.queued (.stateReport s.ctl.reportSeq s.roleBits t.reportFields)
      ∧ t.reportFields.brakeSet = s.out.brakeSet
      ∧ t.reportFields.holdFlag = !s.ctl.causes.isEmpty
      ∧ t.reportFields.speedRef = signed16 s.drive.duty
      ∧ t.reportFields.propNumber = s.consent.own.number
      ∧ t.entry n = { s.entry n with
          status := .fresh, role := s.roleBits, lastSeq := s.ctl.reportSeq, arrival := s.now
          heard := true, fields := t.reportFields }
      ∧ (∀ k : Station, k ≠ n → t.entry k = s.entry k)
      ∧ t = { s with
          ctl := t.ctl, link := { s.link with queue := t.link.queue }
          peers := { s.peers with entries := t.peers.entries }, consent := t.consent })
  ∧ (∀ (s : State) (a : Time),
      s.unconfigured = true →
      s.ctl.reportTimer = some a →
      50 ≤ s.since a →
      s.link.quietOut = none →
      s.link.queue.length ≤ 6 →
      Completes .unconfiguredReportExpiry s fun t =>
      t.ctl = { s.ctl with reportTimer := some s.now, reportSeq := s.ctl.reportSeq + 1 }
      ∧ t.queued (.stateReport s.ctl.reportSeq s.roleBits
          { ReportFields.zero with
            mode := 3, holdFlag := !s.ctl.causes.isEmpty, brakeSet := true, summary := 3 })
      ∧ t = { s with
          ctl := t.ctl, link := { s.link with queue := t.link.queue }, consent := t.consent })
  ∧ (∀ (s : State) (n : Station) (a : Time),
      s.inService = true →
      s.self = some n →
      s.ctl.reportTimer = some a →
      s.prm.reportInterval ≤ s.since a →
      s.link.quietOut = none →
      s.consent.held = none →
      s.QueueSound →
      (∃ q ∈ s.link.queue, q.frame.isReport = true) →
      Completes .reportTimerExpiry s fun t =>
      t.queued (.stateReport s.ctl.reportSeq s.roleBits t.reportFields)
      ∧ t.link.queue.map (fun q => q.joined) = s.link.queue.map (fun q => q.joined)
      ∧ t.link.queue.map (fun q => q.inTx) = s.link.queue.map (fun q => q.inTx)
      ∧ t.link.txDropped = s.link.txDropped)

/-- NEUTRAL_TIME_ELAPSED takes a station in HOLD to RUN if the three conditions of R9 hold, changing
only the mode and the lamps, and changes nothing if one fails or the mode is another.
RUN_PERMIT_RISE removes RESTART; with no other cause and the neutral time run it enters RUN, and
with another cause present it leaves the station in HOLD with the other causes as they were. -/
def Obligations.RunEntered : Prop :=
  (∀ (s : State),
      s.ctl.mode = .hold →
      s.ctl.causes.isEmpty = true →
      s.meas.runPermit.value = true →
      s.ran s.ctl.neutralSince 200 = true →
      Completes .neutralTimeElapsed s fun t =>
      t = { s with ctl := { s.ctl with mode := .run }, out := t.out }
      ∧ t.out = { s.out with
          horn := t.out.horn, lampWarn := t.out.lampWarn, lampTrip := t.out.lampTrip })
  ∧ (∀ (s : State),
      s.ctl.mode ≠ .hold ∨ s.ctl.causes.isEmpty = false ∨ s.meas.runPermit.value = false
      ∨ s.ran s.ctl.neutralSince 200 = false →
      exec .neutralTimeElapsed s = .next s)
  ∧ (∀ (s : State),
      s.ctl.mode = .hold →
      (∀ k : HoldCause, k ≠ .restart → s.hasCause k = false) →
      s.ran s.ctl.neutralSince 200 = true →
      Completes .runPermitRise s fun t =>
      t = { s with
          ctl := { s.ctl with mode := .run, causes := t.ctl.causes }, out := t.out
          pins := { s.pins with runPermit := true }
          meas := { s.meas with runPermit := ⟨true, 0⟩ } }
      ∧ t.ctl.causes.isEmpty = true
      ∧ t.out = { s.out with
          horn := t.out.horn, lampWarn := t.out.lampWarn, lampTrip := t.out.lampTrip })
  ∧ (∀ (s : State) (k : HoldCause),
      s.ctl.mode = .hold →
      k ≠ .restart →
      s.hasCause k = true →
      Completes .runPermitRise s fun t =>
      t = { s with
          ctl := { s.ctl with causes := t.ctl.causes }
          pins := { s.pins with runPermit := true }
          meas := { s.meas with runPermit := ⟨true, 0⟩ } }
      ∧ ∀ j : HoldCause, t.hasCause j = (s.hasCause j && j != .restart))

/-- RUN_PERMIT_FALL in RUN: the mode is HOLD, the hold-cause set unchanged, the neutral time starts
afresh, and the drive target is 0 unless the supply state is other than NORMAL. Beside the mode,
the lamps and the input nothing else changes on a station that is no walk station; on the walk
station a walk in STEPPING enters STOPPING, in creep if the region is CARRY, in the ramp phase
otherwise; one in TRANSFER is abandoned: IDLE, the supply limit stopped and an ACTIVE or
WITHDRAWING proposal NONE; in every other walk state the stop request does nothing. In every
other mode only the input changes. -/
def Obligations.PermitFalls : Prop :=
  (∀ (s : State),
      s.ctl.mode = .run →
      s.is .walk = false →
      Completes .runPermitFall s fun t =>
      t = { s with
          ctl := { s.ctl with mode := .hold, neutralSince := none }, out := t.out
          pins := { s.pins with runPermit := false }
          meas := { s.meas with runPermit := ⟨false, 0⟩ }
          drive := { s.drive with
            target := if s.role.supply = .normal then 0 else s.drive.target } }
      ∧ t.out = { s.out with
          horn := t.out.horn, lampWarn := t.out.lampWarn, lampTrip := t.out.lampTrip })
  ∧ (∀ (s : State),
      s.ctl.mode = .run →
      s.is .walk = true →
      s.walk.state = .stepping →
      Completes .runPermitFall s fun t =>
      t.ctl.mode = .hold ∧ t.ctl.causes = s.ctl.causes ∧ t.walk.state = .stopping
      ∧ t.walk.phase = some (if s.walk.region = some .carry then .creep else .ramp)
      ∧ t.out.brakeSet = s.out.brakeSet ∧ t.walk.left = s.walk.left
      ∧ t.walk.right = s.walk.right)
  ∧ (∀ (s : State),
      s.ctl.mode = .run →
      s.is .walk = true →
      s.walk.state = .transfer →
      Completes .runPermitFall s fun t =>
      t = { s with
          ctl := { s.ctl with mode := .hold, neutralSince := none }, out := t.out
          pins := { s.pins with runPermit := false }
          meas := { s.meas with runPermit := ⟨false, 0⟩ }
          drive := { s.drive with
            target := if s.role.supply = .normal then 0 else s.drive.target }
          walk := t.walk
          consent := { s.consent with own := { s.consent.own with
            status := if s.consent.own.status = .active ∨ s.consent.own.status = .withdrawing then .idle
            else s.consent.own.status } } }
      ∧ t.walk.state = .idle ∧ t.walk.supplyLimit = none ∧ t.walk.forced = s.walk.forced
      ∧ t.walk.reference = 0 ∧ t.walk.left = 0 ∧ t.walk.right = 0
      ∧ t.walk.stopHold = s.walk.stopHold
      ∧ t.out = { s.out with
          horn := t.out.horn, lampWarn := t.out.lampWarn, lampTrip := t.out.lampTrip })
  ∧ (∀ (s : State),
      s.ctl.mode = .run →
      s.is .walk = true →
      s.walk.state ≠ .stepping →
      s.walk.state ≠ .transfer →
      Completes .runPermitFall s fun t =>
      t = { s with
          ctl := { s.ctl with mode := .hold, neutralSince := none }, out := t.out
          pins := { s.pins with runPermit := false }
          meas := { s.meas with runPermit := ⟨false, 0⟩ }
          drive := { s.drive with
            target := if s.role.supply = .normal then 0 else s.drive.target } }
      ∧ t.out = { s.out with
          horn := t.out.horn, lampWarn := t.out.lampWarn, lampTrip := t.out.lampTrip })
  ∧ (∀ (s : State),
      s.ctl.mode ≠ .run →
      Completes .runPermitFall s fun t =>
      t = { s with
          pins := { s.pins with runPermit := false }
          meas := { s.meas with runPermit := ⟨false, 0⟩ } })

/-- SUPPLY_OK_FALL outside STOP: SUPPLY_LOW raised with value 0, mode STOP with safe outputs and
reference 0, the parameters as they were (none in LOADING). In STOP the code is raised again and
the mode and all outputs but lamps and horn stay. SUPPLY_OK_RISE in STOP takes SUPPLY_LOW
through its return, every other code as it was, and the station stays in STOP. Where the filter
has turned at its sample, as a tick leaves it, an edge leaves line and filter as they stand;
that an edge handed in before its samples settles them is the model's choice (assumption log
entry 2). -/
def Obligations.SupplyEdges : Prop :=
  (∀ (s : State),
      s.alarmInUse = true →
      s.ctl.mode ≠ .stop →
      Completes .supplyOkFall s fun t =>
      Raised s t .supplyLow 0 ∧ t.ctl.mode = .stop ∧ t.outputsOff ∧ t.drive.reference = 0
      ∧ t.ctl.params = s.ctl.params
      ∧ t.meas.supplyOk = (if s.meas.supplyOk.value then ⟨false, 0⟩ else s.meas.supplyOk)
      ∧ (s.meas.supplyOk.value = false → t.pins = s.pins))
  ∧ (∀ (s : State),
      s.alarmInUse = true →
      s.ctl.mode = .stop →
      Completes .supplyOkFall s fun t =>
      Raised s t .supplyLow 0 ∧ t.ctl = s.ctl ∧ t.drive = s.drive ∧ t.walk = s.walk
      ∧ t.out = { s.out with
          horn := t.out.horn, lampWarn := t.out.lampWarn, lampTrip := t.out.lampTrip })
  ∧ (∀ (s : State),
      s.alarmInUse = true →
      s.ctl.mode = .stop →
      Completes .supplyOkRise s fun t =>
      t.ann .supplyLow = (s.ann .supplyLow).afterReturn
      ∧ (∀ c : AlarmCode, c ≠ .supplyLow → t.ann c = s.ann c)
      ∧ t = { s with
          ctl := { s.ctl with causes := t.ctl.causes }, out := t.out, alarm := t.alarm
          pins := if s.meas.supplyOk.value then s.pins
            else { s.pins with supplyOk := true, supplyDip := 0 }
          meas := if s.meas.supplyOk.value then s.meas
            else { s.meas with supplyOk := ⟨true, 0⟩ } }
      ∧ t.out = { s.out with
          horn := t.out.horn, lampWarn := t.out.lampWarn, lampTrip := t.out.lampTrip })

/-- For every command that is no reset and every state: LOADING goes only to LISTEN or STOP and only
at the end of the load or a supply fall, LISTEN to HOLD or STOP, HOLD to RUN or STOP, RUN to
HOLD or STOP, and STOP nowhere. Where a command takes a station into RUN, afterwards its
hold-cause set is empty, RUN_PERMIT is high and the neutral time has run 200 ms. -/
def Obligations.ModeMoves : Prop :=
  ∀ (c : Instr) (s : State),
      c.isReset = false →
      Completes c s fun t =>
      s.ctl.mode.mayBecome t.ctl.mode = true
      ∧ (s.ctl.mode = .loading → t.ctl.mode ≠ .loading → c.isLoad = true ∨ c = .supplyOkFall)
      ∧ (s.ctl.mode ≠ .run → t.ctl.mode = .run →
          t.ctl.causes.isEmpty = true ∧ t.meas.runPermit.value = true
          ∧ t.ran t.ctl.neutralSince 200 = true)

/-- ACK_RISE outside a strap fault, and ACK_ALARMS asked with a free slot and room in the queue:
every code in ACTIVE_UNACK becomes ACTIVE_ACK and every code in RETURNED_UNACK becomes NORMAL,
every other stays; each code moved has an ACKNOWLEDGED entry with value 0 at the present time;
LOCAL_TRIP goes when every TRIP code is then NORMAL and no other cause changes. ACK_ALARMS also
queues reply OK and fills the slot. In a strap fault ACK_RISE only moves the input. -/
def Obligations.AcknowledgeMoves : Prop :=
  (∀ (s : State),
      s.strapFault = false →
      Completes .ackRise s fun t =>
      (∀ c : AlarmCode, t.ann c = (s.ann c).afterAck)
      ∧ (∀ c : AlarmCode, (s.ann c).unack = true →
          ∃ e ∈ t.alarm.list,
            e.code = c ∧ e.event = .acknowledged ∧ e.value = 0 ∧ e.time = s.now)
      ∧ (∀ k : HoldCause, k ≠ .localTrip → t.hasCause k = s.hasCause k)
      ∧ t.hasCause .localTrip = (s.hasCause .localTrip && !t.alarm.tripsNormal)
      ∧ t = { s with
          ctl := { s.ctl with mode := t.ctl.mode, causes := t.ctl.causes }, out := t.out
          pins := { s.pins with ack := true }, meas := { s.meas with ack := ⟨true, 0⟩ }
          alarm := t.alarm }
      ∧ t.out = { s.out with
          horn := t.out.horn, lampWarn := t.out.lampWarn, lampTrip := t.out.lampTrip })
  ∧ (∀ (s : State),
      s.strapFault = true →
      Completes .ackRise s fun t =>
      t = { s with pins := { s.pins with ack := true }, meas := { s.meas with ack := ⟨true, 0⟩ } })
  ∧ (∀ (s : State) (h : Header),
      s.isAsked h →
      s.hasRoom 1 →
      Completes (.ackAlarms h []) s fun t =>
      (∀ c : AlarmCode, t.ann c = (s.ann c).afterAck)
      ∧ (∀ c : AlarmCode, (s.ann c).unack = true →
          ∃ e ∈ t.alarm.list,
            e.code = c ∧ e.event = .acknowledged ∧ e.value = 0 ∧ e.time = s.now)
      ∧ (∀ k : HoldCause, k ≠ .localTrip → t.hasCause k = s.hasCause k)
      ∧ t.hasCause .localTrip = (s.hasCause .localTrip && !t.alarm.tripsNormal)
      ∧ t.queued (.serviceReply 5 0 []) ∧ t.slotFull = true
      ∧ t = { s with
          ctl := { s.ctl with mode := t.ctl.mode, causes := t.ctl.causes }, out := t.out
          alarm := t.alarm, slotFull := true
          link := { s.link with receiveBuffer := none, queue := t.link.queue } })

/-- A raise of code c with value v that is neither masked nor met by a strap fault: the code is
ACTIVE_UNACK, a RAISED entry with the clamped value stands in the list, a TRIP leaves LOCAL_TRIP
present and the mode not RUN, a STOP code leaves the mode STOP, a WARN leaves the mode, and a
TRIP or STOP sounds the horn. A TRIP raised in HOLD queues its notice, arming if configured and
in ARM_MASK. In HOLD, RUN and configured STOP a raise of a code in ARM_MASK arms once with the
next arm sequence, and the arm does to the blocks what Table 11-3 and R164 give: RECORDING
becomes POST with arm id, code, time, arm index, history-complete flag and post counter; an arm
in POST is merged; with no write block the block longest in AWAIT_KEEP is emptied and becomes
POST, and with none the arm is ignored; a merged or ignored arm joins the decision list (R166).
A code not in ARM_MASK leaves the store. (A STOP code so where its entry to STOP raises no
second code that arms: no walk to force, no swing WITHDRAWING.) A masked code and any raise in a
strap fault change nothing. TRANSFER_FAIL, which its own event may return, is stated apart. -/
def Obligations.RaiseLatches : Prop :=
  (∀ (s : State) (c : AlarmCode) (v : Int),
      s.raises c →
      c ≠ .transferFail →
      s.RunIsFree →
      s.hasCause .localTrip = !s.alarm.tripsNormal →
      let t := s.raise c v
      Raised s t c v
        ∧ (c.severity = .trip → t.tripped ∧ t.out.horn = true)
        ∧ (c.severity = .stop → t.ctl.mode = .stop ∧ t.out.horn = true)
        ∧ (c.severity = .warn → t.ctl = s.ctl))
  ∧ (∀ (s : State) (c : AlarmCode) (v : Int),
      s.alarmInUse = false ∨ s.masked c = true →
      s.raise c v = s)
  ∧ (∀ (s : State) (c : AlarmCode) (v : Int) (n : Station),
      s.raises c →
      c ≠ .transferFail →
      c.severity = .trip →
      s.ctl.mode = .hold →
      s.self = some n →
      s.hasRoom 2 →
      let t := s.raise c v
      let arms := s.configured && s.prm.armMask.getLsbD c.index
      t.queued (.alarmNotice c (alarmValue v) arms (if arms then t.alarm.armSeq else 0))
        ∧ t.alarm.armSeq = (if arms then nextNonzero16 s.alarm.armSeq else s.alarm.armSeq)
        ∧ t.capture.armCount = (if arms then s.capture.armCount + 1 else s.capture.armCount))
  ∧ (∀ (s : State) (c : AlarmCode) (v : Int) (n : Station),
      s.raises c →
      c ≠ .transferFail →
      c.severity ≠ .stop ∨ s.ctl.mode = .stop
      ∨ (s.walk.state.live = false ∧ (s.swingLead = false ∨ s.role.swing ≠ .withdrawing)) →
      s.inService = true →
      s.self = some n →
      s.capture.writers ≤ 1 →
      let t := s.raise c v
      if s.prm.armMask.getLsbD c.index then
        t.alarm.armSeq = nextNonzero16 s.alarm.armSeq
        ∧ s.capture.Armed t.capture s.now s.prm.postSamples ⟨n, nextNonzero16 s.alarm.armSeq⟩ (some c)
      else t.alarm.armSeq = s.alarm.armSeq ∧ t.capture = s.capture)

/-- For every unmasked code c in every state outside a strap fault: the code moves as Table 10-3
gives and no other code moves; a move is logged as one RETURNED entry with value 0 at the young
end of the list; in NORMAL and RETURNED_UNACK nothing changes at all. No frame is queued,
nothing is armed, and a station in STOP stays in STOP. -/
def Obligations.ReturnMoves : Prop :=
  ∀ (s : State) (c : AlarmCode),
      s.raises c →
      let t := s.returnAlarm c
      t.ann c = (s.ann c).afterReturn
        ∧ (∀ d : AlarmCode, d ≠ c → t.ann d = s.ann d)
        ∧ ((s.ann c = .activeUnack ∨ s.ann c = .activeAck) →
            t.alarm.nextSeq = s.alarm.nextSeq + 1
            ∧ t.alarm.list.getLast? =
                some ⟨s.alarm.nextSeq, s.now, c, .returned, 0, s.sourceNumber⟩)
        ∧ ((s.ann c = .normal ∨ s.ann c = .returnedUnack) → t = s)
        ∧ t.link = s.link ∧ t.capture = s.capture ∧ t.alarm.armSeq = s.alarm.armSeq
        ∧ (s.ctl.mode = .stop → t.ctl.mode = .stop)

/-- A notice of code c from another station n, in the class of its severity: with room in the list
one PEER_NOTICE entry with the notice's value and source n is added and the annunciator table
stays. A STOP notice from an entry FRESH or STALE sets its stop mark and PEER_STOP is present;
one from an ABSENT entry, or at a station without a good load, and any other notice leave peer
table and station control as they were. With the arm flag set, in HOLD, RUN or configured STOP,
the arm count goes up by 1, and the arm, with the notice's source and arm sequence as its id and
no code, does to the blocks what Table 11-3 and R164 give, a merged or ignored one joining no
decision list; else the store stays. That it does so at arm sequence 0 too is the model's
reading (assumption log entry 10). A notice with any severity other than its code's, or with a
code outside 1 to 27, only counts in RX_MALFORMED, in either class of a notice. -/
def Obligations.NoticeTaken : Prop :=
  (∀ (s : State) (n : Station) (c : AlarmCode) (v : Word16) (flag : Bool) (q : Word16),
      s.hears n →
      s.alarm.list.length < 32 →
      s.hasCause .peerStop = (s.peers.someMark fun e => e.stopMark) →
      Completes (.alarmNotice (broadcast (if c.severity = .stop then 0 else 2) n)
        (OutFrame.alarmNotice c v flag q).payload) s fun t =>
      t.alarm = { s.alarm with
        list := s.alarm.list ++ [⟨s.alarm.nextSeq, s.now, c, .peerNotice, v, stationAddress n⟩]
        nextSeq := s.alarm.nextSeq + 1 }
      ∧ t.capture.armCount =
          (if flag && s.inService then s.capture.armCount + 1 else s.capture.armCount)
      ∧ (if flag && s.inService then
          s.capture.writers ≤ 1 → s.capture.Armed t.capture s.now s.prm.postSamples ⟨n, q⟩ none
        else t.capture = s.capture)
      ∧ (c.severity = .stop → s.loaded = true → (s.entry n).present = true →
          (t.entry n).stopMark = true ∧ t.hasCause .peerStop = true)
      ∧ (c.severity ≠ .stop ∨ s.loaded = false ∨ (s.entry n).present = false →
          t.peers = s.peers ∧ t.ctl = s.ctl ∧ t.out = s.out)
      ∧ t.link = { s.link with receiveBuffer := none } ∧ t.meas = s.meas ∧ t.heat = s.heat)
  ∧ (∀ (s : State) (n : Station) (cls : BitVec 3) (c : AlarmCode) (x : Byte) (v : Word16) (flag : Bool) (q : Word16),
      s.hears n →
      cls = 0 ∨ cls = 2 →
      x.toNat ≠ (match c.severity with | .warn => 1 | .trip => 2 | .stop => 3) →
      exec (.alarmNotice (broadcast cls n)
        ([byteOf c.number, x] ++ bytes16 v ++ [bitByte flag 0] ++ bytes16 q)) s =
      .next s.malformed)
  ∧ (∀ (s : State) (n : Station) (cls : BitVec 3) (a : Byte) (x : Byte) (v : Word16) (flag : Bool) (q : Word16),
      s.hears n →
      cls = 0 ∨ cls = 2 →
      a.toNat < 1 ∨ 27 < a.toNat →
      exec (.alarmNotice (broadcast cls n)
        ([a, x] ++ bytes16 v ++ [bitByte flag 0] ++ bytes16 q)) s =
      .next s.malformed)

/-- TRANSMISSION_START with a frame waiting, outside quiet-out and with nothing in transmission: the
head frame is marked in transmission and sent as its line bits from the own address, every frame
keeping its place. CONTEST_LOST while sending: the driver is released, no frame is in
transmission, the frames and their order stay, ARB_LOST goes up by 1 and the failure count
stays. -/
def Obligations.StartAndContest : Prop :=
  (∀ (s : State) (q : Queued) (l : List Queued),
      s.onLink = true →
      s.link.quietOut = none →
      s.link.sending = none →
      s.link.queue = q :: l →
      Completes .transmissionStart s fun t =>
      t = { s with link := { s.link with
        queue := { q with inTx := true, replaced := false } :: l
        sending := some ⟨q.frame, lineBits (q.frame.toFrame s.sourceNumber)⟩ } })
  ∧ (∀ (s : State) (x : Transmission),
      s.link.sending = some x →
      Completes .contestLost s fun t =>
      t = { s with link := { s.link with
        queue := t.link.queue, sending := none, arbLost := satInc s.link.arbLost } }
      ∧ t.link.queue = s.link.queue.map fun q => { q with inTx := false, replaced := false })

/-- TRANSMIT_FAILURE while sending, with fewer than 15 failures before: the driver is released,
TX_FAIL and the failure count go up by 1, the frames keep their places and nothing else changes.
With 15 before: the queue is empty, each discarded frame and the dropped notice counted in
TX_DROPPED, the quiet-out timer started, the failure count 0, LINK_FAULT raised with value 16,
its hold cause present, the mode not RUN, and the request slot free if a reply was discarded. -/
def Obligations.FailureAndLinkFault : Prop :=
  (∀ (s : State) (x : Transmission),
      s.link.sending = some x →
      s.link.failCount < 15 →
      Completes .transmitFailure s fun t =>
      t = { s with link := { s.link with
        queue := t.link.queue, sending := none, txFail := satInc s.link.txFail
        failCount := s.link.failCount + 1 } }
      ∧ t.link.queue = s.link.queue.map fun q => { q with inTx := false, replaced := false })
  ∧ (∀ (s : State) (x : Transmission),
      s.link.sending = some x →
      s.link.failCount = 15 →
      s.onLink = true →
      s.alarmInUse = true →
      s.RunIsFree →
      s.hasCause .localTrip = !s.alarm.tripsNormal →
      Completes .transmitFailure s fun t =>
      t.link.queue = [] ∧ t.link.sending = none ∧ t.link.quietOut = some s.now
      ∧ t.link.failCount = 0 ∧ t.link.txFail = satInc s.link.txFail
      ∧ t.link.txDropped =
          BitVec.ofNat 16 (min 65535 (s.link.txDropped.toNat + s.link.queue.length + 1))
      ∧ Raised s t .linkFault 16 ∧ t.tripped ∧ t.hasCause .linkFault = true
      ∧ ((∃ q ∈ s.link.queue, q.frame.holdsSlot = true) → t.slotFull = false)
      ∧ t.meas = s.meas ∧ t.heat = s.heat ∧ t.peers = s.peers)

/-- COMPLETION_EVENT while sending the head: the frame leaves and the others keep their order, or
stays with its newer contents if it was replaced, and the failure count is 0. An own report
completed while hold cause LINK_FAULT is present removes the cause and returns the code. An own
PROPOSE of the pending number starts the window with every echo flag clear and stops the send
limit. A reply that held the request slot frees it. -/
def Obligations.CompletionTakesTheFrame : Prop :=
  (∀ (s : State) (x : Transmission) (q : Queued) (l : List Queued),
      s.link.sending = some x →
      s.link.queue = q :: l →
      q.inTx = true →
      (∀ y ∈ l, y.inTx = false) →
      q.replaced = false →
      Completes .completionEvent s fun t =>
      t.link.queue.map (fun y => y.frame) = l.map (fun y => y.frame)
      ∧ t.link.sending = none ∧ t.link.failCount = 0
      ∧ t.link.txDropped = s.link.txDropped ∧ (∀ y ∈ t.link.queue, y.inTx = false))
  ∧ (∀ (s : State) (x : Transmission) (q : Queued) (l : List Queued),
      s.link.sending = some x →
      s.link.queue = q :: l →
      q.inTx = true →
      (∀ y ∈ l, y.inTx = false) →
      q.replaced = true →
      Completes .completionEvent s fun t =>
      t.link.queue.map (fun y => y.frame) = s.link.queue.map (fun y => y.frame)
      ∧ t.link.sending = none ∧ t.link.failCount = 0 ∧ ∀ y ∈ t.link.queue, y.inTx = false)
  ∧ (∀ (s : State) (seq : BitVec 4) (role : BitVec 3) (f : ReportFields) (bits : List Bool),
      s.link.sending = some ⟨.stateReport seq role f, bits⟩ →
      s.hasCause .linkFault = true →
      s.alarmInUse = true →
      Completes .completionEvent s fun t =>
      t.hasCause .linkFault = false ∧ t.ann .linkFault = (s.ann .linkFault).afterReturn
      ∧ ∀ c : AlarmCode, c ≠ .linkFault → t.ann c = s.ann c)
  ∧ (∀ (s : State) (n : Byte) (k : ProposalKind) (bits : List Bool),
      s.link.sending = some ⟨.propose n k, bits⟩ →
      s.consent.own.status = .pending →
      s.consent.own.number = n →
      s.consent.own.windowStart = none →
      Completes .completionEvent s fun t =>
      t.consent = { s.consent with own := { s.consent.own with
        windowStart := some s.now, windowTimer := some s.now, sendLimit := none
        echoSeen := Vector.replicate 8 false } }
      ∧ t = { s with consent := t.consent, link := t.link })
  ∧ (∀ (s : State) (x : Transmission),
      s.link.sending = some x →
      x.frame.holdsSlot = true →
      Completes .completionEvent s fun t => t.slotFull = false ∧ t = { s with slotFull := false, link := t.link })

/-- During quiet-out a frame that a block asks to queue joins nothing, TX_DROPPED goes up by 1, and
a reply so lost frees the request slot. QUIET_OUT_EXPIRY once the timer has run four report
intervals (REPORT_INTERVAL, or 50 ms unconfigured) ends the quiet-out, restarts the report timer
and queues a STATE_REPORT with the next sequence number. No transmission starts in quiet-out. -/
def Obligations.QuietOut : Prop :=
  (∀ (s : State) (f : OutFrame),
      s.onLink = true →
      s.link.quietOut.isSome = true →
      s.queueFrame f = { s with
      link := { s.link with txDropped := satInc s.link.txDropped }
      slotFull := if f.holdsSlot then false else s.slotFull })
  ∧ (∀ (s : State) (a : Time) (n : Station),
      s.onLink = true →
      s.self = some n →
      s.link.quietOut = some a →
      4 * (if s.configured then s.prm.reportInterval else 50) ≤ s.since a →
      s.link.queue.length ≤ 6 →
      Completes .quietOutExpiry s fun t =>
      t.link.quietOut = none ∧ t.ctl.reportTimer = some s.now
      ∧ t.ctl.reportSeq = s.ctl.reportSeq + 1
      ∧ ∃ q ∈ t.link.queue, q.frame = .stateReport s.ctl.reportSeq s.roleBits t.reportFields)
  ∧ (∀ (s : State),
      s.link.quietOut.isSome = true →
      exec .transmissionStart s = .next s)

/-- At a station that receives: a length field over 24 counts in RX_MALFORMED; a bad frame in
RX_BAD; a good frame of no line of Table 2-2 whose source is neither 0 nor the own address in
RX_MALFORMED; a well-formed SERVICE_REPLY leaves nothing. Each leaves all else unchanged but the
emptied receive buffer. At a station that does not receive, no frame changes anything. -/
def Obligations.DiscardedFrames : Prop :=
  (∀ (s : State) (length : BitVec 5),
      s.receives = true →
      24 < length.toNat →
      Completes (.frameLengthAbandoned length) s fun t =>
      t = { s with link := { s.link with rxMalformed := satInc s.link.rxMalformed } })
  ∧ (∀ (s : State) (f : Frame) (check : BitVec 16) (endField : BitVec 4),
      s.receives = true →
      check ≠ frameCheck f ∨ endField ≠ 15 →
      Completes (.frameBad f check endField) s fun t =>
      t = { s with link := { s.link with rxBad := satInc s.link.rxBad, receiveBuffer := none } })
  ∧ (∀ (s : State) (f : Frame),
      s.receives = true →
      s.offends f = false →
      frameFits f = false →
      exec (.frameMalformed f) s = .next s.malformed)
  ∧ (∀ (s : State) (h : Header) (payload : List Byte),
      s.receives = true →
      s.offends (headerFrame h 7 payload) = false →
      frameFits (headerFrame h 7 payload) = true →
      exec (.serviceReply h payload) s = .next s.ignored)
  ∧ (∀ (s : State) (f : Frame) (h : Header) (p : List Byte) (code : Byte) (length : BitVec 5) (check : BitVec 16) (endField : BitVec 4),
      s.receives = false →
      exec (.frameMalformed f) s = .next s ∧ exec (.frameOwnAddress f) s = .next s
      ∧ exec (.stateReport h p) s = .next s ∧ exec (.propose h p) s = .next s
      ∧ exec (.object h p) s = .next s ∧ exec (.alarmNotice h p) s = .next s
      ∧ exec (.keepNotice h p) s = .next s ∧ exec (.serviceReply h p) s = .next s
      ∧ exec (.readStatus h p) s = .next s ∧ exec (.readPeer h p) s = .next s
      ∧ exec (.readCounters h p) s = .next s ∧ exec (.readAlarms h p) s = .next s
      ∧ exec (.ackAlarms h p) s = .next s ∧ exec (.readCaptureHeader h p) s = .next s
      ∧ exec (.readCaptureSamples h p) s = .next s ∧ exec (.releaseCapture h p) s = .next s
      ∧ exec (.forceDerate h p) s = .next s
      ∧ exec (.serviceRequestUnknownCode h code p) s = .next s
      ∧ exec (.frameLengthAbandoned length) s = .next s
      ∧ exec (.frameBad f check endField) s = .next s)

/-- FRAME_OWN_ADDRESS at a station that receives, with no clash present: ADDRESS_CLASH raised with
the offending source as value, mode STOP, the return time started, and no other station's entry
touched. With a clash present the time restarts and nothing is raised.
ADDRESS_CLASH_RETURN_EXPIRY after 1000 ms in STOP stops the time and takes the code through its
return. -/
def Obligations.AddressClash : Prop :=
  (∀ (s : State) (f : Frame) (n : Station),
      s.receives = true →
      s.self = some n →
      s.alarmInUse = true →
      f.src = 0 ∨ f.src = stationAddress n →
      s.link.clashTimer = none →
      Completes (.frameOwnAddress f) s fun t =>
      Raised s t .addressClash f.src.toNat ∧ t.ctl.mode = .stop
      ∧ t.link.clashTimer = some s.now ∧ ∀ k : Station, k ≠ n → t.entry k = s.entry k)
  ∧ (∀ (s : State) (f : Frame) (n : Station) (a : Time),
      s.receives = true →
      s.self = some n →
      f.src = 0 ∨ f.src = stationAddress n →
      s.link.clashTimer = some a →
      Completes (.frameOwnAddress f) s fun t =>
      t = { s with link := { s.link with clashTimer := some s.now, receiveBuffer := none } })
  ∧ (∀ (s : State) (a : Time),
      s.link.clashTimer = some a →
      1000 ≤ s.since a →
      s.alarmInUse = true →
      s.ctl.mode = .stop →
      Completes .addressClashReturnExpiry s fun t =>
      t.link = { s.link with clashTimer := none } ∧ t.ctl.mode = .stop
      ∧ t.ann .addressClash = (s.ann .addressClash).afterReturn
      ∧ (∀ c : AlarmCode, c ≠ .addressClash → t.ann c = s.ann c)
      ∧ t = { s with
          ctl := { s.ctl with causes := t.ctl.causes }, out := t.out, alarm := t.alarm
          link := t.link })

/-- A request to queue a frame that merges with nothing, at a queue of 8: if some frame not in
transmission has a class above the new one's, then of the highest such class the last in queue
order is removed, the new frame joins in its class order, and the other frames keep their order;
otherwise the queue stays. Either way TX_DROPPED goes up by 1, a frame in transmission is never
removed, and a reply that leaves unsent frees the request slot. -/
def Obligations.FullQueue : Prop :=
  (∀ (s : State) (f : OutFrame) (front : List Queued) (q : Queued) (back : List Queued),
      s.onLink = true →
      s.link.quietOut = none →
      s.link.queue.length = 8 →
      (∀ x ∈ s.link.queue, x.frame.sameObject f = false) →
      (f.isReport = false ∨ ∀ x ∈ s.link.queue, x.frame.isReport = false) →
      s.link.queue = front ++ q :: back →
      q.inTx = false →
      f.cls < q.cls →
      (∀ x ∈ s.link.queue, x.inTx = false → x.cls ≤ q.cls) →
      (∀ x ∈ back, x.inTx = true ∨ x.cls ≠ q.cls) →
      s.queueFrame f = { s with
      link := { s.link with
        queue := insertByClass ⟨f, s.now, false, false⟩ (front ++ back)
        txDropped := satInc s.link.txDropped }
      slotFull := if q.frame.holdsSlot then false else s.slotFull })
  ∧ (∀ (s : State) (f : OutFrame),
      s.onLink = true →
      s.link.quietOut = none →
      s.link.queue.length = 8 →
      (∀ x ∈ s.link.queue, x.frame.sameObject f = false) →
      (f.isReport = false ∨ ∀ x ∈ s.link.queue, x.frame.isReport = false) →
      (∀ x ∈ s.link.queue, x.inTx = false → x.cls ≤ f.cls) →
      s.queueFrame f = { s with
      link := { s.link with txDropped := satInc s.link.txDropped }
      slotFull := if f.holdsSlot then false else s.slotFull })

/-- For every sequence, role code and report fields: the payload has 23 bytes, and reading sequence,
role and all 19 fields back from it gives the ones put in. So the layout of Table 12-6 drops no
bit and no two different reports share a payload. -/
def Obligations.ReportRoundTrip : Prop :=
  ∀ (seq : BitVec 4) (role : BitVec 3) (f : ReportFields),
      (reportBytes seq role f).length = 23
      ∧ reportSeqOf (reportBytes seq role f) = seq
      ∧ reportRoleOf (reportBytes seq role f) = role
      ∧ reportFieldsOf (reportBytes seq role f) = f

/-- For every frame that a station with number n can queue (a reply with at most 22 data bytes): the
frame passes the form check of R28, its own check value and a recessive end field make it good,
and on the line it has 41 + 8 × payload length bits, from a dominant start bit to four recessive
ones. -/
def Obligations.SentFramesFit : Prop :=
  ∀ (f : OutFrame) (n : Station),
      f.payload.length ≤ 24 →
      let x := f.toFrame (stationAddress n)
      frameFits x = true ∧ frameIsBad x (frameCheck x) 15 = false
        ∧ (lineBits x).length = 41 + 8 * x.payload.length
        ∧ (lineBits x).head? = some false
        ∧ (lineBits x).drop (37 + 8 * x.payload.length) = [true, true, true, true]

/-- STATE_REPORT of another station n at a loaded station, usable by R33 and no duplicate: entry n
is FRESH with the fields, sequence, role and present time of the report; its gap count rises by
d − 1 from FRESH or STALE, by 15 from STALE with d = 0, by nothing from ABSENT, saturating; lost
mark clear, stop mark set exactly for mode STOP, mismatch mark exactly for a role other than the
roster's, change mark set by a role change while FRESH; the duplicate count stays, and other
entries keep all but a stale mark. An echo of the own pending proposal from a roster station is
noted. A hoist or swing holds WALK_ACTIVE as the walk entry shows. Of the codes: a return of an
unlisted ABSENT entry raises UNLISTED_STATION; a role other than the roster's raises
ROLE_MISMATCH where the mark was clear, and nothing further where it was set; the event that
leaves no mismatch mark returns it; the event that makes a conflict present (more than two
HOIST, DRAG or SWING or one WALK heard with self, or a change mark) raises ROLE_CONFLICT with n
and adds its cause, the one that makes it absent returns the code and removes the cause. The
held proposal of n moves by the table of R58, another's stays. On the walk station a roster
drag's report takes TRANSFER to STEPPING with the cam brake released once every roster DRAG is
FRESH in WALK_SUPPLY (or abandons it where the event drops the station from RUN), forces
STEPPING and STOPPING where it shows another supply, sets and clears the supply cause in FORCED,
and ends RETURNING once all are handed back. On a drag a walk report of IDLE or RETURNING
returns the supply, opening the output at once with a reference of 0, NORMAL at once with the
feedback low (a waiting rise: assumption log entry 34), and one of FORCED clears reference and
duty in WALK_SUPPLY; so while the event adds no LOCAL_TRIP. -/
def Obligations.ReportTaken : Prop :=
  (∀ (s : State) (n : Station) (seq : BitVec 4) (role : BitVec 3) (f : ReportFields),
      s.loaded = true →
      s.hears n →
      reportUsable role f = true →
      ¬((s.entry n).status = .fresh ∧ seq = (s.entry n).lastSeq) →
      Completes (.stateReport (broadcast 4 n) (reportBytes seq role f)) s fun t =>
      t.entry n = { s.entry n with
          status := .fresh, role := role, lastSeq := seq, arrival := s.now, heard := true, fields := f
          gaps := satAdd (s.entry n).gaps (
            match (s.entry n).status with
            | .fresh => (seq - (s.entry n).lastSeq).toNat - 1
            | .stale =>
              if seq = (s.entry n).lastSeq then 15 else (seq - (s.entry n).lastSeq).toNat - 1
            | .absent => 0)
          staleMark := (t.entry n).staleMark
          lostMark := false
          mismatchMark := (s.entry n).expected.any fun r => role != r.bits
          changeMark := (s.entry n).changeMark
            || ((s.entry n).status == .fresh && role != (s.entry n).role)
          stopMark := f.mode == 3 }
      ∧ ∀ k : Station, k ≠ n →
          t.entry k = { s.entry k with staleMark := (t.entry k).staleMark })
  ∧ (∀ (s : State) (n : Station) (me : Station) (seq : BitVec 4) (role : BitVec 3) (f : ReportFields),
      s.loaded = true →
      s.self = some me →
      n ≠ me →
      reportUsable role f = true →
      ¬((s.entry n).status = .fresh ∧ seq = (s.entry n).lastSeq) →
      s.consent.own.status = .pending →
      s.consent.own.windowStart.isSome = true →
      (s.entry n).expected.isSome = true →
      n ∈ allStations →
      Completes (.stateReport (broadcast 4 n) (reportBytes seq role { f with
        echoProposer := byteOf (stationNumber me), echoNumber := s.consent.own.number })) s fun t =>
      t.consent.own = { s.consent.own with echoSeen := s.consent.own.echoSeen.set n true })
  ∧ (∀ (s : State) (n : Station) (seq : BitVec 4) (role : BitVec 3) (f : ReportFields),
      s.loaded = true →
      s.hears n →
      reportUsable role f = true →
      ¬((s.entry n).status = .fresh ∧ seq = (s.entry n).lastSeq) →
      s.is .hoist = true ∨ s.is .swing = true →
      s.walkStation = some n →
      Completes (.stateReport (broadcast 4 n) (reportBytes seq role f)) s fun t =>
      t.hasCause .walkActive = decide (2 ≤ f.phase.toNat % 8))
  ∧ (∀ (s : State) (n : Station) (seq : BitVec 4) (role : BitVec 3) (f : ReportFields),
      s.loaded = true →
      s.hears n →
      reportUsable role f = true →
      ¬((s.entry n).status = .fresh ∧ seq = (s.entry n).lastSeq) →
      s.alarmInUse = true →
      s.RunIsFree →
      s.hasCause .localTrip = !s.alarm.tripsNormal →
      Completes (.stateReport (broadcast 4 n) (reportBytes seq role f)) s fun t =>
      let differs := (s.entry n).expected.any fun r => role != r.bits
      let count (r : Role) : Nat := (if t.is r then 1 else 0)
        + (allStations.filter fun m =>
            t.self != some m && (t.entry m).status != .absent && (t.entry m).role == r.bits).length
      let conflict : Prop := 2 < count .hoist ∨ 2 < count .drag ∨ 2 < count .swing ∨ 1 < count .walk
        ∨ ∃ m : Station, (t.entry m).changeMark = true
      ((s.entry n).unlisted = true → (s.entry n).status = .absent → s.masked .unlistedStation = false →
        RaisedAmong s t .unlistedStation (stationNumber n))
      ∧ (differs = true → (s.entry n).mismatchMark = false →
        RaisedAmong s t .roleMismatch (stationNumber n) ∧ t.tripped)
      ∧ (differs = true → (s.entry n).mismatchMark = true → t.ann .roleMismatch = s.ann .roleMismatch)
      ∧ ((∃ m : Station, (s.entry m).mismatchMark = true) →
        (∀ m : Station, (t.entry m).mismatchMark = false) →
          t.ann .roleMismatch = (s.ann .roleMismatch).afterReturn)
      ∧ (s.peers.conflict = false → conflict →
        RaisedAmong s t .roleConflict (stationNumber n) ∧ t.tripped
          ∧ t.hasCause .roleConflict = true ∧ t.peers.conflict = true)
      ∧ (s.peers.conflict = true → ¬conflict →
        t.ann .roleConflict = (s.ann .roleConflict).afterReturn
          ∧ t.hasCause .roleConflict = false ∧ t.peers.conflict = false)
      ∧ ((s.peers.conflict = true ↔ conflict) →
        t.ann .roleConflict = s.ann .roleConflict
          ∧ t.hasCause .roleConflict = s.hasCause .roleConflict ∧ t.peers.conflict = s.peers.conflict))
  ∧ (∀ (s : State) (n : Station) (seq : BitVec 4) (role : BitVec 3) (f : ReportFields),
      s.loaded = true →
      s.hears n →
      reportUsable role f = true →
      ¬((s.entry n).status = .fresh ∧ seq = (s.entry n).lastSeq) →
      Completes (.stateReport (broadcast 4 n) (reportBytes seq role f)) s fun t =>
      t.consent.held =
        match s.consent.held with
        | some h =>
          let ahead := (f.propNumber.toNat + 255 - h.number.toNat) % 255
          if h.proposer ≠ n then some h
          else if f.propNumber = h.number then
            (if f.propStatus = 0 then none
            else some { h with
              confirmed := true
              reported :=
                if f.propStatus = 1 then .pending else if f.propStatus = 2 then .active
                else .withdrawing })
          else if f.propNumber ≠ 0 ∧ 1 ≤ ahead ∧ ahead ≤ 127 then none
          else if f.propNumber = 0 ∧ h.confirmed = true then none
          else some h
        | none => none)
  ∧ (∀ (s : State) (n : Station) (seq : BitVec 4) (role : BitVec 3) (f : ReportFields),
      s.loaded = true →
      s.hears n →
      reportUsable role f = true →
      ¬((s.entry n).status = .fresh ∧ seq = (s.entry n).lastSeq) →
      s.is .walk = true →
      s.inService = true →
      (s.entry n).expected = some .drag →
      s.alarmInUse = true →
      Completes (.stateReport (broadcast 4 n) (reportBytes seq role f)) s fun t =>
      let ready : Prop := ∀ m ∈ t.rosterOf .drag, (t.entry m).status = .fresh ∧ (t.entry m).fields.supply = 2
      let back : Prop := ∀ m ∈ t.rosterOf .drag,
        (t.entry m).status = .absent ∨ (t.entry m).fields.supply = 0
      (s.walk.state = .transfer → (s.ctl.mode = .run → t.ctl.mode = .run) →
        if ready then t.walk.state = .stepping ∧ t.walk.supplyLimit = none ∧ t.out.brakeSet = false
        else t.walk = s.walk ∧ t.out.brakeSet = s.out.brakeSet)
      ∧ (s.walk.state = .transfer → s.ctl.mode = .run → t.ctl.mode ≠ .run → t.walk.state = .idle)
      ∧ (s.walk.state = .stepping ∨ s.walk.state = .stopping →
        (f.supply ≠ 2 → t.walk.state = .forced ∧ t.camsStopped ∧ t.walk.forced = ⟨false, true, false⟩
          ∧ RaisedAmong s t .walkForcedStop s.meas.angleA)
        ∧ (f.supply = 2 → t.walk.state = s.walk.state ∨ t.walk.state = .stopping))
      ∧ (s.walk.state = .forced →
        t.walk.state = .forced
        ∧ t.walk.forced = { s.walk.forced with
            supply := decide (f.supply ≠ 2) || (s.walk.forced.supply && !decide ready) }
        ∧ (s.walk.forced.isEmpty = false → t.walk.forced.isEmpty = true →
            t.ann .walkForcedStop = (s.ann .walkForcedStop).afterReturn))
      ∧ (s.walk.state = .returning →
        t.walk.state = (if back then .idle else .returning)
        ∧ t.consent.own.status = (if back ∧ (s.consent.own.status = .active
            ∨ s.consent.own.status = .withdrawing) then .idle else s.consent.own.status))
      ∧ (s.walk.state = .idle ∨ s.walk.state = .proposing ∨ s.walk.state = .halted →
        t.walk = s.walk))
  ∧ (∀ (s : State) (n : Station) (seq : BitVec 4) (role : BitVec 3) (f : ReportFields),
      s.loaded = true →
      s.hears n →
      reportUsable role f = true →
      ¬((s.entry n).status = .fresh ∧ seq = (s.entry n).lastSeq) →
      s.is .drag = true →
      s.walkStation = some n →
      s.alarmInUse = true →
      Completes (.stateReport (broadcast 4 n) (reportBytes seq role f)) s fun t =>
      let ends := [0, 7].contains (f.phase.toNat % 8)
      let still : Prop := s.drive.reference = 0
      let low : Prop := s.meas.contactorFb.value = false ∧ Instr.contactorFbRise ∉ s.pending
      t.hasCause .localTrip = s.hasCause .localTrip →
      if (s.role.supply = .transferring ∨ s.role.supply = .walkSupply) ∧ ends = true then
        t.role.supply = (if still ∧ low then .normal else .returning)
        ∧ t.role.transferLimit = none ∧ t.drive = s.drive
        ∧ t.out.transferClosed = (if still then false else s.out.transferClosed)
        ∧ t.role.returnLimit =
            (if still then (if low then none else some s.now) else s.role.returnLimit)
        ∧ t.ann .transferFail =
            (if still ∧ low then (s.ann .transferFail).afterReturn else s.ann .transferFail)
      else
        t.role.supply = s.role.supply ∧ t.out.transferClosed = s.out.transferClosed
        ∧ (s.role.supply = .walkSupply ∧ f.phase.toNat % 8 = 6 →
          t.drive.reference = 0 ∧ t.drive.duty = 0 ∧ t.out.fieldPwm = 0)
        ∧ (s.role.supply ≠ .walkSupply ∨ f.phase.toNat % 8 ≠ 6 →
          t.drive.reference = s.drive.reference ∧ t.drive.duty = s.drive.duty))

/-- At a loaded station, STATE_REPORT of another station n. If the mode is not HOLD, RUN or STOP,
the role not 1 to 4, the derate level over 7, the supply state over 3, the proposal kind over 2
or status over 3, the supply state not 0 outside role DRAG, or a walk reference not 0 outside
role WALK, it leaves only a higher RX_MALFORMED. If it is usable and entry n is FRESH with the
same sequence, it leaves only a duplicate count one higher, saturating, the arrival time as it
was. Every other report, one with an equal sequence into a STALE or ABSENT entry too, is taken
with its fields as they come. The sequence and the alarm summary fill their bits and cannot be
outside. -/
def Obligations.ReportDiscarded : Prop :=
  (∀ (s : State) (n : Station) (seq : BitVec 4) (role : BitVec 3) (f : ReportFields),
      s.loaded = true →
      s.hears n →
      f.mode = 0 ∨ role = 0 ∨ 4 < role.toNat ∨ 7 < f.derate.toNat ∨ 3 < f.supply.toNat
      ∨ 2 < f.propKind.toNat ∨ 3 < f.propStatus.toNat ∨ (f.supply ≠ 0 ∧ role ≠ 2)
      ∨ ((f.refLeft ≠ 0 ∨ f.refRight ≠ 0) ∧ role ≠ 4) →
      exec (.stateReport (broadcast 4 n) (reportBytes seq role f)) s = .next s.malformed)
  ∧ (∀ (s : State) (n : Station) (role : BitVec 3) (f : ReportFields),
      s.loaded = true →
      s.hears n →
      reportUsable role f = true →
      (s.entry n).status = .fresh →
      Completes (.stateReport (broadcast 4 n) (reportBytes (s.entry n).lastSeq role f)) s fun t =>
      t.entry n = { s.entry n with dups := satInc (s.entry n).dups }
      ∧ (∀ k : Station, k ≠ n → t.entry k = s.entry k)
      ∧ t = { s with
          link := { s.link with receiveBuffer := none }
          peers := { s.peers with entries := t.peers.entries } })
  ∧ (∀ (s : State) (n : Station) (seq : BitVec 4) (role : BitVec 3) (f : ReportFields),
      s.loaded = true →
      s.hears n →
      ¬(f.mode = 0 ∨ role = 0 ∨ 4 < role.toNat ∨ 7 < f.derate.toNat ∨ 3 < f.supply.toNat
      ∨ 2 < f.propKind.toNat ∨ 3 < f.propStatus.toNat ∨ (f.supply ≠ 0 ∧ role ≠ 2)
      ∨ ((f.refLeft ≠ 0 ∨ f.refRight ≠ 0) ∧ role ≠ 4)) →
      (s.entry n).status ≠ .fresh ∨ seq ≠ (s.entry n).lastSeq →
      Completes (.stateReport (broadcast 4 n) (reportBytes seq role f)) s fun t =>
      (t.entry n).status = .fresh ∧ (t.entry n).fields = f ∧ (t.entry n).arrival = s.now
      ∧ (t.entry n).dups = (s.entry n).dups ∧ t.link.rxMalformed = s.link.rxMalformed)

/-- ENTRY_GOES_STALE at a loaded station for another station's FRESH entry whose age exceeds
STALE_LIMIT: the entry is STALE with its stale mark set and all else kept, and a roster entry
raises PEER_STALE with its number unless masked. ENTRY_GOES_ABSENT for a STALE entry whose age
exceeds LOST_LIMIT: ABSENT, fields and counts kept, stop, mismatch and change marks clear; a
roster entry has its lost mark set, PEER_LOST raised with its number, and PICTURE_INCOMPLETE and
LOCAL_TRIP present. Every other entry stays. No entry but one in those two cases changes. That
the RAISED entry of PEER_STALE or PEER_LOST is the first one its event writes, before those of
FOLLOW_LOST, WALK_ABORTED, ROLE_CONFLICT or WALK_FORCED_STOP, is the model's order: the spec
gives none (assumption log entry 12). -/
def Obligations.EntriesAge : Prop :=
  (∀ (s : State) (n : Station),
      s.loaded = true →
      s.self ≠ some n →
      (s.entry n).status = .fresh →
      s.prm.staleLimit < s.age n →
      s.alarmInUse = true →
      Completes (.entryGoesStale n) s fun t =>
      t.entry n = { s.entry n with status := .stale, staleMark := true }
      ∧ (∀ k : Station, k ≠ n → t.entry k = s.entry k)
      ∧ ((s.entry n).expected.isSome = true → s.masked .peerStale = false →
          Raised s t .peerStale (stationNumber n))
      ∧ t.meas = s.meas ∧ t.heat = s.heat)
  ∧ (∀ (s : State) (n : Station),
      s.loaded = true →
      s.self ≠ some n →
      (s.entry n).status = .stale →
      s.prm.lostLimit < s.age n →
      s.alarmInUse = true →
      s.RunIsFree →
      s.hasCause .localTrip = !s.alarm.tripsNormal →
      Completes (.entryGoesAbsent n) s fun t =>
      t.entry n = { s.entry n with
          status := .absent, stopMark := false, mismatchMark := false, changeMark := false
          lostMark := (s.entry n).lostMark || (s.entry n).expected.isSome }
      ∧ (∀ k : Station, k ≠ n → t.entry k = s.entry k)
      ∧ ((s.entry n).expected.isSome = true →
          Raised s t .peerLost (stationNumber n) ∧ t.tripped ∧ t.hasCause .pictureIncomplete = true)
      ∧ t.meas = s.meas ∧ t.heat = s.heat)
  ∧ (∀ (s : State) (n : Station),
      s.self = some n ∨ (s.entry n).status ≠ .fresh →
      exec (.entryGoesStale n) s = .next s)
  ∧ (∀ (s : State) (n : Station),
      s.self = some n ∨ (s.entry n).status ≠ .stale →
      exec (.entryGoesAbsent n) s = .next s)

/-- PROPOSE with number m ≠ 0 and kind k of another station p. With no own proposal and nothing
held, an entry p not ABSENT makes it the held proposal, PENDING, its objecting mark showing the
vote, and an objection queues an OBJECT. The vote is that of Table 4-4: rows 2 to 7 by role,
kind, tension, supply state, walk state, speed, brake output and derate level, row 1 in STOP.
With an own PENDING proposal, a lower p makes the own one cancel with YIELDED, its PROPOSE leave
the queue if not in transmission, and p's be held; a higher p is not held and is objected to. A
station in STOP objects with STATION_STOP. Unconfigured, it objects so and holds nothing. Number
0 or another kind only counts in RX_MALFORMED; that it does so in LISTEN too is the model's
reading (assumption log entry 10). -/
def Obligations.ProposeTaken : Prop :=
  (∀ (s : State) (p : Station) (m : Byte) (k : ProposalKind),
      s.hears p →
      s.inService = true →
      m ≠ 0 →
      s.consent.own.status = .idle →
      s.consent.held = none →
      (s.entry p).status ≠ .absent →
      s.link.quietOut = none →
      s.link.queue = [] →
      Completes (.propose (broadcast 3 p) [m, byteOf k.code]) s fun t =>
      t.consent = { s.consent with
        held := some ⟨p, m, k, .pending, false, (s.vote p k).isSome⟩ }
      ∧ (s.ctl.mode = .stop → s.vote p k = some .stationStop)
      ∧ t = { s with
          consent := t.consent, link := { s.link with receiveBuffer := none, queue := t.link.queue } }
      ∧ t.link.queue =
          match s.vote p k with
          | some r => [⟨.object p m r, s.now, false, false⟩]
          | none => [])
  ∧ (∀ (s : State) (p : Station) (m : Byte) (k : ProposalKind),
      s.hears p →
      s.inService = true →
      s.ctl.mode ≠ .stop →
      m ≠ 0 →
      s.consent.own.status = .idle →
      s.consent.held = none →
      (s.entry p).status ≠ .absent →
      s.link.quietOut = none →
      s.link.queue = [] →
      let speed := if s.is .walk then s.meas.speedA else s.meas.speedB
      let moving := decide (s.prm.zeroBand < speed.natAbs)
      let vote : Option Reason := match k, s.ownRole with
        | .swingRelease, some .drag =>
          if s.prm.digTension < s.meas.tension then some .bucketInDig
          else if s.role.supply ≠ .normal then some .walkSupply
          else none
        | .swingRelease, some .walk => if s.walk.state ≠ .idle then some .walking else none
        | .walkStart, some .hoist =>
          if moving || decide (s.prm.groundTension ≤ s.meas.tension) then some .bucketNotGrounded
          else none
        | .walkStart, some .swing => if s.out.brakeSet then none else some .swingFree
        | .walkStart, some .drag =>
          if !s.out.brakeSet || moving || decide (s.prm.walkDerateMax < s.heat.effective) then
            some .dragNotReady
          else none
        | _, _ => none
      Completes (.propose (broadcast 3 p) [m, byteOf k.code]) s fun t =>
        t.consent.held = some ⟨p, m, k, .pending, false, vote.isSome⟩
        ∧ t.link.queue = match vote with
            | some r => [⟨.object p m r, s.now, false, false⟩]
            | none => [])
  ∧ (∀ (s : State) (p : Station) (me : Station) (m : Byte) (k : ProposalKind) (j : ProposalKind),
      s.hears p →
      s.self = some me →
      p < me →
      s.inService = true →
      m ≠ 0 →
      s.consent.own.status = .pending →
      s.consent.own.kind = some j →
      (s.entry p).status ≠ .absent →
      s.raises .consentRefused →
      Completes (.propose (broadcast 3 p) [m, byteOf k.code]) s fun t =>
      t.consent.own = { s.consent.own with status := .idle, sendLimit := none, windowTimer := none }
      ∧ Raised s t .consentRefused (6000 + 10 * (stationNumber p : Int))
      ∧ (∃ x, t.consent.held = some ⟨p, m, k, .pending, false, x⟩)
      ∧ ∀ q ∈ t.link.queue, q.frame.isPropose s.consent.own.number = true → q.inTx = true)
  ∧ (∀ (s : State) (p : Station) (me : Station) (m : Byte) (k : ProposalKind),
      s.hears p →
      s.self = some me →
      me < p →
      s.inService = true →
      m ≠ 0 →
      s.consent.own.status = .pending →
      s.link.quietOut = none →
      s.link.queue = [] →
      s.consent.held = none →
      Completes (.propose (broadcast 3 p) [m, byteOf k.code]) s fun t =>
      t.consent = s.consent
      ∧ ∃ q ∈ t.link.queue, q.frame =
          .object p m (if s.ctl.mode = .stop then .stationStop
            else (s.voteByRole k).getD .contending))
  ∧ (∀ (s : State) (p : Station) (m : Byte) (k : ProposalKind),
      s.hears p →
      s.unconfigured = true →
      m ≠ 0 →
      s.link.quietOut = none →
      s.link.queue = [] →
      Completes (.propose (broadcast 3 p) [m, byteOf k.code]) s fun t =>
      t = { s with link := { s.link with
        receiveBuffer := none
        queue := [⟨.object p m .stationStop, s.now, false, false⟩] } })
  ∧ (∀ (s : State) (p : Station) (m : Byte) (k : Byte),
      s.hears p →
      m = 0 ∨ k.toNat < 1 ∨ 2 < k.toNat →
      exec (.propose (broadcast 3 p) [m, k]) s = .next s.malformed)

/-- OBJECT of another station src, whatever its entry, naming this station and its present number
while the own status is PENDING: the objected mark takes the objector and reason if it was clear
and stays as it is if it was set. The status, the timers, the window start and every other part
of the station stay as they were. -/
def Obligations.ObjectionMarks : Prop :=
  ∀ (s : State) (src : Station) (me : Station) (r : Reason),
      s.hears src →
      s.self = some me →
      s.consent.own.status = .pending →
      s.consent.own.number ≠ 0 →
      Completes (.object (broadcast 1 src)
        [byteOf (stationNumber me), s.consent.own.number, byteOf r.code]) s fun t =>
      t = { s with
        link := { s.link with receiveBuffer := none }
        consent := { s.consent with own := { s.consent.own with
          objected := if s.consent.own.objected.isSome then s.consent.own.objected
            else some (src, r) } } }

/-- OBJECT naming this station while ACTIVE: a free swing enters WITHDRAWING and so does its
proposal; a walk in STEPPING enters STOPPING and WALK_ABORTED is raised with 10 × objector +
reason, unless masked. One naming another number, or met in NONE, only counts in LATE_OBJECT.
One naming another station leaves nothing. One with proposer outside 1 to 8, number 0 or reason
outside 1 to 8 only counts in RX_MALFORMED. -/
def Obligations.ObjectWithdraws : Prop :=
  (∀ (s : State) (src : Station) (me : Station) (r : Reason),
      s.hears src →
      s.self = some me →
      s.swingLead = true →
      s.consent.own.status = .active →
      s.consent.own.kind = some .swingRelease →
      s.consent.own.number ≠ 0 →
      s.role.swing = .free →
      Completes (.object (broadcast 1 src)
        [byteOf (stationNumber me), s.consent.own.number, byteOf r.code]) s fun t =>
      t.role.swing = .withdrawing ∧ t.role.withdrawnBy = some (src, r)
      ∧ t.consent = { s.consent with own := { s.consent.own with status := .withdrawing } }
      ∧ t.out.brakeSet = s.out.brakeSet ∧ t.drive = s.drive)
  ∧ (∀ (s : State) (src : Station) (me : Station) (r : Reason),
      s.hears src →
      s.self = some me →
      s.is .walk = true →
      s.consent.own.status = .active →
      s.consent.own.kind = some .walkStart →
      s.consent.own.number ≠ 0 →
      s.walk.state = .stepping →
      Completes (.object (broadcast 1 src)
        [byteOf (stationNumber me), s.consent.own.number, byteOf r.code]) s fun t =>
      t.walk.state = .stopping ∧ t.consent = s.consent
      ∧ (s.raises .walkAborted →
          Raised s t .walkAborted (10 * (stationNumber src : Int) + r.code)))
  ∧ (∀ (s : State) (src : Station) (me : Station) (m : Byte) (r : Reason),
      s.hears src →
      s.self = some me →
      m ≠ 0 →
      s.consent.own.status = .idle ∨ m ≠ s.consent.own.number →
      Completes (.object (broadcast 1 src) [byteOf (stationNumber me), m, byteOf r.code]) s fun t =>
      t = { s with
        link := { s.link with receiveBuffer := none }
        consent := { s.consent with lateObject := satInc s.consent.lateObject } })
  ∧ (∀ (s : State) (src : Station) (p : Station) (m : Byte) (r : Reason),
      s.hears src →
      s.self ≠ some p →
      m ≠ 0 →
      exec (.object (broadcast 1 src) [byteOf (stationNumber p), m, byteOf r.code]) s = .next s.ignored)
  ∧ (∀ (s : State) (src : Station) (a : Byte) (m : Byte) (r : Byte),
      s.hears src →
      a.toNat < 1 ∨ 8 < a.toNat ∨ m = 0 ∨ r.toNat < 1 ∨ 8 < r.toNat →
      exec (.object (broadcast 1 src) [a, m, r]) s = .next s.malformed)

/-- SEND_LIMIT_EXPIRY while PENDING, OBJECTION_WINDOW after the queue time: the status is NONE with
number and kind kept and both timers stopped, CONSENT_REFUSED is raised with 5000 unless masked,
a PROPOSE of that number stays in the queue only while it is in transmission, the PROPOSE so
removed is not counted in TX_DROPPED, which goes up by 1 only where the notice of the raise is
asked for in quiet-out or at a full queue, and a proposing swing or walk returns to LOCKED or
IDLE. That the raise comes before the removal, so that its notice may find the PROPOSE still in
a full queue, is the model's choice (assumption log entry 35). -/
def Obligations.SendLimitCancels : Prop :=
  ∀ (s : State) (k : ProposalKind) (a : Time),
      s.consent.own.status = .pending →
      s.consent.own.kind = some k →
      s.consent.own.sendLimit = some a →
      s.prm.objectionWindow ≤ s.since a →
      s.alarmInUse = true →
      Completes .sendLimitExpiry s fun t =>
      t.consent.own = { s.consent.own with status := .idle, sendLimit := none, windowTimer := none }
      ∧ t.consent.held = s.consent.held
      ∧ (s.masked .consentRefused = false → Raised s t .consentRefused 5000)
      ∧ (∀ q ∈ t.link.queue, q.frame.isPropose s.consent.own.number = true → q.inTx = true)
      ∧ (s.masked .consentRefused = true ∨ s.sendsNotice .consentRefused = false
          ∨ (s.link.quietOut = none ∧ s.link.queue.length < 8) →
          t.link.txDropped = s.link.txDropped)
      ∧ (s.masked .consentRefused = true ∨ s.sendsNotice .consentRefused = false →
          t.link = { s.link with
            queue := s.link.queue.filter fun q =>
              !q.frame.isPropose s.consent.own.number || q.inTx })
      ∧ (s.masked .consentRefused = false → s.sendsNotice .consentRefused = true →
          s.onLink = true → s.link.quietOut.isSome = true ∨ 8 ≤ s.link.queue.length →
          t.link.txDropped = satInc s.link.txDropped)
      ∧ (k = .swingRelease → s.role.swing = .proposing → t.role.swing = .locked)
      ∧ (k = .walkStart → s.walk.state = .proposing → t.walk.state = .idle)
      ∧ t.ctl = s.ctl ∧ t.peers = s.peers ∧ t.drive = s.drive

/-- WINDOW_EXPIRY while PENDING, OBJECTION_WINDOW after the window start. An objected mark cancels
with OBJECTED; else the lowest other roster station not FRESH cancels with ABSENT; else the
lowest whose echo was not seen cancels with NO_ECHO; else a missing own precondition (RUN, and
brake set or WALK_CMD high) cancels with OPERATOR; else the status is ACTIVE and the owner told:
a proposing swing is FREE, a proposing walk in TRANSFER with its supply limit started. And over
all commands and states: where a proposal not ACTIVE before is ACTIVE after, the command was
this one, no objection was marked, and every other roster station was FRESH with its echo seen. -/
def Obligations.WindowJudged : Prop :=
  (∀ (s : State) (k : ProposalKind) (a : Time) (x : Station) (r : Reason),
      s.consent.own.status = .pending →
      s.consent.own.kind = some k →
      s.consent.own.windowTimer = some a →
      s.prm.objectionWindow ≤ s.since a →
      s.consent.own.objected = some (x, r) →
      Completes .windowExpiry s fun t =>
      t.consent.own = { s.consent.own with status := .idle, sendLimit := none, windowTimer := none }
      ∧ (s.raises .consentRefused → Raised s t .consentRefused (1000 + 10 * (stationNumber x : Int) + r.code))
      ∧ (k = .swingRelease → s.role.swing = .proposing → t.role.swing = .locked)
      ∧ (k = .walkStart → s.walk.state = .proposing → t.walk.state = .idle))
  ∧ (∀ (s : State) (k : ProposalKind) (a : Time) (x : Station),
      s.consent.own.status = .pending →
      s.consent.own.kind = some k →
      s.consent.own.windowTimer = some a →
      s.prm.objectionWindow ≤ s.since a →
      s.consent.own.objected = none →
      x ∈ s.rosterOthers →
      (s.entry x).status ≠ .fresh →
      (∀ y ∈ s.rosterOthers, y < x → (s.entry y).status = .fresh) →
      Completes .windowExpiry s fun t =>
      t.consent.own = { s.consent.own with status := .idle, sendLimit := none, windowTimer := none }
      ∧ (s.raises .consentRefused → Raised s t .consentRefused (3000 + 10 * (stationNumber x : Int)))
      ∧ (k = .swingRelease → s.role.swing = .proposing → t.role.swing = .locked)
      ∧ (k = .walkStart → s.walk.state = .proposing → t.walk.state = .idle))
  ∧ (∀ (s : State) (k : ProposalKind) (a : Time) (x : Station),
      s.consent.own.status = .pending →
      s.consent.own.kind = some k →
      s.consent.own.windowTimer = some a →
      s.prm.objectionWindow ≤ s.since a →
      s.consent.own.objected = none →
      (∀ y ∈ s.rosterOthers, (s.entry y).status = .fresh) →
      x ∈ s.rosterOthers →
      s.consent.own.echoSeen[x] = false →
      (∀ y ∈ s.rosterOthers, y < x → s.consent.own.echoSeen[y] = true) →
      Completes .windowExpiry s fun t =>
      t.consent.own = { s.consent.own with status := .idle, sendLimit := none, windowTimer := none }
      ∧ (s.raises .consentRefused → Raised s t .consentRefused (2000 + 10 * (stationNumber x : Int)))
      ∧ (k = .swingRelease → s.role.swing = .proposing → t.role.swing = .locked)
      ∧ (k = .walkStart → s.walk.state = .proposing → t.walk.state = .idle))
  ∧ (∀ (s : State) (k : ProposalKind) (a : Time),
      s.consent.own.status = .pending →
      s.consent.own.kind = some k →
      s.consent.own.windowTimer = some a →
      s.prm.objectionWindow ≤ s.since a →
      s.consent.own.objected = none →
      (∀ y ∈ s.rosterOthers, (s.entry y).status = .fresh ∧ s.consent.own.echoSeen[y] = true) →
      s.ctl.mode ≠ .run ∨ (k = .swingRelease ∧ s.out.brakeSet = false)
      ∨ (k = .walkStart ∧ s.meas.walkCmd.value = false) →
      Completes .windowExpiry s fun t =>
      t.consent.own = { s.consent.own with status := .idle, sendLimit := none, windowTimer := none }
      ∧ (s.raises .consentRefused → Raised s t .consentRefused (4000))
      ∧ (k = .swingRelease → s.role.swing = .proposing → t.role.swing = .locked)
      ∧ (k = .walkStart → s.walk.state = .proposing → t.walk.state = .idle))
  ∧ (∀ (s : State) (k : ProposalKind) (a : Time),
      s.consent.own.status = .pending →
      s.consent.own.kind = some k →
      s.consent.own.windowTimer = some a →
      s.prm.objectionWindow ≤ s.since a →
      s.consent.own.objected = none →
      (∀ y ∈ s.rosterOthers, (s.entry y).status = .fresh ∧ s.consent.own.echoSeen[y] = true) →
      s.ctl.mode = .run →
      (k = .swingRelease → s.out.brakeSet = true) →
      (k = .walkStart → s.meas.walkCmd.value = true) →
      Completes .windowExpiry s fun t =>
      t.consent = { s.consent with own := { s.consent.own with
        status := .active, windowTimer := none } }
      ∧ (k = .swingRelease → s.role.swing = .proposing → t.role.swing = .free)
      ∧ (k = .walkStart → s.walk.state = .proposing →
          t.walk.state = .transfer ∧ t.walk.supplyLimit = some s.now)
      ∧ t = { s with consent := t.consent, role := t.role, walk := t.walk })
  ∧ (∀ (c : Instr) (s : State) (t : State),
      exec c s = .next t →
      t.consent.own.status = .active →
      s.consent.own.status ≠ .active →
      c = .windowExpiry ∧ s.consent.own.status = .pending
      ∧ s.ran s.consent.own.windowTimer s.prm.objectionWindow = true
      ∧ s.consent.own.objected = none
      ∧ ∀ y ∈ s.rosterOthers, (s.entry y).status = .fresh ∧ s.consent.own.echoSeen[y] = true)

/-- COUNT_EDGE after the good load, the line levels running 00, 01, 11, 10, 00 forward: PULSE_A
moves the signed 16-bit payout count of a hoist or drag by one, the turn count of a swing or
walk by one within 0 to COUNTS_PER_TURN − 1 wrapping; PULSE_B moves the right cam's turn count
on a walk station and no counter elsewhere. On either pair and in every role the line follows,
and the pair's timer restarts and takes the direction, and its held period is the reading, at
least 1, if an edge came before in the same direction without timeout, else none. QUAD_SKIP
changes both lines and moves no counter. Before the load only the lines follow. That no edge
before the first one after the load gives a held period is the model's reading (assumption log
entry 11). -/
def Obligations.PulseEdges : Prop :=
  (∀ (s : State) (p : Phase) (us : Fin 1000),
      s.loaded = true →
      s.is .hoist = true ∨ s.is .drag = true →
      let tm := s.meas.timerA
      let lines := s.pins.pulseA
      let forward := match p with
        | .phase2 => lines.phase1 == lines.phase2
        | .phase1 => lines.phase1 != lines.phase2
      let after : PairLines := match p with
        | .phase1 => ⟨!lines.phase1, lines.phase2⟩
        | .phase2 => ⟨lines.phase1, !lines.phase2⟩
      let r := min 65535 (tm.count + (us.val - tm.since))
      let timed : PulseTimer :=
        { forward := forward, count := 0, since := us.val, edgeSeen := true
          held :=
            if tm.edgeSeen && tm.forward == forward && decide (r < 65535) then some (max 1 r) else none }
      Completes (.countEdge .pulseA p us) s fun t =>
        t = { s with
          pins := { s.pins with pulseA := after }
          meas := { s.meas with
            payCount := if forward then s.meas.payCount + 1 else s.meas.payCount - 1
            timerA := timed } })
  ∧ (∀ (s : State) (p : Phase) (us : Fin 1000),
      s.loaded = true →
      s.is .swing = true ∨ s.is .walk = true →
      0 < s.prm.countsPerTurn →
      s.meas.turnA < s.prm.countsPerTurn →
      let tm := s.meas.timerA
      let lines := s.pins.pulseA
      let forward := match p with
        | .phase2 => lines.phase1 == lines.phase2
        | .phase1 => lines.phase1 != lines.phase2
      let after : PairLines := match p with
        | .phase1 => ⟨!lines.phase1, lines.phase2⟩
        | .phase2 => ⟨lines.phase1, !lines.phase2⟩
      let r := min 65535 (tm.count + (us.val - tm.since))
      let timed : PulseTimer :=
        { forward := forward, count := 0, since := us.val, edgeSeen := true
          held :=
            if tm.edgeSeen && tm.forward == forward && decide (r < 65535) then some (max 1 r) else none }
      Completes (.countEdge .pulseA p us) s fun t =>
        t = { s with
          pins := { s.pins with pulseA := after }
          meas := { s.meas with turnA := t.meas.turnA, timerA := timed } }
        ∧ t.meas.turnA < s.prm.countsPerTurn
        ∧ (t.meas.turnA : Int) =
            ((s.meas.turnA : Int) + (if forward then 1 else -1)) % s.prm.countsPerTurn)
  ∧ (∀ (s : State) (p : Phase) (us : Fin 1000),
      s.loaded = true →
      (s.is .walk = true → 0 < s.prm.countsPerTurn ∧ s.meas.turnB < s.prm.countsPerTurn) →
      let tm := s.meas.timerB
      let lines := s.pins.pulseB
      let forward := match p with
        | .phase2 => lines.phase1 == lines.phase2
        | .phase1 => lines.phase1 != lines.phase2
      let after : PairLines := match p with
        | .phase1 => ⟨!lines.phase1, lines.phase2⟩
        | .phase2 => ⟨lines.phase1, !lines.phase2⟩
      let r := min 65535 (tm.count + (us.val - tm.since))
      let timed : PulseTimer :=
        { forward := forward, count := 0, since := us.val, edgeSeen := true
          held :=
            if tm.edgeSeen && tm.forward == forward && decide (r < 65535) then some (max 1 r) else none }
      Completes (.countEdge .pulseB p us) s fun t =>
        t = { s with
          pins := { s.pins with pulseB := after }
          meas := { s.meas with turnB := t.meas.turnB, timerB := timed } }
        ∧ (s.is .walk = false → t.meas.turnB = s.meas.turnB)
        ∧ (s.is .walk = true →
            t.meas.turnB < s.prm.countsPerTurn
            ∧ (t.meas.turnB : Int) =
                ((s.meas.turnB : Int) + (if forward then 1 else -1)) % s.prm.countsPerTurn))
  ∧ (∀ (s : State) (x : PairId),
      s.loaded = true →
      let both (l : PairLines) : PairLines := ⟨!l.phase1, !l.phase2⟩
      Completes (.quadSkip x) s fun t =>
        t = { s with
          pins := match x with
            | .pulseA => { s.pins with pulseA := both s.pins.pulseA }
            | .pulseB => { s.pins with pulseB := both s.pins.pulseB }
          meas := { s.meas with quadSkip := satInc s.meas.quadSkip } })
  ∧ (∀ (s : State) (x : PairId) (p : Phase) (us : Fin 1000),
      s.loaded = false →
      let flip (l : PairLines) : PairLines := match p with
        | .phase1 => ⟨!l.phase1, l.phase2⟩
        | .phase2 => ⟨l.phase1, !l.phase2⟩
      let both (l : PairLines) : PairLines := ⟨!l.phase1, !l.phase2⟩
      Completes (.countEdge x p us) s (fun t =>
          t = { s with pins := match x with
            | .pulseA => { s.pins with pulseA := flip s.pins.pulseA }
            | .pulseB => { s.pins with pulseB := flip s.pins.pulseB } })
        ∧ Completes (.quadSkip x) s fun t =>
          t = { s with pins := match x with
            | .pulseA => { s.pins with pulseA := both s.pins.pulseA }
            | .pulseB => { s.pins with pulseB := both s.pins.pulseB } })

/-- After the good load: LIMIT_RISE sets the payout count of a hoist or drag to 0 and its homed
flag, and on a hoist raises TWO_BLOCK with the payout of the last expiry, at most 32 767;
LIMIT_FALL touches no counter and on a hoist takes TWO_BLOCK through its return; HOME_L_RISE
sets the turn count of the swing angle or left cam to 0 and homes it; HOME_R_RISE does the same
for the right cam of a walk station. BRAKE_FB_EDGE changes the debounced input and nothing else. -/
def Obligations.ContactEvents : Prop :=
  (∀ (s : State),
      s.loaded = true →
      s.is .hoist = true →
      Completes .limitRise s fun t =>
      t.meas = { s.meas with limit := ⟨true, 0⟩, payCount := 0, homedA := true }
      ∧ (s.raises .twoBlock → Raised s t .twoBlock (min s.meas.payout 32767 : Nat))
      ∧ t.ctl = s.ctl ∧ t.drive = s.drive ∧ t.peers = s.peers)
  ∧ (∀ (s : State),
      s.loaded = true →
      s.is .drag = true →
      Completes .limitRise s fun t =>
      t = { s with
        pins := { s.pins with limit := true }
        meas := { s.meas with limit := ⟨true, 0⟩, payCount := 0, homedA := true } })
  ∧ (∀ (s : State),
      s.loaded = true →
      s.is .hoist = true →
      s.raises .twoBlock →
      Completes .limitFall s fun t =>
      t.meas = { s.meas with limit := ⟨false, 0⟩ }
      ∧ t.ann .twoBlock = (s.ann .twoBlock).afterReturn
      ∧ (∀ c : AlarmCode, c ≠ .twoBlock → t.ann c = s.ann c)
      ∧ t.drive = s.drive ∧ t.link = s.link ∧ t.capture = s.capture)
  ∧ (∀ (s : State),
      s.is .hoist = false →
      Completes .limitFall s fun t =>
      t = { s with
        pins := { s.pins with limit := false }, meas := { s.meas with limit := ⟨false, 0⟩ } })
  ∧ (∀ (s : State),
      s.loaded = true →
      Completes .homeLRise s fun t =>
      t = { s with
        pins := { s.pins with homeL := true }
        meas :=
          if s.is .swing || s.is .walk then
            { s.meas with homeL := ⟨true, 0⟩, turnA := 0, homedA := true }
          else { s.meas with homeL := ⟨true, 0⟩ } })
  ∧ (∀ (s : State),
      s.loaded = true →
      Completes .homeRRise s fun t =>
      t = { s with
        pins := { s.pins with homeR := true }
        meas :=
          if s.is .walk then { s.meas with homeR := ⟨true, 0⟩, turnB := 0, homedB := true }
          else { s.meas with homeR := ⟨true, 0⟩ } })
  ∧ (∀ (s : State) (level : Bool),
      Completes (.brakeFbEdge level) s fun t =>
      t = { s with
        pins := { s.pins with brakeFb := level }, meas := { s.meas with brakeFb := ⟨level, 0⟩ } })

/-- REGULATION_INTERVAL_EXPIRY once REG_INTERVAL has run: the timer restarts. On hoist, drag and
swing each raw reading less its pedestal saturates to −2048..2047; the armature current, less
the variable baseline where it is enabled, times I_SCALE over 1024, truncated and clamped to
±2500, is the current; voltage speed and field current likewise with their scales and limits;
the tension is the table interpolated at the current. On the walk station the analog values
stay. The payout of a hoist or drag, both cam angles and the motor speed are formed from
counters and period timer by R76 to R78. -/
def Obligations.MeasuredValues : Prop :=
  (∀ (s : State) (raw : Analog) (a : Time),
      s.loaded = true →
      s.meas.regTimer = some a →
      s.prm.regInterval ≤ s.since a →
      s.is .walk = false →
      let sat (x : Int) : Int := max (-2048) (min 2047 x)
      let x := sat ((raw.armI.toNat : Int) - s.prm.armIPed)
      let armI := if s.prm.vbEnable = 1 then sat (x - s.meas.vb) else x
      let armV := sat ((raw.armV.toNat : Int) - s.prm.armVPed)
      let fieldI := sat ((raw.fieldI.toNat : Int) - s.prm.fieldIPed)
      Completes (.regulationIntervalExpiry raw) s fun t =>
        t.meas.regTimer = some s.now
        ∧ t.meas.master = sat ((raw.master.toNat : Int) - s.prm.msCentre)
        ∧ t.meas.armV = armV
        ∧ t.meas.current = max (-2500) (min 2500 ((armI * s.prm.iScale).tdiv 1024))
        ∧ t.meas.voltageSpeed = max (-1500) (min 1500 ((armV * s.prm.vScale).tdiv 1024))
        ∧ t.meas.fieldCurrent = max (-2500) (min 2500 ((fieldI * s.prm.fScale).tdiv 1024))
        ∧ t.meas.tension = tensionAt s.prm.tensionTable t.meas.current)
  ∧ (∀ (s : State) (raw : Analog) (a : Time),
      s.loaded = true →
      s.meas.regTimer = some a →
      s.prm.regInterval ≤ s.since a →
      s.is .walk = true →
      Completes (.regulationIntervalExpiry raw) s fun t =>
      t.meas.regTimer = some s.now ∧ t.meas.master = s.meas.master
      ∧ t.meas.current = s.meas.current ∧ t.meas.tension = s.meas.tension ∧ t.meas.vb = s.meas.vb
      ∧ t.meas.angleA = s.meas.turnA * 3600 / s.prm.countsPerTurn
      ∧ t.meas.angleB = s.meas.turnB * 3600 / s.prm.countsPerTurn)
  ∧ (∀ (s : State) (raw : Analog) (a : Time),
      s.loaded = true →
      s.meas.regTimer = some a →
      s.prm.regInterval ≤ s.since a →
      s.is .hoist = true ∨ s.is .drag = true →
      Completes (.regulationIntervalExpiry raw) s fun t =>
      (t.meas.payout : Int) = max 0 (min 65535
        ((s.prm.homePayout : Int) + (s.meas.payCount.toInt * 100).tdiv s.prm.countsPerM))
      ∧ t.meas.payCount = s.meas.payCount ∧ t.meas.angleA = s.meas.angleA
      ∧ t.meas.speedB =
          match s.meas.timerB.held with
          | none => 0
          | some h =>
            if s.meas.timerB.count = 65535 then 0
            else
              (if s.meas.timerB.forward then 1 else -1)
                * (min 1500 (s.prm.speedK / max h s.meas.timerB.count) : Nat))

/-- At an expiry in HOLD or RUN, from the measured values of the expiry. The command is that of R86
on a lead or solo and of R87 on a follow. The target, while the station stays in RUN, is the
command within the limits in force: zone (R89) and solo limit (R104) on a hoist, with the
stale-hoist limit (R112) on a drag in normal supply, the sector (R119, R120) on a swing lead or
solo in FREE and 0 in its other states, none on a swing follow; in HOLD it is 0. The reference
moves by the ramp step of R90 and R91, at HOLD_DEC_RATE in HOLD and WITHDRAWING, and folds by
R92 and R93 with the boom excess of R111; trim and duty are those of R94 and R95. A set brake is
released exactly in RUN with a target or reference other than 0 and the permission of R97; a
swing follow has its lead's brake flag. A drag out of normal supply keeps its brake set and has
the target of R129, unless LOCAL_TRIP comes with the expiry. RUN is left only with LOCAL_TRIP
present; a TACH_FAULT of the same expiry comes before the step, which is then one in HOLD
(assumption log entry 40). Besides: in HOLD the reference keeps its sign and does not grow; with
LIMIT high no target is positive; a ramp move reaches no further than a step and never past its
goal; foldback moves only toward 0; a duty never opposes its reference. -/
def Obligations.RegulatorStep : Prop :=
  (∀ (s : State) (raw : Analog) (a : Time),
      s.loaded = true →
      s.meas.regTimer = some a →
      s.prm.regInterval ≤ s.since a →
      s.ctl.mode = .hold →
      s.is .hoist = true ∨ (s.is .drag = true ∧ s.role.supply = .normal)
      ∨ (s.is .swing = true ∧ s.follows = false) →
      Completes (.regulationIntervalExpiry raw) s fun t =>
      t.drive.target = 0
      ∧ t.drive.reference.natAbs ≤ s.drive.reference.natAbs
      ∧ (0 ≤ s.drive.reference → 0 ≤ t.drive.reference)
      ∧ (s.drive.reference ≤ 0 → t.drive.reference ≤ 0)
      ∧ (s.out.brakeSet = true → t.out.brakeSet = true))
  ∧ (∀ (s : State) (raw : Analog) (a : Time),
      s.loaded = true →
      s.meas.regTimer = some a →
      s.prm.regInterval ≤ s.since a →
      s.ctl.mode = .run →
      s.is .hoist = true ∨ (s.is .drag = true ∧ s.role.supply = .normal) →
      s.meas.limit.value = true →
      Completes (.regulationIntervalExpiry raw) s fun t => t.drive.target ≤ 0)
  ∧ (∀ (r : Int) (goal : Int) (acc : Nat) (dec : Nat),
      let x := rampMove r goal acc dec
      (x - r).natAbs ≤ max acc dec
        ∧ (r ≤ goal → r ≤ x ∧ x ≤ goal) ∧ (goal ≤ r → goal ≤ x ∧ x ≤ r))
  ∧ (∀ (s : State) (r : Int) (eb : Int),
      0 ≤ eb →
      let x := s.folded r eb
      x.natAbs ≤ r.natAbs ∧ (0 ≤ r → 0 ≤ x) ∧ (r ≤ 0 → x ≤ 0))
  ∧ (∀ (r : Int) (trim : Int),
      let x := dutyOf r trim
      x.natAbs ≤ 1000 ∧ (0 < r → 0 ≤ x) ∧ (r < 0 → x ≤ 0))
  ∧ (∀ (s : State) (raw : Analog) (a : Time),
      s.loaded = true →
      s.meas.regTimer = some a →
      s.prm.regInterval ≤ s.since a →
      s.ctl.mode = .hold ∨ s.ctl.mode = .run →
      s.is .hoist = true →
      s.role.supply = .normal →
      s.alarmInUse = true →
      s.RunIsFree →
      s.hasCause .localTrip = !s.alarm.tripsNormal →
      Completes (.regulationIntervalExpiry raw) s fun t =>
      let c := s.commandAt t.meas.master
      let runs := s.stepsInRun t
      let zone := s.zoneAt s.prm.pSlow s.prm.pStop t.meas.payout
      let target : Int := if runs then max (-(s.pairLimit : Int)) (min (min zone s.pairLimit : Nat) c) else 0
      t.drive.command = c ∧ t.drive.target = (if t.ctl.mode = .run then target else 0)
      ∧ s.Stepped t runs target (if runs then s.prm.decRate else s.prm.holdDecRate) 0
      ∧ (s.out.brakeSet = true →
          t.out.brakeSet = !(runs
            && (target != 0 || t.drive.reference != 0)))
      ∧ (s.ctl.mode = .run → t.ctl.mode ≠ .run → t.hasCause .localTrip = true))
  ∧ (∀ (s : State) (raw : Analog) (a : Time),
      s.loaded = true →
      s.meas.regTimer = some a →
      s.prm.regInterval ≤ s.since a →
      s.ctl.mode = .hold ∨ s.ctl.mode = .run →
      s.is .drag = true →
      s.role.supply = .normal →
      s.alarmInUse = true →
      s.RunIsFree →
      s.hasCause .localTrip = !s.alarm.tripsNormal →
      Completes (.regulationIntervalExpiry raw) s fun t =>
      let c := s.commandAt t.meas.master
      let runs := s.stepsInRun t
      let zone := s.zoneAt s.prm.dSlow s.prm.dStop t.meas.payout
      let stale : Prop := ∃ n ∈ s.rosterOf .hoist, (s.entry n).status = .stale
      let forward := if stale then min zone s.prm.staleCreep else zone
      let target : Int := if runs then max (-(s.pairLimit : Int)) (min (min forward s.pairLimit : Nat) c) else 0
      t.drive.command = c ∧ t.drive.target = (if t.ctl.mode = .run then target else 0)
      ∧ s.Stepped t runs target (if runs then s.prm.decRate else s.prm.holdDecRate) t.role.boomExcess
      ∧ (s.out.brakeSet = true →
          t.out.brakeSet = !(runs
            && (target != 0 || t.drive.reference != 0)))
      ∧ t.role.boomExcess = t.excessAt
      ∧ (s.ctl.mode = .run → t.ctl.mode ≠ .run → t.hasCause .localTrip = true))
  ∧ (∀ (s : State) (raw : Analog) (a : Time),
      s.loaded = true →
      s.meas.regTimer = some a →
      s.prm.regInterval ≤ s.since a →
      s.ctl.mode = .hold ∨ s.ctl.mode = .run →
      s.is .drag = true →
      s.role.supply ≠ .normal →
      s.alarmInUse = true →
      s.RunIsFree →
      s.hasCause .localTrip = !s.alarm.tripsNormal →
      Completes (.regulationIntervalExpiry raw) s fun t =>
      let target := if s.role.supply = .walkSupply then s.servedReference else 0
      t.drive.command = s.commandAt t.meas.master
      ∧ (s.hasCause .localTrip = true ∨ t.hasCause .localTrip = false →
          t.drive.target = target ∧ s.Stepped t false target s.prm.decRate 0)
      ∧ t.role.boomExcess = 0 ∧ (s.out.brakeSet = true → t.out.brakeSet = true)
      ∧ (s.ctl.mode = .run → t.ctl.mode ≠ .run → t.hasCause .localTrip = true))
  ∧ (∀ (s : State) (raw : Analog) (a : Time),
      s.loaded = true →
      s.meas.regTimer = some a →
      s.prm.regInterval ≤ s.since a →
      s.ctl.mode = .hold ∨ s.ctl.mode = .run →
      s.swingLead = true →
      s.role.supply = .normal →
      s.alarmInUse = true →
      s.RunIsFree →
      s.hasCause .localTrip = !s.alarm.tripsNormal →
      Completes (.regulationIntervalExpiry raw) s fun t =>
      let c := s.commandAt t.meas.master
      let runs := s.stepsInRun t
      let v := t.meas.speedB
      let sector := s.prm.sectorEnable == 1 && s.prm.sLo != s.prm.sHi && s.role.swing == .free
      let near := sector && s.meas.homedA && reachForward s.prm t.meas.angleA v
      let back := sector && s.meas.homedA && reachReverse s.prm t.meas.angleA v
      let held := sector && s.meas.homedA && s.role.heldForward
      let heldBack := sector && s.meas.homedA && s.role.heldReverse
      let wide := if sector && !s.meas.homedA then min s.pairLimit s.prm.creep else s.pairLimit
      let forward := if near || held then 0 else wide
      let reverse := if back || heldBack then 0 else wide
      let target : Int := if runs then if s.role.swing ≠ .free then 0
        else max (-(reverse : Int)) (min (forward : Int) c) else 0
      t.drive.command = c ∧ t.drive.target = (if t.ctl.mode = .run then target else 0)
      ∧ s.Stepped t runs target 
          (if runs = false ∨ s.role.swing = .withdrawing then s.prm.holdDecRate else s.prm.decRate) 0
      ∧ (s.out.brakeSet = true →
          t.out.brakeSet = !(runs
            && (s.consent.own.status == .active || s.consent.own.status == .withdrawing)
            && (target != 0 || t.drive.reference != 0)))
      ∧ (s.ctl.mode = .run → t.ctl.mode ≠ .run → t.hasCause .localTrip = true))
  ∧ (∀ (s : State) (raw : Analog) (a : Time) (n : Station),
      s.loaded = true →
      s.meas.regTimer = some a →
      s.prm.regInterval ≤ s.since a →
      s.ctl.mode = .hold ∨ s.ctl.mode = .run →
      s.is .swing = true →
      s.follows = true →
      s.role.supply = .normal →
      s.leadStation = some n →
      s.alarmInUse = true →
      s.RunIsFree →
      s.hasCause .localTrip = !s.alarm.tripsNormal →
      Completes (.regulationIntervalExpiry raw) s fun t =>
      let c := s.commandAt t.meas.master
      let runs := s.stepsInRun t
      let target : Int := if runs then c else 0
      t.drive.command = c ∧ t.drive.target = (if t.ctl.mode = .run then target else 0)
      ∧ s.Stepped t runs target (if runs then s.prm.decRate else s.prm.holdDecRate) 0
      ∧ t.out.brakeSet = ((s.entry n).status == .absent || (s.entry n).fields.brakeSet)
      ∧ (s.ctl.mode = .run → t.ctl.mode ≠ .run → t.hasCause .localTrip = true))

/-- With the code's own check not raised and its time run, each command raises its code with the
value the manual gives, marks the check raised, stops the time, and leaves LOCAL_TRIP present
and the mode not RUN: TACH_FAULT after 200 ms with motor speed less voltage speed, on a hoist or
a drag in normal supply, BRAKE_FAULT after 300 ms with 1 for a set and 2 for a released output,
FIELD_LOSS after 100 ms with the field current, BOOM_OVERLOAD after 500 ms on a hoist lead or
solo with the load, at most 32 767. Where the speeds are not compared, on a swing or walk
station or a drag whose supply is not NORMAL, TACH_EXCESS_EXPIRY and TACH_RECOVERY_EXPIRY change
nothing. -/
def Obligations.PersistenceRaises : Prop :=
  (∀ (s : State),
      s.loaded = true →
      s.is .hoist = true ∨ (s.is .drag = true ∧ s.role.supply = .normal) →
      s.meas.tachRaised = false →
      s.ran s.meas.tachExcess 200 = true →
      s.alarmInUse = true →
      s.RunIsFree →
      s.hasCause .localTrip = !s.alarm.tripsNormal →
      Completes .tachExcessExpiry s fun t =>
      Raised s t .tachFault (s.meas.speedB - s.meas.voltageSpeed) ∧ t.tripped
      ∧ t.meas = { s.meas with tachRaised := true, tachExcess := none }
      ∧ t.peers = s.peers ∧ t.heat = s.heat)
  ∧ (∀ (s : State),
      s.loaded = true →
      s.drive.brakeFaultRaised = false →
      s.ran s.drive.disagreeTime 300 = true →
      s.alarmInUse = true →
      s.RunIsFree →
      s.hasCause .localTrip = !s.alarm.tripsNormal →
      Completes .brakeDisagreeExpiry s fun t =>
      Raised s t .brakeFault (if s.out.brakeSet then 1 else 2) ∧ t.tripped
      ∧ t.drive.brakeFaultRaised = true ∧ t.drive.disagreeTime = none
      ∧ t.meas = s.meas ∧ t.peers = s.peers ∧ t.heat = s.heat)
  ∧ (∀ (s : State),
      s.loaded = true →
      s.drive.fieldLossRaised = false →
      s.ran s.drive.lossTime 100 = true →
      s.alarmInUse = true →
      s.RunIsFree →
      s.hasCause .localTrip = !s.alarm.tripsNormal →
      Completes .fieldLossTimeExpiry s fun t =>
      Raised s t .fieldLoss s.meas.fieldCurrent ∧ t.tripped
      ∧ t.drive.fieldLossRaised = true ∧ t.drive.lossTime = none
      ∧ t.meas = s.meas ∧ t.peers = s.peers ∧ t.heat = s.heat)
  ∧ (∀ (s : State),
      s.loaded = true →
      s.is .hoist = true →
      s.leads = true →
      s.role.overloadRaised = false →
      s.ran s.role.overloadTime 500 = true →
      s.alarmInUse = true →
      s.RunIsFree →
      s.hasCause .localTrip = !s.alarm.tripsNormal →
      Completes .boomOverloadTimeExpiry s fun t =>
      Raised s t .boomOverload (min s.boomLoad 32767 : Nat) ∧ t.tripped
      ∧ t.role.overloadRaised = true ∧ t.role.overloadTime = none
      ∧ t.meas = s.meas ∧ t.peers = s.peers ∧ t.heat = s.heat)
  ∧ (∀ (s : State),
      s.is .hoist = false →
      s.is .drag = false ∨ s.role.supply ≠ .normal →
      exec .tachExcessExpiry s = .next s ∧ exec .tachRecoveryExpiry s = .next s)

/-- With its check raised and the clearing time run, each command takes its code through the return,
clears the raised flag, stops the time, moves no other code, and sends and arms nothing:
TACH_RECOVERY after 200 ms on a hoist or a drag in normal supply, BRAKE_AGREE after 300 ms,
FIELD_LOSS_CLEAR after 100 ms, OVERCURRENT_CLEAR after 100 ms for FIELD_OVERCURRENT or
ARMATURE_OVERVOLTAGE. -/
def Obligations.PersistenceReturns : Prop :=
  (∀ (s : State),
      s.loaded = true →
      s.alarmInUse = true →
      s.is .hoist = true ∨ (s.is .drag = true ∧ s.role.supply = .normal) →
      s.meas.tachRaised = true →
      s.ran s.meas.tachRecovery 200 = true →
      Completes .tachRecoveryExpiry s fun t =>
      t.ann .tachFault = (s.ann .tachFault).afterReturn
      ∧ (∀ c : AlarmCode, c ≠ .tachFault → t.ann c = s.ann c)
      ∧ t.meas = { s.meas with tachRaised := false, tachRecovery := none } ∧ t.drive = s.drive
      ∧ t.link = s.link ∧ t.capture = s.capture ∧ t.peers = s.peers
      ∧ t.consent = s.consent ∧ t.heat = s.heat ∧ t.walk = s.walk)
  ∧ (∀ (s : State),
      s.loaded = true →
      s.alarmInUse = true →
      s.drive.brakeFaultRaised = true →
      s.ran s.drive.agreeTime 300 = true →
      Completes .brakeAgreeExpiry s fun t =>
      t.ann .brakeFault = (s.ann .brakeFault).afterReturn
      ∧ (∀ c : AlarmCode, c ≠ .brakeFault → t.ann c = s.ann c)
      ∧ t.drive = { s.drive with brakeFaultRaised := false, agreeTime := none } ∧ t.meas = s.meas
      ∧ t.link = s.link ∧ t.capture = s.capture ∧ t.peers = s.peers
      ∧ t.consent = s.consent ∧ t.heat = s.heat ∧ t.walk = s.walk)
  ∧ (∀ (s : State),
      s.loaded = true →
      s.alarmInUse = true →
      s.drive.fieldLossRaised = true →
      s.ran s.drive.lossClear 100 = true →
      Completes .fieldLossClearExpiry s fun t =>
      t.ann .fieldLoss = (s.ann .fieldLoss).afterReturn
      ∧ (∀ c : AlarmCode, c ≠ .fieldLoss → t.ann c = s.ann c)
      ∧ t.drive = { s.drive with fieldLossRaised := false, lossClear := none } ∧ t.meas = s.meas
      ∧ t.link = s.link ∧ t.capture = s.capture ∧ t.peers = s.peers
      ∧ t.consent = s.consent ∧ t.heat = s.heat ∧ t.walk = s.walk)
  ∧ (∀ (s : State),
      s.loaded = true →
      s.alarmInUse = true →
      s.drive.overcurrentRaised = true →
      s.ran s.drive.overcurrentClear 100 = true →
      Completes (.overcurrentClearExpiry .fieldOvercurrent) s fun t =>
      t.ann .fieldOvercurrent = (s.ann .fieldOvercurrent).afterReturn
      ∧ (∀ c : AlarmCode, c ≠ .fieldOvercurrent → t.ann c = s.ann c)
      ∧ t.drive = { s.drive with overcurrentRaised := false, overcurrentClear := none } ∧ t.meas = s.meas
      ∧ t.link = s.link ∧ t.capture = s.capture ∧ t.peers = s.peers
      ∧ t.consent = s.consent ∧ t.heat = s.heat ∧ t.walk = s.walk)
  ∧ (∀ (s : State),
      s.loaded = true →
      s.alarmInUse = true →
      s.drive.overvoltageRaised = true →
      s.ran s.drive.overvoltageClear 100 = true →
      Completes (.overcurrentClearExpiry .armatureOvervoltage) s fun t =>
      t.ann .armatureOvervoltage = (s.ann .armatureOvervoltage).afterReturn
      ∧ (∀ c : AlarmCode, c ≠ .armatureOvervoltage → t.ann c = s.ann c)
      ∧ t.drive = { s.drive with overvoltageRaised := false, overvoltageClear := none } ∧ t.meas = s.meas
      ∧ t.link = s.link ∧ t.capture = s.capture ∧ t.peers = s.peers
      ∧ t.consent = s.consent ∧ t.heat = s.heat ∧ t.walk = s.walk)

/-- BRAKE_SET_TIME_EXPIRY in HOLD or RUN on a station that is no swing follow, the brake released
and the set time run BRAKE_SET_DELAY: the brake is set, the set time stopped, and nothing else
changes. SWING_REST_EXPIRY of a swing lead or solo in FREE whose rest time has run
SWING_SET_DELAY: the brake is set, both times stopped, the swing LOCKED with no held mark, an
ACTIVE proposal NONE with its number and kind kept, and duty and reference as they were. At an
expiry, of a swing lead or solo: in LOCKED, in RUN with a command other than 0 after one of 0,
and if the station is still in RUN after it (a TRIP of the same expiry asks nothing, assumption
log entry 40), a SWING_RELEASE is asked for: with no own and no held proposal PROPOSING, PENDING
and the PROPOSE queued, SWING_WITHDRAWN returned; with a lower station's proposal held the state
is LOCKED again and CONSENT_REFUSED raised; with a higher one held an OBJECT goes out beside the
PROPOSE. Otherwise nothing is asked. With the supply state NORMAL, as on every swing station: in
WITHDRAWING the first step at rest with a reference of 0 sets the brake, locks, raises
SWING_WITHDRAWN with objector and reason and ends the proposal. In FREE the rest time runs while
command and reference are 0 at rest, and locks after SWING_SET_DELAY. -/
def Obligations.BrakeAndSwingRest : Prop :=
  (∀ (s : State),
      s.ctl.mode = .hold ∨ s.ctl.mode = .run →
      s.is .hoist = true ∨ s.is .drag = true ∨ (s.is .swing = true ∧ s.follows = false) →
      s.out.brakeSet = false →
      s.ran s.drive.setTime s.prm.brakeSetDelay = true →
      Completes .brakeSetTimeExpiry s fun t =>
      t = { s with
        out := { s.out with brakeSet := true }, drive := { s.drive with setTime := none } })
  ∧ (∀ (s : State),
      s.ctl.mode = .hold ∨ s.ctl.mode = .run →
      s.swingLead = true →
      s.role.swing = .free →
      s.consent.own.status = .active →
      s.ran s.role.restTime s.prm.swingSetDelay = true →
      Completes .swingRestExpiry s fun t =>
      t.out.brakeSet = true ∧ t.role.swing = .locked ∧ t.role.restTime = none
      ∧ t.role.heldForward = false ∧ t.role.heldReverse = false
      ∧ t.drive = { s.drive with setTime := none } ∧ t.out.fieldPwm = s.out.fieldPwm
      ∧ t.consent = { s.consent with own := { s.consent.own with status := .idle } }
      ∧ t.peers = s.peers ∧ t.meas = s.meas ∧ t.link = s.link)
  ∧ (∀ (s : State) (raw : Analog) (a : Time),
      s.loaded = true →
      s.meas.regTimer = some a →
      s.prm.regInterval ≤ s.since a →
      s.ctl.mode = .run →
      s.swingLead = true →
      s.role.swing = .locked →
      s.consent.own.status = .idle →
      s.consent.held = none →
      s.hasRoom 3 →
      Completes (.regulationIntervalExpiry raw) s fun t =>
      let asks := t.drive.command ≠ 0 ∧ s.role.prevCommand = 0
      t.role.prevCommand = t.drive.command ∧ t.consent.held = none
      ∧ (asks → t.ctl.mode = .run →
        t.role.swing = .proposing
        ∧ t.consent.own = { s.consent.own with
            number := nextNumber s.consent.own.number, kind := some .swingRelease, status := .pending
            queueTime := s.now, objected := none, windowStart := none
            echoSeen := Vector.replicate 8 false, sendLimit := some s.now }
        ∧ t.queued (.propose (nextNumber s.consent.own.number) .swingRelease)
        ∧ (s.raises .swingWithdrawn →
            t.ann .swingWithdrawn = (s.ann .swingWithdrawn).afterReturn))
      ∧ (¬asks → t.role.swing = .locked ∧ t.consent.own = s.consent.own)
      ∧ (s.ctl.causes.isEmpty = true → s.alarm.tripsNormal = true → t.ctl.mode ≠ .run →
        t.alarm.tripsNormal = false))
  ∧ (∀ (s : State) (raw : Analog) (a : Time),
      s.loaded = true →
      s.meas.regTimer = some a →
      s.prm.regInterval ≤ s.since a →
      s.swingLead = true →
      s.role.swing = .locked →
      s.ctl.mode ≠ .run ∨ s.consent.own.status ≠ .idle →
      Completes (.regulationIntervalExpiry raw) s fun t =>
      t.role.swing = .locked ∧ t.consent = s.consent)
  ∧ (∀ (s : State) (raw : Analog) (a : Time) (h : HeldRecord) (me : Station),
      s.loaded = true →
      s.meas.regTimer = some a →
      s.prm.regInterval ≤ s.since a →
      s.ctl.mode = .run →
      s.swingLead = true →
      s.role.swing = .locked →
      s.consent.own.status = .idle →
      s.consent.held = some h →
      s.self = some me →
      s.hasRoom 4 →
      s.role.prevCommand = 0 →
      Completes (.regulationIntervalExpiry raw) s fun t =>
      t.drive.command ≠ 0 → t.ctl.mode = .run →
        t.consent.own.number = nextNumber s.consent.own.number
        ∧ (h.proposer < me →
          t.role.swing = .locked ∧ t.consent.own.status = .idle ∧ t.consent.held = some h
          ∧ (s.raises .consentRefused →
              RaisedAmong s t .consentRefused (6000 + 10 * (stationNumber h.proposer : Int))))
        ∧ (¬h.proposer < me →
          t.role.swing = .proposing ∧ t.consent.own.status = .pending ∧ t.consent.held = none
          ∧ t.queued (.object h.proposer h.number .contending)
          ∧ t.queued (.propose (nextNumber s.consent.own.number) .swingRelease)))
  ∧ (∀ (s : State) (raw : Analog) (a : Time),
      s.loaded = true →
      s.meas.regTimer = some a →
      s.prm.regInterval ≤ s.since a →
      s.ctl.mode = .hold ∨ s.ctl.mode = .run →
      s.swingLead = true →
      s.role.swing = .withdrawing →
      s.role.supply = .normal →
      s.consent.own.status = .withdrawing →
      s.alarmInUse = true →
      Completes (.regulationIntervalExpiry raw) s fun t =>
      let still : Prop := t.drive.reference = 0 ∧ t.meas.speedB.natAbs ≤ s.prm.zeroBand
      t.role.swing = (if still then .locked else .withdrawing)
      ∧ t.consent.own =
          { s.consent.own with status := if still then .idle else .withdrawing }
      ∧ (still → t.out.brakeSet = true ∧ t.drive.setTime = none)
      ∧ (∀ x ∈ s.role.withdrawnBy, still → s.masked .swingWithdrawn = false →
          RaisedAmong s t .swingWithdrawn (10 * (stationNumber x.1 : Int) + x.2.code)))
  ∧ (∀ (s : State) (raw : Analog) (a : Time),
      s.loaded = true →
      s.meas.regTimer = some a →
      s.prm.regInterval ≤ s.since a →
      s.ctl.mode = .hold ∨ s.ctl.mode = .run →
      s.swingLead = true →
      s.role.swing = .free →
      s.role.supply = .normal →
      s.consent.own.status = .active →
      Completes (.regulationIntervalExpiry raw) s fun t =>
      let still : Prop := t.drive.command = 0 ∧ t.drive.reference = 0
        ∧ t.meas.speedB.natAbs ≤ s.prm.zeroBand
      let ends : Prop := still ∧ s.prm.swingSetDelay ≤ s.since (s.role.restTime.getD s.now)
      t.role.swing = (if ends then .locked else .free)
      ∧ t.consent.own = { s.consent.own with status := if ends then .idle else .active }
      ∧ t.role.restTime = (if still ∧ ¬ends then some (s.role.restTime.getD s.now) else none)
      ∧ (ends → t.out.brakeSet = true ∧ t.drive.setTime = none))

/-- On a loaded drag, CONTACTOR_FB_RISE: TRANSFERRING becomes WALK_SUPPLY with the transfer limit
stopped; in NORMAL the closed-feedback limit starts; in WALK_SUPPLY and RETURNING, and on every
other station, only the input changes. CONTACTOR_FB_FALL: in WALK_SUPPLY, TRANSFER_FAIL is
raised with value 3, reference and duty are 0, the output opens, LOCAL_TRIP is present, and with
the feedback low the supply is NORMAL at once and the code already returned (the order is the
model's reading, assumption log entry 13), unless a rise waits in the same millisecond (entry
34), which leaves it RETURNING; in RETURNING with the output open the supply is NORMAL and the
return limit stopped; in NORMAL the closed-feedback limit stops; else only the input changes. At
an expiry in HOLD or RUN: in NORMAL a drag begins its transfer exactly if the walk entry is
FRESH in TRANSFER, HALTED or FORCED, its brake is set and its reference 0 after the step,
LOCAL_TRIP is absent and the feedback low, with the output closed and the transfer limit
started; in RETURNING the output opens at the first step that leaves a reference of 0, and the
supply is NORMAL at once, TRANSFER_FAIL returned, where the feedback is low (entry 34), else the
return limit starts. -/
def Obligations.ContactorEdges : Prop :=
  (∀ (s : State),
      s.loaded = true →
      s.is .drag = true →
      s.role.supply = .transferring →
      Completes .contactorFbRise s fun t =>
      t = { s with
        pins := { s.pins with contactorFb := true }
        meas := { s.meas with contactorFb := ⟨true, 0⟩ }
        role := { s.role with supply := .walkSupply, transferLimit := none } })
  ∧ (∀ (s : State),
      s.loaded = true →
      s.is .drag = true →
      s.role.supply = .normal →
      Completes .contactorFbRise s fun t =>
      t = { s with
        pins := { s.pins with contactorFb := true }
        meas := { s.meas with contactorFb := ⟨true, 0⟩ }
        role := { s.role with closedLimit := some s.now } })
  ∧ (∀ (s : State),
      s.loaded = false ∨ s.is .drag = false ∨ s.role.supply = .walkSupply
      ∨ s.role.supply = .returning →
      Completes .contactorFbRise s fun t =>
      t = { s with
        pins := { s.pins with contactorFb := true }
        meas := { s.meas with contactorFb := ⟨true, 0⟩ } })
  ∧ (∀ (s : State),
      s.loaded = true →
      s.is .drag = true →
      s.role.supply = .walkSupply →
      s.alarmInUse = true →
      s.RunIsFree →
      s.hasCause .localTrip = !s.alarm.tripsNormal →
      let rises : Prop := Instr.contactorFbRise ∈ s.pending
      Completes .contactorFbFall s fun t =>
        t.role.supply = (if rises then .returning else .normal)
        ∧ t.role.returnLimit = (if rises then some s.now else none) ∧ t.out.transferClosed = false
        ∧ t.drive.reference = 0 ∧ t.drive.duty = 0 ∧ t.out.fieldPwm = 0
        ∧ t.ann .transferFail = (if rises then .activeUnack else .returnedUnack) ∧ t.tripped
        ∧ ⟨s.alarm.nextSeq, s.now, .transferFail, .raised, 3, s.sourceNumber⟩ ∈ t.alarm.list
        ∧ t.peers = s.peers ∧ t.heat = s.heat)
  ∧ (∀ (s : State),
      s.loaded = false ∨ s.is .drag = false ∨ s.role.supply = .transferring
      ∨ (s.role.supply = .returning ∧ s.out.transferClosed = true) →
      Completes .contactorFbFall s fun t =>
      t = { s with
        pins := { s.pins with contactorFb := false }
        meas := { s.meas with contactorFb := ⟨false, 0⟩ } })
  ∧ (∀ (s : State),
      s.loaded = true →
      s.is .drag = true →
      s.role.supply = .returning →
      s.out.transferClosed = false →
      s.alarmInUse = true →
      Completes .contactorFbFall s fun t =>
      t.role = { s.role with supply := .normal, transferLimit := none, returnLimit := none }
      ∧ t.ann .transferFail = (s.ann .transferFail).afterReturn
      ∧ (∀ c : AlarmCode, c ≠ .transferFail → t.ann c = s.ann c)
      ∧ t.drive = s.drive ∧ t.link = s.link)
  ∧ (∀ (s : State),
      s.loaded = true →
      s.is .drag = true →
      s.role.supply = .normal →
      Completes .contactorFbFall s fun t =>
      t.role = { s.role with closedLimit := none, closedFailed := false }
      ∧ (s.role.closedFailed = true → s.alarmInUse = true →
          t.ann .transferFail = (s.ann .transferFail).afterReturn)
      ∧ (s.role.closedFailed = false → t.alarm = s.alarm))
  ∧ (∀ (s : State) (raw : Analog) (a : Time) (n : Station),
      s.loaded = true →
      s.meas.regTimer = some a →
      s.prm.regInterval ≤ s.since a →
      s.ctl.mode = .hold ∨ s.ctl.mode = .run →
      s.is .drag = true →
      s.role.supply = .normal →
      s.walkStation = some n →
      s.alarmInUse = true →
      s.hasCause .localTrip = !s.alarm.tripsNormal →
      Completes (.regulationIntervalExpiry raw) s fun t =>
      let asked := (s.entry n).status == .fresh
        && [2, 5, 6].contains ((s.entry n).fields.phase.toNat % 8)
      let starts := asked && t.out.brakeSet && t.drive.reference == 0 && !s.meas.contactorFb.value
      (t.hasCause .localTrip = false →
        t.role.supply = (if starts then .transferring else .normal)
        ∧ t.out.transferClosed = (if starts then true else s.out.transferClosed)
        ∧ t.role.transferLimit = (if starts then some s.now else s.role.transferLimit))
      ∧ (t.hasCause .localTrip = true → t.role.supply ≠ .transferring))
  ∧ (∀ (s : State) (raw : Analog) (a : Time),
      s.loaded = true →
      s.meas.regTimer = some a →
      s.prm.regInterval ≤ s.since a →
      s.ctl.mode = .hold ∨ s.ctl.mode = .run →
      s.is .drag = true →
      s.role.supply = .returning →
      s.out.transferClosed = true →
      s.alarmInUse = true →
      Completes (.regulationIntervalExpiry raw) s fun t =>
      let still : Prop := t.drive.reference = 0
      let low : Prop := s.meas.contactorFb.value = false ∧ Instr.contactorFbRise ∉ s.pending
      t.out.transferClosed = (if still then false else true)
      ∧ t.role.supply = (if still ∧ low then .normal else .returning)
      ∧ t.role.returnLimit = (if still then (if low then none else some s.now) else s.role.returnLimit)
      ∧ t.ann .transferFail =
          (if still ∧ low then (s.ann .transferFail).afterReturn else s.ann .transferFail))

/-- On a loaded drag with the limit run 500 ms: in TRANSFERRING the code is raised with 1, reference
and duty are 0, the output opens, and the supply is RETURNING with its return limit started, or
NORMAL with the code already returned where the feedback is low; a rise of it that waits in the
same millisecond finds the drag RETURNING. That the raise comes before the end of the supply, so
that the code is already returned, is the model's reading (assumption log entry 13), and so is
what a waiting rise does to the feedback (entry 34). In RETURNING it is raised with 2 and the
drag stays there, the limit stopped. In NORMAL it is raised with 4 and the limit stopped. In
each LOCAL_TRIP is present and the mode is not RUN. -/
def Obligations.SupplyLimits : Prop :=
  (∀ (s : State),
      s.loaded = true →
      s.is .drag = true →
      s.role.supply = .transferring →
      s.ran s.role.transferLimit 500 = true →
      s.alarmInUse = true →
      s.RunIsFree →
      s.hasCause .localTrip = !s.alarm.tripsNormal →
      Completes .transferLimitExpiry s fun t =>
      t.role.supply = (if s.meas.contactorFb.value ∨ Instr.contactorFbRise ∈ s.pending then .returning else .normal)
      ∧ t.role.returnLimit = (if s.meas.contactorFb.value ∨ Instr.contactorFbRise ∈ s.pending then some s.now else none)
      ∧ t.role.transferLimit = none ∧ t.out.transferClosed = false
      ∧ t.drive.reference = 0 ∧ t.drive.duty = 0 ∧ t.out.fieldPwm = 0
      ∧ t.ann .transferFail =
          (if s.meas.contactorFb.value ∨ Instr.contactorFbRise ∈ s.pending then .activeUnack else .returnedUnack)
      ∧ t.tripped ∧ t.meas = s.meas
      ∧ ⟨s.alarm.nextSeq, s.now, .transferFail, .raised, 1, s.sourceNumber⟩ ∈ t.alarm.list)
  ∧ (∀ (s : State),
      s.loaded = true →
      s.is .drag = true →
      s.role.supply = .returning →
      s.ran s.role.returnLimit 500 = true →
      s.alarmInUse = true →
      s.RunIsFree →
      s.hasCause .localTrip = !s.alarm.tripsNormal →
      Completes .returnLimitExpiry s fun t =>
      Raised s t .transferFail 2 ∧ t.tripped
      ∧ t.role = { s.role with returnLimit := none }
      ∧ t.out.transferClosed = s.out.transferClosed ∧ t.meas = s.meas)
  ∧ (∀ (s : State),
      s.loaded = true →
      s.is .drag = true →
      s.role.supply = .normal →
      s.ran s.role.closedLimit 500 = true →
      s.alarmInUse = true →
      s.RunIsFree →
      s.hasCause .localTrip = !s.alarm.tripsNormal →
      Completes .closedFeedbackLimitExpiry s fun t =>
      Raised s t .transferFail 4 ∧ t.tripped
      ∧ t.role = { s.role with closedLimit := none, closedFailed := true }
      ∧ t.out.transferClosed = s.out.transferClosed ∧ t.meas = s.meas)

/-- On the walk station in RUN, WALK_CMD_RISE. From IDLE with a DRAG in the roster, no own and no
held proposal and room in the queue: PROPOSING, a new WALK_START with the next number PENDING,
its PROPOSE queued and the send limit started, WALK_ABORTED returned. From HALTED with every
roster DRAG FRESH in WALK_SUPPLY: STEPPING with the cam brake released. From FORCED so and with
no forced cause: HALTED where the tub bears or the region is unknown, else STOPPING in creep
with the brake released. A condition unmet, IDLE with no DRAG in the roster, another state or
another mode changes only the input. -/
def Obligations.WalkCommanded : Prop :=
  (∀ (s : State),
      s.is .walk = true →
      s.inService = true →
      s.ctl.mode = .run →
      s.walk.state = .idle →
      0 < (s.rosterOf .drag).length →
      s.consent.own.status = .idle →
      s.consent.held = none →
      s.hasRoom 1 →
      s.RunIsFree →
      Completes .walkCmdRise s fun t =>
      t.walk.state = .proposing ∧ t.walk.reference = 0
      ∧ t.consent.own = { s.consent.own with
          number := nextNumber s.consent.own.number, kind := some .walkStart, status := .pending
          queueTime := s.now, objected := none, windowStart := none
          echoSeen := Vector.replicate 8 false, sendLimit := some s.now }
      ∧ t.queued (.propose (nextNumber s.consent.own.number) .walkStart)
      ∧ (s.raises .walkAborted → t.ann .walkAborted = (s.ann .walkAborted).afterReturn)
      ∧ t.ctl = s.ctl ∧ t.drive = s.drive ∧ t.out.brakeSet = s.out.brakeSet)
  ∧ (∀ (s : State),
      s.is .walk = true →
      s.inService = true →
      s.ctl.mode = .run →
      s.walk.state = .halted →
      (∀ n ∈ s.rosterOf .drag, (s.entry n).status = .fresh ∧ (s.entry n).fields.supply = 2) →
      Completes .walkCmdRise s fun t =>
      t.walk.state = .stepping ∧ t.out = { s.out with brakeSet := false }
      ∧ t = { s with
          pins := { s.pins with walkCmd := true }, meas := { s.meas with walkCmd := ⟨true, 0⟩ }
          walk := t.walk, out := t.out })
  ∧ (∀ (s : State),
      s.is .walk = true →
      s.inService = true →
      s.ctl.mode = .run →
      s.walk.state = .forced →
      s.walk.forced.isEmpty = true →
      (∀ n ∈ s.rosterOf .drag, (s.entry n).status = .fresh ∧ (s.entry n).fields.supply = 2) →
      Completes .walkCmdRise s fun t =>
      t.walk.state = (if s.walk.region = some .carry then .stopping else .halted)
      ∧ t.out.brakeSet = (s.walk.region != some .carry)
      ∧ (s.walk.region = some .carry → t.walk.phase = some .creep)
      ∧ t = { s with
          pins := { s.pins with walkCmd := true }, meas := { s.meas with walkCmd := ⟨true, 0⟩ }
          walk := t.walk, out := t.out })
  ∧ (∀ (s : State),
      s.is .walk = false ∨ s.inService = false ∨ s.ctl.mode ≠ .run
      ∨ (s.walk.state = .idle ∧ s.rosterOf .drag = []) ∨ s.walk.state = .proposing ∨ s.walk.state = .transfer
      ∨ s.walk.state = .stepping ∨ s.walk.state = .stopping ∨ s.walk.state = .returning
      ∨ (s.walk.state = .forced ∧ s.walk.forced.isEmpty = false)
      ∨ ((s.walk.state = .halted ∨ s.walk.state = .forced) ∧ ∃ n ∈ s.rosterOf .drag,
          (s.entry n).status ≠ .fresh ∨ (s.entry n).fields.supply ≠ 2) →
      Completes .walkCmdRise s fun t =>
      t = { s with
        pins := { s.pins with walkCmd := true }, meas := { s.meas with walkCmd := ⟨true, 0⟩ } })

/-- On the walk station in HOLD, RUN or configured STOP. WALK_CMD_FALL or WALK_STOP_RISE in
STEPPING: STOPPING, in creep if the region is CARRY and in the ramp phase otherwise, reference
and brake as they were. In TRANSFER: IDLE, the supply limit stopped and an ACTIVE or WITHDRAWING
proposal NONE. In IDLE, PROPOSING, STOPPING, HALTED, FORCED and RETURNING the walk state stays.
WALK_STOP_RISE also starts the hold timer. WALK_STOP_FALL stops it and clears its forced cause;
where that empties the set WALK_FORCED_STOP is returned. At an expiry after the good load:
region and off-home flag of R123, unknown region while a cam is unhomed (R124), and the step
count of R125, which the model limits by R124 (assumption log entry 37). At an expiry in
STEPPING or STOPPING in HOLD or RUN: CAM_SKEW of R133 with the skew as value, mode STOP and
FORCED with the cams stopped; else the walk reference and the cam references of R132, and the
phase change or HALTED of R135 (in the ramp phase CARRY is tested before a reference of 0, log
entry 21). A BRAKE_FAULT that the expiry raises in RUN is a stop request first, and the walk no
longer steps. CAM_SKEW raised is returned at the first expiry with both cams homed and the skew
within SKEW_STOP. In the other walk states the references stay, and no expiry makes a walk step. -/
def Obligations.WalkStops : Prop :=
  (∀ (s : State),
      s.is .walk = true →
      s.inService = true →
      s.walk.state = .stepping →
      Completes .walkCmdFall s fun t =>
      t.walk.state = .stopping
      ∧ t.walk.phase = some (if s.walk.region = some .carry then .creep else .ramp)
      ∧ t.walk.reference = s.walk.reference ∧ t.out.brakeSet = s.out.brakeSet
      ∧ t = { s with
          pins := { s.pins with walkCmd := false }, meas := { s.meas with walkCmd := ⟨false, 0⟩ }
          walk := t.walk })
  ∧ (∀ (s : State),
      s.is .walk = true →
      s.inService = true →
      s.walk.state = .transfer →
      Completes .walkCmdFall s fun t =>
      t.walk.state = .idle ∧ t.walk.supplyLimit = none ∧ t.walk.stopHold = s.walk.stopHold
      ∧ t.walk.forced = s.walk.forced
      ∧ t = { s with
          pins := { s.pins with walkCmd := false }, meas := { s.meas with walkCmd := ⟨false, 0⟩ }
          walk := t.walk
          consent := { s.consent with own := { s.consent.own with
            status := if s.consent.own.status = .active ∨ s.consent.own.status = .withdrawing then .idle
            else s.consent.own.status } } })
  ∧ (∀ (s : State),
      s.is .walk = true →
      s.inService = true →
      s.walk.state = .transfer →
      Completes .walkStopRise s fun t =>
      t.walk.state = .idle ∧ t.walk.supplyLimit = none ∧ t.walk.stopHold = some s.now
      ∧ t.walk.forced = s.walk.forced
      ∧ t = { s with
          pins := { s.pins with walkStop := true }, meas := { s.meas with walkStop := ⟨true, 0⟩ }
          walk := t.walk
          consent := { s.consent with own := { s.consent.own with
            status := if s.consent.own.status = .active ∨ s.consent.own.status = .withdrawing then .idle
            else s.consent.own.status } } })
  ∧ (∀ (s : State),
      s.is .walk = true →
      s.inService = true →
      s.walk.state = .stepping →
      Completes .walkStopRise s fun t =>
      t.walk.state = .stopping
      ∧ t.walk.phase = some (if s.walk.region = some .carry then .creep else .ramp)
      ∧ t.walk.reference = s.walk.reference ∧ t.out.brakeSet = s.out.brakeSet
      ∧ t.walk.stopHold = some s.now
      ∧ t = { s with
          pins := { s.pins with walkStop := true }, meas := { s.meas with walkStop := ⟨true, 0⟩ }
          walk := t.walk })
  ∧ (∀ (s : State),
      s.is .walk = true →
      s.inService = true →
      s.walk.state ≠ .stepping →
      s.walk.state ≠ .transfer →
      Completes .walkStopRise s (fun t =>
        t = { s with
          pins := { s.pins with walkStop := true }, meas := { s.meas with walkStop := ⟨true, 0⟩ }
          walk := { s.walk with stopHold := some s.now } })
      ∧ Completes .walkCmdFall s fun t =>
        t = { s with
          pins := { s.pins with walkCmd := false }
          meas := { s.meas with walkCmd := ⟨false, 0⟩ } })
  ∧ (∀ (s : State),
      s.is .walk = true →
      s.inService = true →
      Completes .walkStopFall s fun t =>
      t.walk.stopHold = none ∧ t.walk.forced.walkStopHold = false
      ∧ t.walk.forced.supply = s.walk.forced.supply ∧ t.walk.forced.stop = s.walk.forced.stop
      ∧ t.walk.state = s.walk.state
      ∧ (s.walk.forced = ⟨true, false, false⟩ → s.alarmInUse = true →
          t.ann .walkForcedStop = (s.ann .walkForcedStop).afterReturn)
      ∧ (s.walk.forced.supply = true ∨ s.walk.forced.stop = true → t.alarm = s.alarm)
      ∧ t.drive = s.drive ∧ t.link = s.link)
  ∧ (∀ (s : State) (raw : Analog) (a : Time),
      s.loaded = true →
      s.meas.regTimer = some a →
      s.prm.regInterval ≤ s.since a →
      s.is .walk = true →
      Completes (.regulationIntervalExpiry raw) s fun t =>
      let x := t.meas.angleA
      let homed := s.meas.homedA && s.meas.homedB
      let first := (s.meas.homedA && !s.walk.prevHomed) || (s.meas.homedB && !s.walk.prevHomedRight)
      let crosses := s.walk.prevHomed && s.meas.homedA && !first
        && decide (s.prm.shoeUp ≤ s.walk.prevAngle) && decide (x < s.prm.shoeDown)
      t.walk.region = (if !homed then none
        else if x < s.prm.shoeDown then some .reach
        else if x < s.prm.liftOff then some .lift
        else if x < s.prm.tubDown then some .carry
        else if x < s.prm.shoeUp then some .settle
        else some .back)
      ∧ t.walk.offHome = (!homed || (decide (s.prm.homeBand < x) && decide (x < 3600 - s.prm.homeBand)))
      ∧ t.walk.stepCount = (if crosses then s.walk.stepCount + 1 else s.walk.stepCount)
      ∧ t.walk.prevAngle = x ∧ t.walk.prevHomed = s.meas.homedA
      ∧ t.walk.prevHomedRight = s.meas.homedB)
  ∧ (∀ (s : State) (raw : Analog) (a : Time),
      s.loaded = true →
      s.meas.regTimer = some a →
      s.prm.regInterval ≤ s.since a →
      s.is .walk = true →
      s.ctl.mode = .hold ∨ s.ctl.mode = .run →
      s.walk.state = .stepping ∨ s.walk.state = .stopping →
      s.ctl.mode = .hold ∨ s.drive.brakeFaultRaised = true
      ∨ s.ran s.drive.disagreeTime 300 = false →
      s.alarmInUse = true →
      Completes (.regulationIntervalExpiry raw) s fun t =>
      let skew := skewOf t.meas.angleA t.meas.angleB
      let ramped := rampedBy s.walk.reference (256 * (s.targetIn t.walk.region : Int))
        (s.prm.stepOf s.prm.walkAcc) (s.prm.stepOf s.prm.walkDec)
      let trim : Int := if s.meas.homedA && s.meas.homedB && decide (2 ≤ (s.rosterOf .drag).length) then
          max (-(s.prm.skewTrimMax : Int)) (min s.prm.skewTrimMax ((skew * s.prm.skewGain).tdiv 100))
        else 0
      if s.skewedAt t = true ∧ s.walk.skewRaised = false then
        RaisedAmong s t .camSkew skew ∧ t.walk.skewRaised = true ∧ t.ctl.mode = .stop
        ∧ t.walk.state = .forced ∧ t.walk.forced = ⟨false, false, true⟩ ∧ t.camsStopped
      else if s.walk.state = .stopping ∧ s.walk.phase = some .ramp ∧ t.walk.region ≠ some .carry
          ∧ ramped = 0 then
        t.walk.state = .halted ∧ t.walk.phase = none ∧ t.camsStopped
      else
        t.walk.state = s.walk.state
        ∧ t.walk.phase =
            (if s.walk.state = .stopping ∧ s.walk.phase ≠ none then
              (if t.walk.region = some .carry then some .creep else some .ramp)
            else s.walk.phase)
        ∧ t.walk.reference = ramped ∧ t.out.brakeSet = s.out.brakeSet
        ∧ (t.walk.left : Int) = max 0 (min 1000 (ramped.tdiv 256 - trim))
        ∧ (t.walk.right : Int) = max 0 (min 1000 (ramped.tdiv 256 + trim)))
  ∧ (∀ (s : State) (raw : Analog) (a : Time),
      s.loaded = true →
      s.meas.regTimer = some a →
      s.prm.regInterval ≤ s.since a →
      s.is .walk = true →
      s.ctl.mode = .run →
      s.walk.state = .stepping →
      s.drive.brakeFaultRaised = false →
      s.out.brakeSet ≠ s.meas.brakeFb.value →
      s.ran s.drive.disagreeTime 300 = true →
      s.alarmInUse = true →
      s.RunIsFree →
      s.hasCause .localTrip = !s.alarm.tripsNormal →
      Completes (.regulationIntervalExpiry raw) s fun t =>
      RaisedAmong s t .brakeFault (if s.out.brakeSet then 1 else 2) ∧ t.tripped
      ∧ (t.walk.state = .stopping ∨ ((t.walk.state = .halted ∨ t.walk.state = .forced) ∧ t.camsStopped)))
  ∧ (∀ (s : State) (raw : Analog) (a : Time),
      s.loaded = true →
      s.meas.regTimer = some a →
      s.prm.regInterval ≤ s.since a →
      s.is .walk = true →
      s.walk.skewRaised = true →
      s.alarmInUse = true →
      Completes (.regulationIntervalExpiry raw) s fun t =>
      let ends := s.meas.homedA && s.meas.homedB
        && decide ((skewOf t.meas.angleA t.meas.angleB).natAbs ≤ s.prm.skewStop)
      t.walk.skewRaised = !ends
      ∧ t.ann .camSkew = (if ends then (s.ann .camSkew).afterReturn else s.ann .camSkew))
  ∧ (∀ (s : State) (raw : Analog) (a : Time),
      s.loaded = true →
      s.meas.regTimer = some a →
      s.prm.regInterval ≤ s.since a →
      s.is .walk = true →
      s.walk.state ≠ .stepping →
      s.walk.state ≠ .stopping →
      Completes (.regulationIntervalExpiry raw) s fun t =>
      t.walk.reference = (if s.walk.state = t.walk.state then s.walk.reference else 0)
      ∧ t.walk.state ≠ .stepping ∧ t.walk.state ≠ .stopping
      ∧ t.out.brakeSet = s.out.brakeSet)

/-- On the walk station. WALK_STOP_HOLD_EXPIRY after 2000 ms in STEPPING or STOPPING: FORCED with
this cause alone, all references 0, the cam brake set, WALK_FORCED_STOP raised with the left cam
angle, LOCAL_TRIP present; in FORCED the cause joins the set; else only the timer stops.
SUPPLY_LIMIT_EXPIRY after 1000 ms in TRANSFER: IDLE, an ACTIVE or WITHDRAWING proposal NONE,
WALK_ABORTED raised with 200 + the lowest roster drag not FRESH in WALK_SUPPLY unless masked.
END_TIME_EXPIRY after WALK_END_DELAY in HALTED: RETURNING, or IDLE with the proposal ended if
every roster DRAG is ABSENT or shows NORMAL; that the command alone ends the walk between two
expiries is the model's choice (assumption log entry 3). -/
def Obligations.WalkTimes : Prop :=
  (∀ (s : State),
      s.is .walk = true →
      s.inService = true →
      s.ran s.walk.stopHold 2000 = true →
      s.walk.state = .stepping ∨ s.walk.state = .stopping →
      s.alarmInUse = true →
      s.RunIsFree →
      s.hasCause .localTrip = !s.alarm.tripsNormal →
      Completes .walkStopHoldExpiry s fun t =>
      t.walk.state = .forced ∧ t.walk.forced = ⟨true, false, false⟩ ∧ t.walk.stopHold = none
      ∧ t.walk.reference = 0 ∧ t.walk.left = 0 ∧ t.walk.right = 0 ∧ t.out.brakeSet = true
      ∧ Raised s t .walkForcedStop s.meas.angleA ∧ t.tripped ∧ t.meas = s.meas
      ∧ t.consent = s.consent ∧ t.peers = s.peers)
  ∧ (∀ (s : State),
      s.is .walk = true →
      s.inService = true →
      s.ran s.walk.stopHold 2000 = true →
      s.walk.state ≠ .stepping →
      s.walk.state ≠ .stopping →
      Completes .walkStopHoldExpiry s fun t =>
      t = { s with walk := { s.walk with
        stopHold := none
        forced := if s.walk.state = .forced then { s.walk.forced with walkStopHold := true }
          else s.walk.forced } })
  ∧ (∀ (s : State) (n : Station),
      s.is .walk = true →
      s.inService = true →
      s.walk.state = .transfer →
      s.ran s.walk.supplyLimit 1000 = true →
      s.consent.own.status = .active ∨ s.consent.own.status = .withdrawing →
      n ∈ s.rosterOf .drag →
      (s.entry n).status ≠ .fresh ∨ (s.entry n).fields.supply ≠ 2 →
      (∀ m ∈ s.rosterOf .drag, m < n → (s.entry m).status = .fresh ∧ (s.entry m).fields.supply = 2) →
      Completes .supplyLimitExpiry s fun t =>
      t.walk.state = .idle ∧ t.walk.supplyLimit = none ∧ t.out.brakeSet = s.out.brakeSet
      ∧ t.consent = { s.consent with own := { s.consent.own with status := .idle } }
      ∧ (s.raises .walkAborted → Raised s t .walkAborted (200 + (stationNumber n : Int)))
      ∧ t.ctl = s.ctl ∧ t.drive = s.drive ∧ t.peers = s.peers)
  ∧ (∀ (s : State),
      s.is .walk = true →
      s.inService = true →
      s.walk.state = .halted →
      s.ran s.walk.endTime s.prm.walkEndDelay = true →
      s.consent.own.status = .active ∨ s.consent.own.status = .withdrawing →
      let back := (s.rosterOf .drag).all fun n =>
        (s.entry n).status == .absent || (s.entry n).fields.supply == 0
      Completes .endTimeExpiry s fun t =>
        t.walk.state = (if back then .idle else .returning) ∧ t.walk.endTime = none
        ∧ t.consent = { s.consent with own := { s.consent.own with
            status := if back then .idle else s.consent.own.status } }
        ∧ t = { s with walk := t.walk, consent := t.consent })

/-- DERATE_PERSISTENCE_EXPIRY after a load on a hoist, drag or swing, the timer run 2000 ms rising
with the level below 7, or falling with it above 0: the level moves one step, the timer starts
again, and the effective level is the larger of derate and forced level; DERATE_ACTIVE is raised
with 10 × forced + derate when it leaves 0. FORCE_DERATE with 0 to 7 sets the forced level so
and answers OK; another argument answers BAD_ARGUMENT and changes nothing. At an expiry H moves
by (Ic² − H) / 2^HEAT_SHIFT truncated, by ±1 where that is 0 and H differs. -/
def Obligations.DerateLevels : Prop :=
  (∀ (s : State) (a : Time),
      s.heats = true →
      s.heat.persistence = .rising a →
      2000 ≤ s.since a →
      s.heat.level < 7 →
      Completes .deratePersistenceExpiry s fun t =>
      t.heat = { s.heat with
        level := s.heat.level + 1, persistence := .rising s.now
        effective := max (s.heat.level + 1) s.heat.forced }
      ∧ (s.heat.effective = 0 → s.raises .derateActive →
          Raised s t .derateActive (10 * (s.heat.forced : Int) + (s.heat.level + 1)))
      ∧ (0 < s.heat.effective → t = { s with heat := t.heat })
      ∧ t.ctl = s.ctl ∧ t.meas = s.meas ∧ t.drive = s.drive)
  ∧ (∀ (s : State) (a : Time),
      s.heats = true →
      s.heat.persistence = .falling a →
      2000 ≤ s.since a →
      0 < s.heat.level →
      Completes .deratePersistenceExpiry s fun t =>
      t.heat = { s.heat with
        level := s.heat.level - 1, persistence := .falling s.now
        effective := max (s.heat.level - 1) s.heat.forced }
      ∧ (0 < s.heat.effective → t.heat.effective = 0 → s.raises .derateActive →
          t.ann .derateActive = (s.ann .derateActive).afterReturn)
      ∧ t.link = (if s.heat.effective = 0 then t.link else s.link)
      ∧ t.meas = s.meas ∧ t.drive = s.drive)
  ∧ (∀ (s : State) (h : Header) (x : Byte),
      s.isAsked h →
      s.hasRoom 2 →
      x.toNat ≤ 7 →
      Completes (.forceDerate h [x]) s fun t =>
      t.heat = { s.heat with
        forced := x.toNat, effective := max s.heat.level x.toNat }
      ∧ t.queued (.serviceReply 9 0 []) ∧ t.slotFull = true
      ∧ (s.heat.effective = 0 → 0 < t.heat.effective → s.raises .derateActive →
          Raised s t .derateActive (10 * (x.toNat : Int) + s.heat.level))
      ∧ t.drive = s.drive ∧ t.meas = s.meas)
  ∧ (∀ (s : State) (h : Header) (x : Byte),
      s.isAsked h →
      s.hasRoom 1 →
      7 < x.toNat →
      exec (.forceDerate h [x]) s = .next (s.replied 9 ⟨3, []⟩))
  ∧ (∀ (s : State) (raw : Analog) (a : Time),
      s.loaded = true →
      s.meas.regTimer = some a →
      s.prm.regInterval ≤ s.since a →
      s.is .walk = false →
      s.heat.heat ≤ 6250000 →
      s.ownRole.isSome = true →
      Completes (.regulationIntervalExpiry raw) s fun t =>
      let ic := min 2500 t.meas.current.natAbs
      let d : Int := (ic * ic : Nat) - (s.heat.heat : Int)
      let x := d.tdiv (2 ^ s.prm.heatShift : Nat)
      (t.heat.heat : Int) = s.heat.heat + (if x = 0 then d.sign else x))

/-- KEEP_NOTICE of another station in HOLD, RUN or configured STOP: the one AWAIT_KEEP block with
its arm id becomes KEPT at the young end of the kept queue; where no block carries the id
LATE_KEEP goes up by 1; a station outside 1 to 8 or a sequence 0 only counts in RX_MALFORMED, in
LISTEN too (the model's reading, assumption log entry 10). KEEP_DEADLINE_EXPIRY after
KEEP_WINDOW frees its block, which records if no block writes. RELEASE_CAPTURE of a configured
station takes the head off the kept queue, frees its block and answers OK; with nothing kept it
answers NOTHING_KEPT and changes nothing. -/
def Obligations.KeepAndRelease : Prop :=
  (∀ (s : State) (n : Station) (st : Station) (q : Word16) (i : Nat),
      s.hears n →
      s.inService = true →
      q ≠ 0 →
      s.capture.awaiting ⟨st, q⟩ = [i] →
      s.capture.postCarries ⟨st, q⟩ = false →
      Completes (.keepNotice (broadcast 5 n) (byteOf (stationNumber st) :: bytes16 q)) s fun t =>
      (t.capture.block i).state = .kept ∧ t.capture.kept = s.capture.kept ++ [i]
      ∧ (∀ j < s.capture.blocks.length, j ≠ i → t.capture.block j = s.capture.block j)
      ∧ t.capture.slots = s.capture.slots ∧ t.capture.lateKeep = s.capture.lateKeep
      ∧ t.ctl = s.ctl ∧ t.meas = s.meas ∧ t.peers = s.peers)
  ∧ (∀ (s : State) (n : Station) (st : Station) (q : Word16),
      s.hears n →
      s.inService = true →
      q ≠ 0 →
      (∀ b ∈ s.capture.blocks,
      b.armId = some ⟨st, q⟩ → b.state = .free ∨ b.state = .recording) →
      Completes (.keepNotice (broadcast 5 n) (byteOf (stationNumber st) :: bytes16 q)) s fun t =>
      t = { s with
        link := { s.link with receiveBuffer := none }
        capture := { s.capture with lateKeep := satInc s.capture.lateKeep } })
  ∧ (∀ (s : State) (n : Station) (a : Byte) (q : Word16),
      s.hears n →
      a.toNat < 1 ∨ 8 < a.toNat ∨ q = 0 →
      exec (.keepNotice (broadcast 5 n) (a :: bytes16 q)) s = .next s.malformed)
  ∧ (∀ (s : State) (i : Fin 8),
      i.val < s.capture.blocks.length →
      (s.capture.block i.val).state = .awaitKeep →
      s.ran (s.capture.block i.val).keepDeadline s.prm.keepWindow = true →
      Completes (.keepDeadlineExpiry i) s fun t =>
      (t.capture.block i.val).state = (if s.capture.writers = 0 then .recording else .free)
      ∧ (∀ j < s.capture.blocks.length, j ≠ i.val → t.capture.block j = s.capture.block j)
      ∧ t.capture.kept = s.capture.kept ∧ t.capture.slots = s.capture.slots
      ∧ t = { s with capture := t.capture })
  ∧ (∀ (s : State) (h : Header) (i : Nat) (l : List Nat),
      s.isAsked h →
      s.hasRoom 2 →
      s.configured = true →
      s.CaptureSound →
      s.capture.kept = i :: l →
      Completes (.releaseCapture h []) s fun t =>
      t.capture.kept = l ∧ t.capture.isKept i = false
      ∧ (∀ j < s.capture.blocks.length, j ≠ i → t.capture.block j = s.capture.block j)
      ∧ t.queued (.serviceReply 8 0 []) ∧ t.slotFull = true
      ∧ (s.capture.fullRaised = true → s.raises .captureFull →
          t.ann .captureFull = (s.ann .captureFull).afterReturn)
      ∧ t.meas = s.meas ∧ t.peers = s.peers)
  ∧ (∀ (s : State) (h : Header),
      s.isAsked h →
      s.hasRoom 1 →
      s.configured = false ∨ s.capture.kept = [] →
      exec (.releaseCapture h []) s = .next (s.replied 8 ⟨2, []⟩))

/-- At a regulation interval expiry in HOLD, RUN or configured STOP with no decision waiting, the
candidate holds the values that the expiry leaves. In POST it is stored: the slot after the last
one, or in a full block the oldest, takes it, every other slot stays, the stored count, the
oldest slot and after the arm sample the arm index follow, and the post counter goes down by
one. In RECORDING the four exceed counts move by CT_1 to CT_4, and it is stored as the first
one, where a count reaches GLITCH or at delta 64, and otherwise dropped, slots and header as
they were. POST_END with the post counter of the write block at 0. Armed here by a code away
from NORMAL or with the keep mark set: KEPT, joining the kept queue, and a KEEP_NOTICE of its
arm id queued. Armed here by a code now NORMAL, the mark clear: FREE. Armed by a peer: KEPT with
no notice where the mark is set, else AWAIT_KEEP with its deadline started. The first FREE block
after it, itself last, then records, and every other block stays. DECISION_ENTRY_DUE with an
entry at count 0: the entry is removed, and its KEEP_NOTICE queued exactly if its code is away
from NORMAL. That a candidate comes before the arms of its own expiry is section 11-7; where
else it stands among the work of an expiry is log entry 20. -/
def Obligations.PostAndDecision : Prop :=
  (∀ (s : State) (raw : Analog) (a : Time) (i : Nat),
      s.inService = true →
      s.meas.regTimer = some a →
      s.prm.regInterval ≤ s.since a →
      i < s.capture.blocks.length →
      s.capture.writeBlock = some i →
      s.capture.decisions = [] →
      2 ≤ s.prm.postSamples →
      (s.capture.block i).state = .post →
      1 < (s.capture.block i).post →
      let b := s.capture.block i
      let size := 2048 / s.capture.blocks.length
      let full := decide (size ≤ b.stored)
      let slot := if full then b.oldest else i * size + b.stored
      let after := if full then (if b.oldest + 1 < i * size + size then b.oldest + 1 else i * size) else b.oldest
      let v : Sample := { s.expirySample raw with
        delta := if s.capture.last.isSome then s.capture.sinceLast + 1 else 1 }
      Completes (.regulationIntervalExpiry raw) s fun t =>
        t.shownBy v
        ∧ t.capture.block i = { b with
            stored := if full then b.stored else b.stored + 1
            oldest := after
            armIndex := if full && b.post != s.prm.postSamples then b.armIndex - 1 else b.armIndex
            post := b.post - 1 }
        ∧ readSlot t.capture.slots slot = v
          ∧ (∀ k < 2048, k ≠ slot → readSlot t.capture.slots k = readSlot s.capture.slots k)
          ∧ t.capture.exceed = ⟨0, 0, 0, 0⟩ ∧ t.capture.last = some v ∧ t.capture.sinceLast = 0)
  ∧ (∀ (s : State) (raw : Analog) (a : Time) (i : Nat),
      s.inService = true →
      s.meas.regTimer = some a →
      s.prm.regInterval ≤ s.since a →
      i < s.capture.blocks.length →
      s.capture.writeBlock = some i →
      s.capture.decisions = [] →
      2 ≤ s.prm.postSamples →
      (s.capture.block i).state = .recording →
      let b := s.capture.block i
      let size := 2048 / s.capture.blocks.length
      let full := decide (size ≤ b.stored)
      let slot := if full then b.oldest else i * size + b.stored
      let after := if full then (if b.oldest + 1 < i * size + size then b.oldest + 1 else i * size) else b.oldest
      let v : Sample := { s.expirySample raw with
        delta := if s.capture.last.isSome then s.capture.sinceLast + 1 else 1 }
      let passed (threshold : Nat) (x y : Int) (count : Nat) : Nat :=
        if threshold < (x - y).natAbs then min 2 (count + 1) else 0
      let e : ExceedCounts := match s.capture.last with
        | none => ⟨0, 0, 0, 0⟩
        | some l =>
          ⟨passed s.prm.ct1 v.ch1 l.ch1 s.capture.exceed.c1, passed s.prm.ct2 v.ch2 l.ch2 s.capture.exceed.c2,
           passed s.prm.ct3 v.ch3 l.ch3 s.capture.exceed.c3, passed s.prm.ct4 v.ch4 l.ch4 s.capture.exceed.c4⟩
      Completes (.regulationIntervalExpiry raw) s fun t =>
        t.shownBy v
        ∧ if s.capture.last = none ∨ s.prm.glitch ≤ e.c1 ∨ s.prm.glitch ≤ e.c2 ∨ s.prm.glitch ≤ e.c3
            ∨ s.prm.glitch ≤ e.c4 ∨ v.delta = 64 then
          (t.capture.block i).stored = (if full then b.stored else b.stored + 1)
          ∧ (t.capture.block i).oldest = after
          ∧ readSlot t.capture.slots slot = v
          ∧ (∀ k < 2048, k ≠ slot → readSlot t.capture.slots k = readSlot s.capture.slots k)
          ∧ t.capture.exceed = ⟨0, 0, 0, 0⟩ ∧ t.capture.last = some v ∧ t.capture.sinceLast = 0
        else
          (t.capture.block i).stored = b.stored ∧ (t.capture.block i).oldest = b.oldest
          ∧ t.capture.slots = s.capture.slots ∧ t.capture.exceed = e
          ∧ t.capture.last = s.capture.last ∧ t.capture.sinceLast = s.capture.sinceLast + 1)
  ∧ (∀ (s : State) (i : Nat) (c : AlarmCode) (x : ArmId),
      s.inService = true →
      i < s.capture.blocks.length →
      s.capture.writeBlock = some i →
      s.capture.writers = 1 →
      (s.capture.block i).state = .post →
      (s.capture.block i).post = 0 →
      (s.capture.block i).armCode = some c →
      (s.capture.block i).armId = some x →
      (s.capture.block i).keepMark = true ∨ s.ann c ≠ .normal →
      s.hasRoom 2 →
      let n := s.capture.blocks.length
      let next := ((List.range n).map fun m => (i + 1 + m) % n).find? fun j =>
        j != i && (s.capture.block j).state == .free
      Completes .postEnd s fun t =>
        t.capture.block i = { s.capture.block i with state := .kept, keepDeadline := none }
        ∧ t.capture.kept = s.capture.kept ++ [i] ∧ t.queued (.keepNotice x.station x.seq)
        ∧ (∀ j < n, j ≠ i →
            if next = some j then (t.capture.block j).state = .recording
            else t.capture.block j = s.capture.block j)
        ∧ t.capture.writers = (if next.isSome then 1 else 0) ∧ t.capture.slots = s.capture.slots
        ∧ t.meas = s.meas ∧ t.ctl = s.ctl)
  ∧ (∀ (s : State) (i : Nat) (c : AlarmCode),
      s.inService = true →
      i < s.capture.blocks.length →
      s.capture.writeBlock = some i →
      s.capture.writers = 1 →
      (s.capture.block i).state = .post →
      (s.capture.block i).post = 0 →
      (s.capture.block i).keepMark = false →
      (s.capture.block i).armCode = some c →
      s.ann c = .normal →
      let n := s.capture.blocks.length
      let next := ((List.range n).map fun m => (i + 1 + m) % n).find? fun j =>
        j == i || (s.capture.block j).state == .free
      Completes .postEnd s fun t =>
        (if next = some i then (t.capture.block i).state = .recording
          else t.capture.block i = { s.capture.block i with state := .free })
        ∧ (∀ j < n, j ≠ i →
            if next = some j then (t.capture.block j).state = .recording
            else t.capture.block j = s.capture.block j)
        ∧ t.capture.writers = (if next.isSome then 1 else 0) ∧ t.capture.slots = s.capture.slots
        ∧ t.capture.kept = s.capture.kept ∧ t = { s with capture := t.capture })
  ∧ (∀ (s : State) (i : Nat),
      s.inService = true →
      i < s.capture.blocks.length →
      s.capture.writeBlock = some i →
      s.capture.writers = 1 →
      (s.capture.block i).state = .post →
      (s.capture.block i).post = 0 →
      (s.capture.block i).keepMark = false →
      (s.capture.block i).armCode = none →
      let n := s.capture.blocks.length
      let next := ((List.range n).map fun m => (i + 1 + m) % n).find? fun j =>
        j != i && (s.capture.block j).state == .free
      Completes .postEnd s fun t =>
        t.capture.block i = { s.capture.block i with
          state := .awaitKeep, keepDeadline := some s.now, awaitSince := s.now }
        ∧ (∀ j < n, j ≠ i →
            if next = some j then (t.capture.block j).state = .recording
            else t.capture.block j = s.capture.block j)
        ∧ t.capture.writers = (if next.isSome then 1 else 0) ∧ t.capture.slots = s.capture.slots
        ∧ t.capture.kept = s.capture.kept ∧ t = { s with capture := t.capture })
  ∧ (∀ (s : State) (i : Nat),
      s.inService = true →
      i < s.capture.blocks.length →
      s.capture.writeBlock = some i →
      s.capture.writers = 1 →
      (s.capture.block i).state = .post →
      (s.capture.block i).post = 0 →
      (s.capture.block i).keepMark = true →
      (s.capture.block i).armCode = none →
      let n := s.capture.blocks.length
      let next := ((List.range n).map fun m => (i + 1 + m) % n).find? fun j =>
        j != i && (s.capture.block j).state == .free
      Completes .postEnd s fun t =>
        t.capture.block i = { s.capture.block i with state := .kept, keepDeadline := none }
        ∧ t.capture.kept = s.capture.kept ++ [i]
        ∧ (∀ j < n, j ≠ i →
            if next = some j then (t.capture.block j).state = .recording
            else t.capture.block j = s.capture.block j)
        ∧ t.capture.writers = (if next.isSome then 1 else 0) ∧ t.capture.slots = s.capture.slots
        ∧ (t.capture.allKept = false → t = { s with capture := t.capture }))
  ∧ (∀ (s : State) (d : Decision),
      s.inService = true →
      s.capture.decisions = [d] →
      d.count = 0 →
      d.mergedInto = none →
      s.hasRoom 1 →
      Completes .decisionEntryDue s fun t =>
      t.capture = { s.capture with decisions := [] }
      ∧ (s.ann d.code ≠ .normal → t.queued (.keepNotice d.armId.station d.armId.seq))
      ∧ (s.ann d.code = .normal → t.link = s.link)
      ∧ t = { s with capture := t.capture, link := t.link })

/-- Each read request asked of this station with a free slot and room in the queue queues one reply
with status OK and the data of chapter 12 byte by byte, fills the slot and touches nothing else:
READ_STATUS (Table 12-3), READ_PEER part 0 or 1 (Table 12-4, the report bytes by Table 12-6),
READ_COUNTERS, READ_ALARMS (Table 12-8: the entry of the sequence asked for and the next
sequence, the oldest entry for an overwritten or unwritten one, none at the next-sequence count
or in an empty list), READ_CAPTURE_HEADER (Table 12-9) and READ_CAPTURE_SAMPLES (Table 12-10,
one or two samples counted from the oldest) of the head of the kept queue. With nothing kept the
capture reads answer NOTHING_KEPT. A code outside 1 to 9, an argument of wrong length or range,
and an offset at or above the stored count answer BAD_ARGUMENT. With the slot full the reply to
any request is BUSY, or nothing while a BUSY reply waits, and the request is not carried out. -/
def Obligations.ReadsAnswer : Prop :=
  (∀ (s : State) (h : Header),
      s.isAsked h →
      s.hasRoom 1 →
      exec (.readStatus h []) s = .next (s.replied 1 ⟨0, [(match s.ctl.mode with | .hold => 1 | .run => 2 | _ => 3),
      (BitVec.ofBool s.ctl.causes.roleConflict ++ BitVec.ofBool s.ctl.causes.partnerLost
        ++ BitVec.ofBool s.ctl.causes.walkActive ++ BitVec.ofBool s.ctl.causes.linkFault
        ++ BitVec.ofBool s.ctl.causes.localTrip ++ BitVec.ofBool s.ctl.causes.peerStop
        ++ BitVec.ofBool s.ctl.causes.pictureIncomplete ++ BitVec.ofBool s.ctl.causes.restart : BitVec 8),
      (if s.is .walk then
        (match s.walk.state with
        | .idle => 0 | .proposing => 1 | .transfer => 2 | .stepping => 3 | .stopping => 4
        | .halted => 5 | .forced => 6 | .returning => 7)
      else if s.swingLead then
        (match s.role.swing with | .locked => 0 | .proposing => 1 | .free => 2 | .withdrawing => 3)
      else if s.is .drag then
        (match s.role.supply with
        | .normal => 0 | .transferring => 1 | .walkSupply => 2 | .returning => 3)
      else 0), byteOf s.heat.effective, byteOf s.heat.forced, byteOf s.capture.kept.length,
      (match s.ctl.restart with | .powerOn => 0 | .localReset => 1)]⟩))
  ∧ (∀ (s : State) (h : Header) (n : Station) (part : Byte),
      s.isAsked h →
      s.hasRoom 1 →
      part.toNat ≤ 1 →
      let e := s.entry n
      let f := e.fields
      let report : List Byte :=
        [(0#1 ++ e.role ++ e.lastSeq : BitVec 8),
          (0#2 ++ f.summary ++ BitVec.ofBool f.brakeSet ++ BitVec.ofBool f.holdFlag ++ f.mode : BitVec 8),
          f.derate] ++ bytes16 f.speedRef ++ bytes16 f.speed ++ bytes16 f.current ++ bytes16 f.tension
          ++ bytes16 f.position ++ [f.phase, f.supply, f.propNumber, (f.propStatus ++ f.propKind : BitVec 8),
          f.echoProposer, f.echoNumber] ++ bytes16 f.refLeft ++ bytes16 f.refRight
      let marks : Byte := (0#2 ++ BitVec.ofBool e.unlisted ++ BitVec.ofBool e.stopMark
        ++ BitVec.ofBool e.changeMark ++ BitVec.ofBool e.mismatchMark ++ BitVec.ofBool e.lostMark
        ++ BitVec.ofBool e.staleMark : BitVec 8)
      let age : Nat := if e.heard then min 65535 (s.now - e.arrival).toNat else 0
      let status : Byte := match e.status with | .absent => 0 | .fresh => 1 | .stale => 2
      exec (.readPeer h [byteOf (stationNumber n), part]) s = .next (s.replied 2 ⟨0, if part = 0 then
          [status, marks] ++ bytes16 (BitVec.ofNat 16 age) ++ bytes16 e.gaps ++ bytes16 e.dups
            ++ report.take 12
        else report.drop 12⟩))
  ∧ (∀ (s : State) (h : Header),
      s.isAsked h →
      s.hasRoom 1 →
      exec (.readCounters h [0]) s = .next (s.replied 3 ⟨0, bytes16 s.link.rxBad
        ++ bytes16 s.link.rxMalformed ++ bytes16 s.link.txDropped ++ bytes16 s.link.txFail
        ++ bytes16 s.link.arbLost ++ bytes16 s.consent.lateObject ++ bytes16 s.meas.quadSkip⟩)
      ∧ exec (.readCounters h [1]) s = .next (s.replied 3 ⟨0, bytes16 s.capture.armCount
        ++ bytes16 s.capture.armsMerged ++ bytes16 s.capture.armsIgnored
        ++ bytes16 s.capture.lateKeep ++ bytes16 s.alarm.listOverrun⟩))
  ∧ (∀ (s : State) (h : Header) (q : Word16),
      s.isAsked h →
      s.hasRoom 1 →
      let record (e : AlarmEntry) : List Byte :=
        bytes16 e.seq ++ bytes32 e.time ++ [byteOf e.code.number,
          (match e.event with | .raised => 1 | .returned => 2 | .acknowledged => 3 | .peerNotice => 4)]
          ++ bytes16 e.value ++ [(0#4 ++ e.source : BitVec 8)]
      exec (.readAlarms h (bytes16 q)) s = .next (s.replied 4 ⟨0, match s.alarm.list with
        | [] => bytes16 s.alarm.nextSeq
        | o :: _ =>
          match s.alarm.list[(q - o.seq).toNat]? with
          | some e => record e ++ bytes16 (q + 1)
          | none => if q = s.alarm.nextSeq then bytes16 q else record o ++ bytes16 (o.seq + 1)⟩))
  ∧ (∀ (s : State) (h : Header) (i : Nat) (l : List Nat),
      s.isAsked h →
      s.hasRoom 1 →
      s.configured = true →
      s.capture.kept = i :: l →
      let b := s.capture.block i
      exec (.readCaptureHeader h []) s = .next (s.replied 6 ⟨0, byteOf i
          :: (match b.armId with
            | some id => byteOf (stationNumber id.station) :: bytes16 id.seq
            | none => [0, 0, 0])
          ++ [(match b.armCode with | some c => byteOf c.number | none => 0)] ++ bytes32 b.armTime
          ++ bytes16 (BitVec.ofNat 16 b.stored) ++ bytes16 (BitVec.ofNat 16 b.armIndex)
          ++ bytes16 (BitVec.ofNat 16 b.oldest) ++ [if b.complete then 1 else 0]⟩))
  ∧ (∀ (s : State) (h : Header) (i : Nat) (l : List Nat) (q : Word16),
      s.isAsked h →
      s.hasRoom 1 →
      s.configured = true →
      s.capture.kept = i :: l →
      q.toNat < (s.capture.block i).stored →
      let size := 2048 / s.capture.blocks.length
      let b := s.capture.block i
      let slot (k : Nat) : Sample :=
        readSlot s.capture.slots (i * size + (b.oldest - i * size + k) % size)
      let record (v : Sample) : List Byte :=
        byteOf v.delta :: bytes16 (BitVec.ofInt 16 v.ch1) ++ bytes16 (BitVec.ofInt 16 v.ch2)
          ++ bytes16 (BitVec.ofInt 16 v.ch3) ++ bytes16 (BitVec.ofNat 16 v.ch4)
          ++ [byteOf (4 * v.level) ||| (if v.hold then 2 else 0) ||| (if v.brakeSet then 1 else 0)]
      exec (.readCaptureSamples h (bytes16 q)) s = .next (s.replied 7 ⟨0, if q.toNat + 1 = b.stored then 1 :: record (slot q.toNat)
        else 2 :: (record (slot q.toNat) ++ record (slot (q.toNat + 1)))⟩))
  ∧ (∀ (s : State) (h : Header) (q : Word16),
      s.isAsked h →
      s.hasRoom 1 →
      s.configured = false ∨ s.capture.kept = [] →
      exec (.readCaptureHeader h []) s = .next (s.replied 6 ⟨2, []⟩)
      ∧ exec (.readCaptureSamples h (bytes16 q)) s = .next (s.replied 7 ⟨2, []⟩))
  ∧ (∀ (s : State) (h : Header) (code : Byte) (args : List Byte),
      s.isAsked h →
      s.hasRoom 1 →
      code.toNat < 1 ∨ 9 < code.toNat →
      args.length ≤ 2 →
      exec (.serviceRequestUnknownCode h code args) s = .next (s.replied code ⟨3, []⟩))
  ∧ (∀ (s : State) (h : Header) (args : List Byte),
      s.isAsked h →
      s.hasRoom 1 →
      args.length ≤ 2 →
      (args.length ≠ 0 →
          exec (.readStatus h args) s = .next (s.replied 1 ⟨3, []⟩)
          ∧ exec (.ackAlarms h args) s = .next (s.replied 5 ⟨3, []⟩)
          ∧ exec (.readCaptureHeader h args) s = .next (s.replied 6 ⟨3, []⟩)
          ∧ exec (.releaseCapture h args) s = .next (s.replied 8 ⟨3, []⟩))
      ∧ (args.length ≠ 1 →
          exec (.readCounters h args) s = .next (s.replied 3 ⟨3, []⟩)
          ∧ exec (.forceDerate h args) s = .next (s.replied 9 ⟨3, []⟩))
      ∧ (args.length ≠ 2 →
          exec (.readPeer h args) s = .next (s.replied 2 ⟨3, []⟩)
          ∧ exec (.readAlarms h args) s = .next (s.replied 4 ⟨3, []⟩)
          ∧ exec (.readCaptureSamples h args) s = .next (s.replied 7 ⟨3, []⟩)))
  ∧ (∀ (s : State) (h : Header) (a : Byte) (b : Byte),
      s.isAsked h →
      s.hasRoom 1 →
      (a = 0 ∨ 8 < a.toNat ∨ 1 < b.toNat → exec (.readPeer h [a, b]) s = .next (s.replied 2 ⟨3, []⟩))
      ∧ (1 < b.toNat → exec (.readCounters h [b]) s = .next (s.replied 3 ⟨3, []⟩))
      ∧ (7 < b.toNat → exec (.forceDerate h [b]) s = .next (s.replied 9 ⟨3, []⟩)))
  ∧ (∀ (s : State) (h : Header) (i : Nat) (l : List Nat) (q : Word16),
      s.isAsked h →
      s.hasRoom 1 →
      s.configured = true →
      s.capture.kept = i :: l →
      (s.capture.block i).stored ≤ q.toNat →
      exec (.readCaptureSamples h (bytes16 q)) s = .next (s.replied 7 ⟨3, []⟩))
  ∧ (∀ (s : State) (h : Header) (st : Station) (code : Byte) (args : List Byte),
      s.onLink = true →
      s.slotFull = true →
      h.cls = 6 →
      h.src = 14 →
      s.self = some st →
      h.dst = stationAddress st →
      s.link.quietOut = none →
      s.link.queue.length < 8 →
      args.length ≤ 2 →
      code.toNat < 1 ∨ 9 < code.toNat →
      if s.link.queue.any fun q => q.frame.isBusyReply then
      exec (.readStatus h args) s = .next s.ignored
      ∧ exec (.readPeer h args) s = .next s.ignored
      ∧ exec (.readCounters h args) s = .next s.ignored
      ∧ exec (.readAlarms h args) s = .next s.ignored
      ∧ exec (.ackAlarms h args) s = .next s.ignored
      ∧ exec (.readCaptureHeader h args) s = .next s.ignored
      ∧ exec (.readCaptureSamples h args) s = .next s.ignored
      ∧ exec (.releaseCapture h args) s = .next s.ignored
      ∧ exec (.forceDerate h args) s = .next s.ignored
      ∧ exec (.serviceRequestUnknownCode h code args) s = .next s.ignored
    else
      exec (.readStatus h args) s = .next (s.replied 1 ⟨1, []⟩)
      ∧ exec (.readPeer h args) s = .next (s.replied 2 ⟨1, []⟩)
      ∧ exec (.readCounters h args) s = .next (s.replied 3 ⟨1, []⟩)
      ∧ exec (.readAlarms h args) s = .next (s.replied 4 ⟨1, []⟩)
      ∧ exec (.ackAlarms h args) s = .next (s.replied 5 ⟨1, []⟩)
      ∧ exec (.readCaptureHeader h args) s = .next (s.replied 6 ⟨1, []⟩)
      ∧ exec (.readCaptureSamples h args) s = .next (s.replied 7 ⟨1, []⟩)
      ∧ exec (.releaseCapture h args) s = .next (s.replied 8 ⟨1, []⟩)
      ∧ exec (.forceDerate h args) s = .next (s.replied 9 ⟨1, []⟩)
      ∧ exec (.serviceRequestUnknownCode h code args) s = .next (s.replied code ⟨1, []⟩))

/-- From any state, whatever command or tick the step takes: if in LOADING, LISTEN and STOP the
field duty is 0, the brake set and the transfer output open, with the duty and reference behind
them 0 and no walk in TRANSFER, STEPPING, STOPPING or HALTED, then so after the step; and if a
STOP code away from NORMAL means mode STOP, then so after the step. -/
def Obligations.SafeModesKept : Prop :=
  ∀ (s : State) (t : State),
      step s = .next t →
      (s.SafeModes → t.SafeModes)
      ∧ (s.StopCodesStop → t.StopCodesStop)

/-- From any state: RUN with an empty hold-cause set stays so over every step; LOCAL_TRIP,
PEER_STOP, ROLE_CONFLICT and PICTURE_INCOMPLETE that are present exactly while a TRIP code is
away from NORMAL, a stop mark is set, a conflict is found, another roster entry is ABSENT, stay
so (with nothing begun before the load). So after such a step a station in RUN has every other
roster station FRESH or STALE and no TRIP code away from NORMAL. -/
def Obligations.CausesKept : Prop :=
  ∀ (s : State) (t : State),
      step s = .next t →
      (s.RunIsFree → t.RunIsFree)
      ∧ (s.CausesAgree → t.CausesAgree)
      ∧ (s.RunIsFree → s.CausesAgree → t.ctl.mode = .run →
          t.alarm.tripsNormal = true ∧ ∀ n ∈ t.rosterOthers, (t.entry n).status ≠ .absent)

/-- From any state whose transmit queue holds at most 8 frames, lowest class first, at most one
STATE_REPORT and at most one OBJECT for any proposer and number: so after every step. From any
state in which each ABSENT entry has stop, mismatch and change marks clear: so after every step.
From any state in which the own entry is not STALE, with counts 0 and all marks clear: so after
every step. -/
def Obligations.QueueAndTableKept : Prop :=
  ∀ (s : State) (t : State),
      step s = .next t →
      (s.QueueSound → t.QueueSound)
      ∧ (s.AbsentUnmarked → t.AbsentUnmarked)
      ∧ (s.OwnEntryClean → t.OwnEntryClean)

/-- From any state in which a station without an address is in LOADING or STOP, and an own proposal
that stands has a number and a kind and nothing is held: so after every step. From any state in
which a swing lead or solo has the proposal status that goes with its swing state, its brake
released only in FREE or WITHDRAWING, no walk, and a SWING_RELEASE when not LOCKED (nothing
begun before the load): so after every step. -/
def Obligations.ConsentKept : Prop :=
  ∀ (s : State) (t : State),
      step s = .next t →
      (s.ConsentSound → t.ConsentSound)
      ∧ (s.SwingSound → t.SwingSound)

/-- From any state in which the reference, target and duty lie in their ranges, FIELD_PWM is the
duty's magnitude and FIELD_DIR its sign: so after every step. From any state in which derate and
forced level are at most 7 and the effective level is the larger: so after every step. -/
def Obligations.DriveKept : Prop :=
  ∀ (s : State) (t : State),
      step s = .next t →
      (s.DriveSound → t.DriveSound)
      ∧ (s.LevelsSound → t.LevelsSound)

/-- From any state in which the transfer output is closed only away from NORMAL, no station but a
drag is away from NORMAL, and a drag away from NORMAL has its brake output set: so after every
step. From any state in which the cam references lie in 0 to 1000 and all walk references are 0
outside STEPPING and STOPPING: so after every step. -/
def Obligations.SupplyAndWalkKept : Prop :=
  ∀ (s : State) (t : State),
      step s = .next t →
      (s.SupplySound → t.SupplySound)
      ∧ (s.WalkSound → t.WalkSound)

/-- From any state in which HORN, LAMP_WARN and LAMP_TRIP show what the codes, the mode and a strap
fault ask for: so after every step. From any state whose alarm list holds at most 32 entries,
each sequence one more modulo 65 536 than the one before and the last one below the
next-sequence count: so after every step. -/
def Obligations.LampsKept : Prop :=
  ∀ (s : State) (t : State),
      step s = .next t →
      (s.LampsShow → t.LampsShow)
      ∧ (s.ListSound → t.ListSound)

/-- From any state in which at most one block is RECORDING or POST, the kept queue lists exactly the
KEPT blocks without repeats, the slot numbers rise strictly, and before the exit from LISTEN
every block is FREE or KEPT: so after every step. -/
def Obligations.CaptureKept : Prop :=
  ∀ (s : State) (t : State),
      step s = .next t →
      (s.CaptureSound → t.CaptureSound)

end
end

