-- ==== Sys2Proof/Laws/State.lean ====
section
/-!
SUPPORT. Each update of the state, field by field: what it leaves in the field that it writes, and that every
other field stays as it was.  All hold by `rfl`, so that no later proof unfolds a record update.
-/

namespace Sys2Proof.Machine

/-! ### `State.modPins` -/

@[simp] theorem State.modPins_now (s : State) (f : Pins → Pins) : (s.modPins f).now = s.now := rfl
@[simp] theorem State.modPins_pins (s : State) (f : Pins → Pins) :
    (s.modPins f).pins = f s.pins := rfl
@[simp] theorem State.modPins_out (s : State) (f : Pins → Pins) : (s.modPins f).out = s.out := rfl
@[simp] theorem State.modPins_ctl (s : State) (f : Pins → Pins) : (s.modPins f).ctl = s.ctl := rfl
@[simp] theorem State.modPins_link (s : State) (f : Pins → Pins) :
    (s.modPins f).link = s.link := rfl
@[simp] theorem State.modPins_peers (s : State) (f : Pins → Pins) :
    (s.modPins f).peers = s.peers := rfl
@[simp] theorem State.modPins_consent (s : State) (f : Pins → Pins) :
    (s.modPins f).consent = s.consent := rfl
@[simp] theorem State.modPins_meas (s : State) (f : Pins → Pins) :
    (s.modPins f).meas = s.meas := rfl
@[simp] theorem State.modPins_drive (s : State) (f : Pins → Pins) :
    (s.modPins f).drive = s.drive := rfl
@[simp] theorem State.modPins_role (s : State) (f : Pins → Pins) :
    (s.modPins f).role = s.role := rfl
@[simp] theorem State.modPins_walk (s : State) (f : Pins → Pins) :
    (s.modPins f).walk = s.walk := rfl
@[simp] theorem State.modPins_heat (s : State) (f : Pins → Pins) :
    (s.modPins f).heat = s.heat := rfl
@[simp] theorem State.modPins_alarm (s : State) (f : Pins → Pins) :
    (s.modPins f).alarm = s.alarm := rfl
@[simp] theorem State.modPins_capture (s : State) (f : Pins → Pins) :
    (s.modPins f).capture = s.capture := rfl
@[simp] theorem State.modPins_slotFull (s : State) (f : Pins → Pins) :
    (s.modPins f).slotFull = s.slotFull := rfl
@[simp] theorem State.modPins_pending (s : State) (f : Pins → Pins) :
    (s.modPins f).pending = s.pending := rfl

/-! ### `State.modOut` -/

@[simp] theorem State.modOut_now (s : State) (f : Outputs → Outputs) :
    (s.modOut f).now = s.now := rfl
@[simp] theorem State.modOut_pins (s : State) (f : Outputs → Outputs) :
    (s.modOut f).pins = s.pins := rfl
@[simp] theorem State.modOut_out (s : State) (f : Outputs → Outputs) :
    (s.modOut f).out = f s.out := rfl
@[simp] theorem State.modOut_ctl (s : State) (f : Outputs → Outputs) :
    (s.modOut f).ctl = s.ctl := rfl
@[simp] theorem State.modOut_link (s : State) (f : Outputs → Outputs) :
    (s.modOut f).link = s.link := rfl
@[simp] theorem State.modOut_peers (s : State) (f : Outputs → Outputs) :
    (s.modOut f).peers = s.peers := rfl
@[simp] theorem State.modOut_consent (s : State) (f : Outputs → Outputs) :
    (s.modOut f).consent = s.consent := rfl
@[simp] theorem State.modOut_meas (s : State) (f : Outputs → Outputs) :
    (s.modOut f).meas = s.meas := rfl
@[simp] theorem State.modOut_drive (s : State) (f : Outputs → Outputs) :
    (s.modOut f).drive = s.drive := rfl
@[simp] theorem State.modOut_role (s : State) (f : Outputs → Outputs) :
    (s.modOut f).role = s.role := rfl
@[simp] theorem State.modOut_walk (s : State) (f : Outputs → Outputs) :
    (s.modOut f).walk = s.walk := rfl
@[simp] theorem State.modOut_heat (s : State) (f : Outputs → Outputs) :
    (s.modOut f).heat = s.heat := rfl
@[simp] theorem State.modOut_alarm (s : State) (f : Outputs → Outputs) :
    (s.modOut f).alarm = s.alarm := rfl
@[simp] theorem State.modOut_capture (s : State) (f : Outputs → Outputs) :
    (s.modOut f).capture = s.capture := rfl
@[simp] theorem State.modOut_slotFull (s : State) (f : Outputs → Outputs) :
    (s.modOut f).slotFull = s.slotFull := rfl
@[simp] theorem State.modOut_pending (s : State) (f : Outputs → Outputs) :
    (s.modOut f).pending = s.pending := rfl

/-! ### `State.modCtl` -/

@[simp] theorem State.modCtl_now (s : State) (f : StationControl → StationControl) :
    (s.modCtl f).now = s.now := rfl
@[simp] theorem State.modCtl_pins (s : State) (f : StationControl → StationControl) :
    (s.modCtl f).pins = s.pins := rfl
@[simp] theorem State.modCtl_out (s : State) (f : StationControl → StationControl) :
    (s.modCtl f).out = s.out := rfl
@[simp] theorem State.modCtl_ctl (s : State) (f : StationControl → StationControl) :
    (s.modCtl f).ctl = f s.ctl := rfl
@[simp] theorem State.modCtl_link (s : State) (f : StationControl → StationControl) :
    (s.modCtl f).link = s.link := rfl
@[simp] theorem State.modCtl_peers (s : State) (f : StationControl → StationControl) :
    (s.modCtl f).peers = s.peers := rfl
@[simp] theorem State.modCtl_consent (s : State) (f : StationControl → StationControl) :
    (s.modCtl f).consent = s.consent := rfl
@[simp] theorem State.modCtl_meas (s : State) (f : StationControl → StationControl) :
    (s.modCtl f).meas = s.meas := rfl
@[simp] theorem State.modCtl_drive (s : State) (f : StationControl → StationControl) :
    (s.modCtl f).drive = s.drive := rfl
@[simp] theorem State.modCtl_role (s : State) (f : StationControl → StationControl) :
    (s.modCtl f).role = s.role := rfl
@[simp] theorem State.modCtl_walk (s : State) (f : StationControl → StationControl) :
    (s.modCtl f).walk = s.walk := rfl
@[simp] theorem State.modCtl_heat (s : State) (f : StationControl → StationControl) :
    (s.modCtl f).heat = s.heat := rfl
@[simp] theorem State.modCtl_alarm (s : State) (f : StationControl → StationControl) :
    (s.modCtl f).alarm = s.alarm := rfl
@[simp] theorem State.modCtl_capture (s : State) (f : StationControl → StationControl) :
    (s.modCtl f).capture = s.capture := rfl
@[simp] theorem State.modCtl_slotFull (s : State) (f : StationControl → StationControl) :
    (s.modCtl f).slotFull = s.slotFull := rfl
@[simp] theorem State.modCtl_pending (s : State) (f : StationControl → StationControl) :
    (s.modCtl f).pending = s.pending := rfl

/-! ### `State.modLink` -/

@[simp] theorem State.modLink_now (s : State) (f : LinkController → LinkController) :
    (s.modLink f).now = s.now := rfl
@[simp] theorem State.modLink_pins (s : State) (f : LinkController → LinkController) :
    (s.modLink f).pins = s.pins := rfl
@[simp] theorem State.modLink_out (s : State) (f : LinkController → LinkController) :
    (s.modLink f).out = s.out := rfl
@[simp] theorem State.modLink_ctl (s : State) (f : LinkController → LinkController) :
    (s.modLink f).ctl = s.ctl := rfl
@[simp] theorem State.modLink_link (s : State) (f : LinkController → LinkController) :
    (s.modLink f).link = f s.link := rfl
@[simp] theorem State.modLink_peers (s : State) (f : LinkController → LinkController) :
    (s.modLink f).peers = s.peers := rfl
@[simp] theorem State.modLink_consent (s : State) (f : LinkController → LinkController) :
    (s.modLink f).consent = s.consent := rfl
@[simp] theorem State.modLink_meas (s : State) (f : LinkController → LinkController) :
    (s.modLink f).meas = s.meas := rfl
@[simp] theorem State.modLink_drive (s : State) (f : LinkController → LinkController) :
    (s.modLink f).drive = s.drive := rfl
@[simp] theorem State.modLink_role (s : State) (f : LinkController → LinkController) :
    (s.modLink f).role = s.role := rfl
@[simp] theorem State.modLink_walk (s : State) (f : LinkController → LinkController) :
    (s.modLink f).walk = s.walk := rfl
@[simp] theorem State.modLink_heat (s : State) (f : LinkController → LinkController) :
    (s.modLink f).heat = s.heat := rfl
@[simp] theorem State.modLink_alarm (s : State) (f : LinkController → LinkController) :
    (s.modLink f).alarm = s.alarm := rfl
@[simp] theorem State.modLink_capture (s : State) (f : LinkController → LinkController) :
    (s.modLink f).capture = s.capture := rfl
@[simp] theorem State.modLink_slotFull (s : State) (f : LinkController → LinkController) :
    (s.modLink f).slotFull = s.slotFull := rfl
@[simp] theorem State.modLink_pending (s : State) (f : LinkController → LinkController) :
    (s.modLink f).pending = s.pending := rfl

/-! ### `State.modPeers` -/

@[simp] theorem State.modPeers_now (s : State) (f : PeerTable → PeerTable) :
    (s.modPeers f).now = s.now := rfl
@[simp] theorem State.modPeers_pins (s : State) (f : PeerTable → PeerTable) :
    (s.modPeers f).pins = s.pins := rfl
@[simp] theorem State.modPeers_out (s : State) (f : PeerTable → PeerTable) :
    (s.modPeers f).out = s.out := rfl
@[simp] theorem State.modPeers_ctl (s : State) (f : PeerTable → PeerTable) :
    (s.modPeers f).ctl = s.ctl := rfl
@[simp] theorem State.modPeers_link (s : State) (f : PeerTable → PeerTable) :
    (s.modPeers f).link = s.link := rfl
@[simp] theorem State.modPeers_peers (s : State) (f : PeerTable → PeerTable) :
    (s.modPeers f).peers = f s.peers := rfl
@[simp] theorem State.modPeers_consent (s : State) (f : PeerTable → PeerTable) :
    (s.modPeers f).consent = s.consent := rfl
@[simp] theorem State.modPeers_meas (s : State) (f : PeerTable → PeerTable) :
    (s.modPeers f).meas = s.meas := rfl
@[simp] theorem State.modPeers_drive (s : State) (f : PeerTable → PeerTable) :
    (s.modPeers f).drive = s.drive := rfl
@[simp] theorem State.modPeers_role (s : State) (f : PeerTable → PeerTable) :
    (s.modPeers f).role = s.role := rfl
@[simp] theorem State.modPeers_walk (s : State) (f : PeerTable → PeerTable) :
    (s.modPeers f).walk = s.walk := rfl
@[simp] theorem State.modPeers_heat (s : State) (f : PeerTable → PeerTable) :
    (s.modPeers f).heat = s.heat := rfl
@[simp] theorem State.modPeers_alarm (s : State) (f : PeerTable → PeerTable) :
    (s.modPeers f).alarm = s.alarm := rfl
@[simp] theorem State.modPeers_capture (s : State) (f : PeerTable → PeerTable) :
    (s.modPeers f).capture = s.capture := rfl
@[simp] theorem State.modPeers_slotFull (s : State) (f : PeerTable → PeerTable) :
    (s.modPeers f).slotFull = s.slotFull := rfl
@[simp] theorem State.modPeers_pending (s : State) (f : PeerTable → PeerTable) :
    (s.modPeers f).pending = s.pending := rfl

/-! ### `State.modConsent` -/

@[simp] theorem State.modConsent_now (s : State) (f : ConsentEngine → ConsentEngine) :
    (s.modConsent f).now = s.now := rfl
@[simp] theorem State.modConsent_pins (s : State) (f : ConsentEngine → ConsentEngine) :
    (s.modConsent f).pins = s.pins := rfl
@[simp] theorem State.modConsent_out (s : State) (f : ConsentEngine → ConsentEngine) :
    (s.modConsent f).out = s.out := rfl
@[simp] theorem State.modConsent_ctl (s : State) (f : ConsentEngine → ConsentEngine) :
    (s.modConsent f).ctl = s.ctl := rfl
@[simp] theorem State.modConsent_link (s : State) (f : ConsentEngine → ConsentEngine) :
    (s.modConsent f).link = s.link := rfl
@[simp] theorem State.modConsent_peers (s : State) (f : ConsentEngine → ConsentEngine) :
    (s.modConsent f).peers = s.peers := rfl
@[simp] theorem State.modConsent_consent (s : State) (f : ConsentEngine → ConsentEngine) :
    (s.modConsent f).consent = f s.consent := rfl
@[simp] theorem State.modConsent_meas (s : State) (f : ConsentEngine → ConsentEngine) :
    (s.modConsent f).meas = s.meas := rfl
@[simp] theorem State.modConsent_drive (s : State) (f : ConsentEngine → ConsentEngine) :
    (s.modConsent f).drive = s.drive := rfl
@[simp] theorem State.modConsent_role (s : State) (f : ConsentEngine → ConsentEngine) :
    (s.modConsent f).role = s.role := rfl
@[simp] theorem State.modConsent_walk (s : State) (f : ConsentEngine → ConsentEngine) :
    (s.modConsent f).walk = s.walk := rfl
@[simp] theorem State.modConsent_heat (s : State) (f : ConsentEngine → ConsentEngine) :
    (s.modConsent f).heat = s.heat := rfl
@[simp] theorem State.modConsent_alarm (s : State) (f : ConsentEngine → ConsentEngine) :
    (s.modConsent f).alarm = s.alarm := rfl
@[simp] theorem State.modConsent_capture (s : State) (f : ConsentEngine → ConsentEngine) :
    (s.modConsent f).capture = s.capture := rfl
@[simp] theorem State.modConsent_slotFull (s : State) (f : ConsentEngine → ConsentEngine) :
    (s.modConsent f).slotFull = s.slotFull := rfl
@[simp] theorem State.modConsent_pending (s : State) (f : ConsentEngine → ConsentEngine) :
    (s.modConsent f).pending = s.pending := rfl

/-! ### `State.modMeas` -/

@[simp] theorem State.modMeas_now (s : State) (f : Measurement → Measurement) :
    (s.modMeas f).now = s.now := rfl
@[simp] theorem State.modMeas_pins (s : State) (f : Measurement → Measurement) :
    (s.modMeas f).pins = s.pins := rfl
@[simp] theorem State.modMeas_out (s : State) (f : Measurement → Measurement) :
    (s.modMeas f).out = s.out := rfl
@[simp] theorem State.modMeas_ctl (s : State) (f : Measurement → Measurement) :
    (s.modMeas f).ctl = s.ctl := rfl
@[simp] theorem State.modMeas_link (s : State) (f : Measurement → Measurement) :
    (s.modMeas f).link = s.link := rfl
@[simp] theorem State.modMeas_peers (s : State) (f : Measurement → Measurement) :
    (s.modMeas f).peers = s.peers := rfl
@[simp] theorem State.modMeas_consent (s : State) (f : Measurement → Measurement) :
    (s.modMeas f).consent = s.consent := rfl
@[simp] theorem State.modMeas_meas (s : State) (f : Measurement → Measurement) :
    (s.modMeas f).meas = f s.meas := rfl
@[simp] theorem State.modMeas_drive (s : State) (f : Measurement → Measurement) :
    (s.modMeas f).drive = s.drive := rfl
@[simp] theorem State.modMeas_role (s : State) (f : Measurement → Measurement) :
    (s.modMeas f).role = s.role := rfl
@[simp] theorem State.modMeas_walk (s : State) (f : Measurement → Measurement) :
    (s.modMeas f).walk = s.walk := rfl
@[simp] theorem State.modMeas_heat (s : State) (f : Measurement → Measurement) :
    (s.modMeas f).heat = s.heat := rfl
@[simp] theorem State.modMeas_alarm (s : State) (f : Measurement → Measurement) :
    (s.modMeas f).alarm = s.alarm := rfl
@[simp] theorem State.modMeas_capture (s : State) (f : Measurement → Measurement) :
    (s.modMeas f).capture = s.capture := rfl
@[simp] theorem State.modMeas_slotFull (s : State) (f : Measurement → Measurement) :
    (s.modMeas f).slotFull = s.slotFull := rfl
@[simp] theorem State.modMeas_pending (s : State) (f : Measurement → Measurement) :
    (s.modMeas f).pending = s.pending := rfl

/-! ### `State.modDrive` -/

@[simp] theorem State.modDrive_now (s : State) (f : DriveRegulator → DriveRegulator) :
    (s.modDrive f).now = s.now := rfl
@[simp] theorem State.modDrive_pins (s : State) (f : DriveRegulator → DriveRegulator) :
    (s.modDrive f).pins = s.pins := rfl
@[simp] theorem State.modDrive_out (s : State) (f : DriveRegulator → DriveRegulator) :
    (s.modDrive f).out = s.out := rfl
@[simp] theorem State.modDrive_ctl (s : State) (f : DriveRegulator → DriveRegulator) :
    (s.modDrive f).ctl = s.ctl := rfl
@[simp] theorem State.modDrive_link (s : State) (f : DriveRegulator → DriveRegulator) :
    (s.modDrive f).link = s.link := rfl
@[simp] theorem State.modDrive_peers (s : State) (f : DriveRegulator → DriveRegulator) :
    (s.modDrive f).peers = s.peers := rfl
@[simp] theorem State.modDrive_consent (s : State) (f : DriveRegulator → DriveRegulator) :
    (s.modDrive f).consent = s.consent := rfl
@[simp] theorem State.modDrive_meas (s : State) (f : DriveRegulator → DriveRegulator) :
    (s.modDrive f).meas = s.meas := rfl
@[simp] theorem State.modDrive_drive (s : State) (f : DriveRegulator → DriveRegulator) :
    (s.modDrive f).drive = f s.drive := rfl
@[simp] theorem State.modDrive_role (s : State) (f : DriveRegulator → DriveRegulator) :
    (s.modDrive f).role = s.role := rfl
@[simp] theorem State.modDrive_walk (s : State) (f : DriveRegulator → DriveRegulator) :
    (s.modDrive f).walk = s.walk := rfl
@[simp] theorem State.modDrive_heat (s : State) (f : DriveRegulator → DriveRegulator) :
    (s.modDrive f).heat = s.heat := rfl
@[simp] theorem State.modDrive_alarm (s : State) (f : DriveRegulator → DriveRegulator) :
    (s.modDrive f).alarm = s.alarm := rfl
@[simp] theorem State.modDrive_capture (s : State) (f : DriveRegulator → DriveRegulator) :
    (s.modDrive f).capture = s.capture := rfl
@[simp] theorem State.modDrive_slotFull (s : State) (f : DriveRegulator → DriveRegulator) :
    (s.modDrive f).slotFull = s.slotFull := rfl
@[simp] theorem State.modDrive_pending (s : State) (f : DriveRegulator → DriveRegulator) :
    (s.modDrive f).pending = s.pending := rfl

/-! ### `State.modRole` -/

@[simp] theorem State.modRole_now (s : State) (f : RoleLogic → RoleLogic) :
    (s.modRole f).now = s.now := rfl
@[simp] theorem State.modRole_pins (s : State) (f : RoleLogic → RoleLogic) :
    (s.modRole f).pins = s.pins := rfl
@[simp] theorem State.modRole_out (s : State) (f : RoleLogic → RoleLogic) :
    (s.modRole f).out = s.out := rfl
@[simp] theorem State.modRole_ctl (s : State) (f : RoleLogic → RoleLogic) :
    (s.modRole f).ctl = s.ctl := rfl
@[simp] theorem State.modRole_link (s : State) (f : RoleLogic → RoleLogic) :
    (s.modRole f).link = s.link := rfl
@[simp] theorem State.modRole_peers (s : State) (f : RoleLogic → RoleLogic) :
    (s.modRole f).peers = s.peers := rfl
@[simp] theorem State.modRole_consent (s : State) (f : RoleLogic → RoleLogic) :
    (s.modRole f).consent = s.consent := rfl
@[simp] theorem State.modRole_meas (s : State) (f : RoleLogic → RoleLogic) :
    (s.modRole f).meas = s.meas := rfl
@[simp] theorem State.modRole_drive (s : State) (f : RoleLogic → RoleLogic) :
    (s.modRole f).drive = s.drive := rfl
@[simp] theorem State.modRole_role (s : State) (f : RoleLogic → RoleLogic) :
    (s.modRole f).role = f s.role := rfl
@[simp] theorem State.modRole_walk (s : State) (f : RoleLogic → RoleLogic) :
    (s.modRole f).walk = s.walk := rfl
@[simp] theorem State.modRole_heat (s : State) (f : RoleLogic → RoleLogic) :
    (s.modRole f).heat = s.heat := rfl
@[simp] theorem State.modRole_alarm (s : State) (f : RoleLogic → RoleLogic) :
    (s.modRole f).alarm = s.alarm := rfl
@[simp] theorem State.modRole_capture (s : State) (f : RoleLogic → RoleLogic) :
    (s.modRole f).capture = s.capture := rfl
@[simp] theorem State.modRole_slotFull (s : State) (f : RoleLogic → RoleLogic) :
    (s.modRole f).slotFull = s.slotFull := rfl
@[simp] theorem State.modRole_pending (s : State) (f : RoleLogic → RoleLogic) :
    (s.modRole f).pending = s.pending := rfl

/-! ### `State.modWalk` -/

@[simp] theorem State.modWalk_now (s : State) (f : WalkSequencer → WalkSequencer) :
    (s.modWalk f).now = s.now := rfl
@[simp] theorem State.modWalk_pins (s : State) (f : WalkSequencer → WalkSequencer) :
    (s.modWalk f).pins = s.pins := rfl
@[simp] theorem State.modWalk_out (s : State) (f : WalkSequencer → WalkSequencer) :
    (s.modWalk f).out = s.out := rfl
@[simp] theorem State.modWalk_ctl (s : State) (f : WalkSequencer → WalkSequencer) :
    (s.modWalk f).ctl = s.ctl := rfl
@[simp] theorem State.modWalk_link (s : State) (f : WalkSequencer → WalkSequencer) :
    (s.modWalk f).link = s.link := rfl
@[simp] theorem State.modWalk_peers (s : State) (f : WalkSequencer → WalkSequencer) :
    (s.modWalk f).peers = s.peers := rfl
@[simp] theorem State.modWalk_consent (s : State) (f : WalkSequencer → WalkSequencer) :
    (s.modWalk f).consent = s.consent := rfl
@[simp] theorem State.modWalk_meas (s : State) (f : WalkSequencer → WalkSequencer) :
    (s.modWalk f).meas = s.meas := rfl
@[simp] theorem State.modWalk_drive (s : State) (f : WalkSequencer → WalkSequencer) :
    (s.modWalk f).drive = s.drive := rfl
@[simp] theorem State.modWalk_role (s : State) (f : WalkSequencer → WalkSequencer) :
    (s.modWalk f).role = s.role := rfl
@[simp] theorem State.modWalk_walk (s : State) (f : WalkSequencer → WalkSequencer) :
    (s.modWalk f).walk = f s.walk := rfl
@[simp] theorem State.modWalk_heat (s : State) (f : WalkSequencer → WalkSequencer) :
    (s.modWalk f).heat = s.heat := rfl
@[simp] theorem State.modWalk_alarm (s : State) (f : WalkSequencer → WalkSequencer) :
    (s.modWalk f).alarm = s.alarm := rfl
@[simp] theorem State.modWalk_capture (s : State) (f : WalkSequencer → WalkSequencer) :
    (s.modWalk f).capture = s.capture := rfl
@[simp] theorem State.modWalk_slotFull (s : State) (f : WalkSequencer → WalkSequencer) :
    (s.modWalk f).slotFull = s.slotFull := rfl
@[simp] theorem State.modWalk_pending (s : State) (f : WalkSequencer → WalkSequencer) :
    (s.modWalk f).pending = s.pending := rfl

/-! ### `State.modHeat` -/

@[simp] theorem State.modHeat_now (s : State) (f : HeatMonitor → HeatMonitor) :
    (s.modHeat f).now = s.now := rfl
@[simp] theorem State.modHeat_pins (s : State) (f : HeatMonitor → HeatMonitor) :
    (s.modHeat f).pins = s.pins := rfl
@[simp] theorem State.modHeat_out (s : State) (f : HeatMonitor → HeatMonitor) :
    (s.modHeat f).out = s.out := rfl
@[simp] theorem State.modHeat_ctl (s : State) (f : HeatMonitor → HeatMonitor) :
    (s.modHeat f).ctl = s.ctl := rfl
@[simp] theorem State.modHeat_link (s : State) (f : HeatMonitor → HeatMonitor) :
    (s.modHeat f).link = s.link := rfl
@[simp] theorem State.modHeat_peers (s : State) (f : HeatMonitor → HeatMonitor) :
    (s.modHeat f).peers = s.peers := rfl
@[simp] theorem State.modHeat_consent (s : State) (f : HeatMonitor → HeatMonitor) :
    (s.modHeat f).consent = s.consent := rfl
@[simp] theorem State.modHeat_meas (s : State) (f : HeatMonitor → HeatMonitor) :
    (s.modHeat f).meas = s.meas := rfl
@[simp] theorem State.modHeat_drive (s : State) (f : HeatMonitor → HeatMonitor) :
    (s.modHeat f).drive = s.drive := rfl
@[simp] theorem State.modHeat_role (s : State) (f : HeatMonitor → HeatMonitor) :
    (s.modHeat f).role = s.role := rfl
@[simp] theorem State.modHeat_walk (s : State) (f : HeatMonitor → HeatMonitor) :
    (s.modHeat f).walk = s.walk := rfl
@[simp] theorem State.modHeat_heat (s : State) (f : HeatMonitor → HeatMonitor) :
    (s.modHeat f).heat = f s.heat := rfl
@[simp] theorem State.modHeat_alarm (s : State) (f : HeatMonitor → HeatMonitor) :
    (s.modHeat f).alarm = s.alarm := rfl
@[simp] theorem State.modHeat_capture (s : State) (f : HeatMonitor → HeatMonitor) :
    (s.modHeat f).capture = s.capture := rfl
@[simp] theorem State.modHeat_slotFull (s : State) (f : HeatMonitor → HeatMonitor) :
    (s.modHeat f).slotFull = s.slotFull := rfl
@[simp] theorem State.modHeat_pending (s : State) (f : HeatMonitor → HeatMonitor) :
    (s.modHeat f).pending = s.pending := rfl

/-! ### `State.modAlarm` -/

@[simp] theorem State.modAlarm_now (s : State) (f : AlarmUnit → AlarmUnit) :
    (s.modAlarm f).now = s.now := rfl
@[simp] theorem State.modAlarm_pins (s : State) (f : AlarmUnit → AlarmUnit) :
    (s.modAlarm f).pins = s.pins := rfl
@[simp] theorem State.modAlarm_out (s : State) (f : AlarmUnit → AlarmUnit) :
    (s.modAlarm f).out = s.out := rfl
@[simp] theorem State.modAlarm_ctl (s : State) (f : AlarmUnit → AlarmUnit) :
    (s.modAlarm f).ctl = s.ctl := rfl
@[simp] theorem State.modAlarm_link (s : State) (f : AlarmUnit → AlarmUnit) :
    (s.modAlarm f).link = s.link := rfl
@[simp] theorem State.modAlarm_peers (s : State) (f : AlarmUnit → AlarmUnit) :
    (s.modAlarm f).peers = s.peers := rfl
@[simp] theorem State.modAlarm_consent (s : State) (f : AlarmUnit → AlarmUnit) :
    (s.modAlarm f).consent = s.consent := rfl
@[simp] theorem State.modAlarm_meas (s : State) (f : AlarmUnit → AlarmUnit) :
    (s.modAlarm f).meas = s.meas := rfl
@[simp] theorem State.modAlarm_drive (s : State) (f : AlarmUnit → AlarmUnit) :
    (s.modAlarm f).drive = s.drive := rfl
@[simp] theorem State.modAlarm_role (s : State) (f : AlarmUnit → AlarmUnit) :
    (s.modAlarm f).role = s.role := rfl
@[simp] theorem State.modAlarm_walk (s : State) (f : AlarmUnit → AlarmUnit) :
    (s.modAlarm f).walk = s.walk := rfl
@[simp] theorem State.modAlarm_heat (s : State) (f : AlarmUnit → AlarmUnit) :
    (s.modAlarm f).heat = s.heat := rfl
@[simp] theorem State.modAlarm_alarm (s : State) (f : AlarmUnit → AlarmUnit) :
    (s.modAlarm f).alarm = f s.alarm := rfl
@[simp] theorem State.modAlarm_capture (s : State) (f : AlarmUnit → AlarmUnit) :
    (s.modAlarm f).capture = s.capture := rfl
@[simp] theorem State.modAlarm_slotFull (s : State) (f : AlarmUnit → AlarmUnit) :
    (s.modAlarm f).slotFull = s.slotFull := rfl
@[simp] theorem State.modAlarm_pending (s : State) (f : AlarmUnit → AlarmUnit) :
    (s.modAlarm f).pending = s.pending := rfl

/-! ### `State.modCapture` -/

@[simp] theorem State.modCapture_now (s : State) (f : CaptureStore → CaptureStore) :
    (s.modCapture f).now = s.now := rfl
@[simp] theorem State.modCapture_pins (s : State) (f : CaptureStore → CaptureStore) :
    (s.modCapture f).pins = s.pins := rfl
@[simp] theorem State.modCapture_out (s : State) (f : CaptureStore → CaptureStore) :
    (s.modCapture f).out = s.out := rfl
@[simp] theorem State.modCapture_ctl (s : State) (f : CaptureStore → CaptureStore) :
    (s.modCapture f).ctl = s.ctl := rfl
@[simp] theorem State.modCapture_link (s : State) (f : CaptureStore → CaptureStore) :
    (s.modCapture f).link = s.link := rfl
@[simp] theorem State.modCapture_peers (s : State) (f : CaptureStore → CaptureStore) :
    (s.modCapture f).peers = s.peers := rfl
@[simp] theorem State.modCapture_consent (s : State) (f : CaptureStore → CaptureStore) :
    (s.modCapture f).consent = s.consent := rfl
@[simp] theorem State.modCapture_meas (s : State) (f : CaptureStore → CaptureStore) :
    (s.modCapture f).meas = s.meas := rfl
@[simp] theorem State.modCapture_drive (s : State) (f : CaptureStore → CaptureStore) :
    (s.modCapture f).drive = s.drive := rfl
@[simp] theorem State.modCapture_role (s : State) (f : CaptureStore → CaptureStore) :
    (s.modCapture f).role = s.role := rfl
@[simp] theorem State.modCapture_walk (s : State) (f : CaptureStore → CaptureStore) :
    (s.modCapture f).walk = s.walk := rfl
@[simp] theorem State.modCapture_heat (s : State) (f : CaptureStore → CaptureStore) :
    (s.modCapture f).heat = s.heat := rfl
@[simp] theorem State.modCapture_alarm (s : State) (f : CaptureStore → CaptureStore) :
    (s.modCapture f).alarm = s.alarm := rfl
@[simp] theorem State.modCapture_capture (s : State) (f : CaptureStore → CaptureStore) :
    (s.modCapture f).capture = f s.capture := rfl
@[simp] theorem State.modCapture_slotFull (s : State) (f : CaptureStore → CaptureStore) :
    (s.modCapture f).slotFull = s.slotFull := rfl
@[simp] theorem State.modCapture_pending (s : State) (f : CaptureStore → CaptureStore) :
    (s.modCapture f).pending = s.pending := rfl

/-! ### `State.setSlot` -/

@[simp] theorem State.setSlot_now (s : State) (b : Bool) : (s.setSlot b).now = s.now := rfl
@[simp] theorem State.setSlot_pins (s : State) (b : Bool) : (s.setSlot b).pins = s.pins := rfl
@[simp] theorem State.setSlot_out (s : State) (b : Bool) : (s.setSlot b).out = s.out := rfl
@[simp] theorem State.setSlot_ctl (s : State) (b : Bool) : (s.setSlot b).ctl = s.ctl := rfl
@[simp] theorem State.setSlot_link (s : State) (b : Bool) : (s.setSlot b).link = s.link := rfl
@[simp] theorem State.setSlot_peers (s : State) (b : Bool) : (s.setSlot b).peers = s.peers := rfl
@[simp] theorem State.setSlot_consent (s : State) (b : Bool) :
    (s.setSlot b).consent = s.consent := rfl
@[simp] theorem State.setSlot_meas (s : State) (b : Bool) : (s.setSlot b).meas = s.meas := rfl
@[simp] theorem State.setSlot_drive (s : State) (b : Bool) : (s.setSlot b).drive = s.drive := rfl
@[simp] theorem State.setSlot_role (s : State) (b : Bool) : (s.setSlot b).role = s.role := rfl
@[simp] theorem State.setSlot_walk (s : State) (b : Bool) : (s.setSlot b).walk = s.walk := rfl
@[simp] theorem State.setSlot_heat (s : State) (b : Bool) : (s.setSlot b).heat = s.heat := rfl
@[simp] theorem State.setSlot_alarm (s : State) (b : Bool) : (s.setSlot b).alarm = s.alarm := rfl
@[simp] theorem State.setSlot_capture (s : State) (b : Bool) :
    (s.setSlot b).capture = s.capture := rfl
@[simp] theorem State.setSlot_slotFull (s : State) (b : Bool) : (s.setSlot b).slotFull = b := rfl
@[simp] theorem State.setSlot_pending (s : State) (b : Bool) :
    (s.setSlot b).pending = s.pending := rfl

/-! ### `State.modOwn` -/

@[simp] theorem State.modOwn_now (s : State) (f : OwnRecord → OwnRecord) :
    (s.modOwn f).now = s.now := rfl
@[simp] theorem State.modOwn_pins (s : State) (f : OwnRecord → OwnRecord) :
    (s.modOwn f).pins = s.pins := rfl
@[simp] theorem State.modOwn_out (s : State) (f : OwnRecord → OwnRecord) :
    (s.modOwn f).out = s.out := rfl
@[simp] theorem State.modOwn_ctl (s : State) (f : OwnRecord → OwnRecord) :
    (s.modOwn f).ctl = s.ctl := rfl
@[simp] theorem State.modOwn_link (s : State) (f : OwnRecord → OwnRecord) :
    (s.modOwn f).link = s.link := rfl
@[simp] theorem State.modOwn_peers (s : State) (f : OwnRecord → OwnRecord) :
    (s.modOwn f).peers = s.peers := rfl
@[simp] theorem State.modOwn_consent (s : State) (f : OwnRecord → OwnRecord) :
    (s.modOwn f).consent = { s.consent with own := f s.consent.own } := rfl
@[simp] theorem State.modOwn_meas (s : State) (f : OwnRecord → OwnRecord) :
    (s.modOwn f).meas = s.meas := rfl
@[simp] theorem State.modOwn_drive (s : State) (f : OwnRecord → OwnRecord) :
    (s.modOwn f).drive = s.drive := rfl
@[simp] theorem State.modOwn_role (s : State) (f : OwnRecord → OwnRecord) :
    (s.modOwn f).role = s.role := rfl
@[simp] theorem State.modOwn_walk (s : State) (f : OwnRecord → OwnRecord) :
    (s.modOwn f).walk = s.walk := rfl
@[simp] theorem State.modOwn_heat (s : State) (f : OwnRecord → OwnRecord) :
    (s.modOwn f).heat = s.heat := rfl
@[simp] theorem State.modOwn_alarm (s : State) (f : OwnRecord → OwnRecord) :
    (s.modOwn f).alarm = s.alarm := rfl
@[simp] theorem State.modOwn_capture (s : State) (f : OwnRecord → OwnRecord) :
    (s.modOwn f).capture = s.capture := rfl
@[simp] theorem State.modOwn_slotFull (s : State) (f : OwnRecord → OwnRecord) :
    (s.modOwn f).slotFull = s.slotFull := rfl
@[simp] theorem State.modOwn_pending (s : State) (f : OwnRecord → OwnRecord) :
    (s.modOwn f).pending = s.pending := rfl

/-! ### `State.modEntry` -/

@[simp] theorem State.modEntry_now (s : State) (n : Station) (f : PeerEntry → PeerEntry) :
    (s.modEntry n f).now = s.now := rfl
@[simp] theorem State.modEntry_pins (s : State) (n : Station) (f : PeerEntry → PeerEntry) :
    (s.modEntry n f).pins = s.pins := rfl
@[simp] theorem State.modEntry_out (s : State) (n : Station) (f : PeerEntry → PeerEntry) :
    (s.modEntry n f).out = s.out := rfl
@[simp] theorem State.modEntry_ctl (s : State) (n : Station) (f : PeerEntry → PeerEntry) :
    (s.modEntry n f).ctl = s.ctl := rfl
@[simp] theorem State.modEntry_link (s : State) (n : Station) (f : PeerEntry → PeerEntry) :
    (s.modEntry n f).link = s.link := rfl
@[simp] theorem State.modEntry_peers (s : State) (n : Station) (f : PeerEntry → PeerEntry) :
    (s.modEntry n f).peers = { s.peers with entries := s.peers.entries.set n (f s.peers.entries[n]) } := rfl
@[simp] theorem State.modEntry_consent (s : State) (n : Station) (f : PeerEntry → PeerEntry) :
    (s.modEntry n f).consent = s.consent := rfl
@[simp] theorem State.modEntry_meas (s : State) (n : Station) (f : PeerEntry → PeerEntry) :
    (s.modEntry n f).meas = s.meas := rfl
@[simp] theorem State.modEntry_drive (s : State) (n : Station) (f : PeerEntry → PeerEntry) :
    (s.modEntry n f).drive = s.drive := rfl
@[simp] theorem State.modEntry_role (s : State) (n : Station) (f : PeerEntry → PeerEntry) :
    (s.modEntry n f).role = s.role := rfl
@[simp] theorem State.modEntry_walk (s : State) (n : Station) (f : PeerEntry → PeerEntry) :
    (s.modEntry n f).walk = s.walk := rfl
@[simp] theorem State.modEntry_heat (s : State) (n : Station) (f : PeerEntry → PeerEntry) :
    (s.modEntry n f).heat = s.heat := rfl
@[simp] theorem State.modEntry_alarm (s : State) (n : Station) (f : PeerEntry → PeerEntry) :
    (s.modEntry n f).alarm = s.alarm := rfl
@[simp] theorem State.modEntry_capture (s : State) (n : Station) (f : PeerEntry → PeerEntry) :
    (s.modEntry n f).capture = s.capture := rfl
@[simp] theorem State.modEntry_slotFull (s : State) (n : Station) (f : PeerEntry → PeerEntry) :
    (s.modEntry n f).slotFull = s.slotFull := rfl
@[simp] theorem State.modEntry_pending (s : State) (n : Station) (f : PeerEntry → PeerEntry) :
    (s.modEntry n f).pending = s.pending := rfl

/-! ### `State.setBrake` -/

@[simp] theorem State.setBrake_now (s : State) (b : Bool) : (s.setBrake b).now = s.now := rfl
@[simp] theorem State.setBrake_pins (s : State) (b : Bool) : (s.setBrake b).pins = s.pins := rfl
@[simp] theorem State.setBrake_out (s : State) (b : Bool) :
    (s.setBrake b).out = { s.out with brakeSet := b } := rfl
@[simp] theorem State.setBrake_ctl (s : State) (b : Bool) : (s.setBrake b).ctl = s.ctl := rfl
@[simp] theorem State.setBrake_link (s : State) (b : Bool) : (s.setBrake b).link = s.link := rfl
@[simp] theorem State.setBrake_peers (s : State) (b : Bool) : (s.setBrake b).peers = s.peers := rfl
@[simp] theorem State.setBrake_consent (s : State) (b : Bool) :
    (s.setBrake b).consent = s.consent := rfl
@[simp] theorem State.setBrake_meas (s : State) (b : Bool) : (s.setBrake b).meas = s.meas := rfl
@[simp] theorem State.setBrake_drive (s : State) (b : Bool) : (s.setBrake b).drive = s.drive := rfl
@[simp] theorem State.setBrake_role (s : State) (b : Bool) : (s.setBrake b).role = s.role := rfl
@[simp] theorem State.setBrake_walk (s : State) (b : Bool) : (s.setBrake b).walk = s.walk := rfl
@[simp] theorem State.setBrake_heat (s : State) (b : Bool) : (s.setBrake b).heat = s.heat := rfl
@[simp] theorem State.setBrake_alarm (s : State) (b : Bool) : (s.setBrake b).alarm = s.alarm := rfl
@[simp] theorem State.setBrake_capture (s : State) (b : Bool) :
    (s.setBrake b).capture = s.capture := rfl
@[simp] theorem State.setBrake_slotFull (s : State) (b : Bool) :
    (s.setBrake b).slotFull = s.slotFull := rfl
@[simp] theorem State.setBrake_pending (s : State) (b : Bool) :
    (s.setBrake b).pending = s.pending := rfl

/-! ### `State.setTransfer` -/

@[simp] theorem State.setTransfer_now (s : State) (b : Bool) : (s.setTransfer b).now = s.now := rfl
@[simp] theorem State.setTransfer_pins (s : State) (b : Bool) :
    (s.setTransfer b).pins = s.pins := rfl
@[simp] theorem State.setTransfer_out (s : State) (b : Bool) :
    (s.setTransfer b).out = { s.out with transferClosed := b } := rfl
@[simp] theorem State.setTransfer_ctl (s : State) (b : Bool) : (s.setTransfer b).ctl = s.ctl := rfl
@[simp] theorem State.setTransfer_link (s : State) (b : Bool) :
    (s.setTransfer b).link = s.link := rfl
@[simp] theorem State.setTransfer_peers (s : State) (b : Bool) :
    (s.setTransfer b).peers = s.peers := rfl
@[simp] theorem State.setTransfer_consent (s : State) (b : Bool) :
    (s.setTransfer b).consent = s.consent := rfl
@[simp] theorem State.setTransfer_meas (s : State) (b : Bool) :
    (s.setTransfer b).meas = s.meas := rfl
@[simp] theorem State.setTransfer_drive (s : State) (b : Bool) :
    (s.setTransfer b).drive = s.drive := rfl
@[simp] theorem State.setTransfer_role (s : State) (b : Bool) :
    (s.setTransfer b).role = s.role := rfl
@[simp] theorem State.setTransfer_walk (s : State) (b : Bool) :
    (s.setTransfer b).walk = s.walk := rfl
@[simp] theorem State.setTransfer_heat (s : State) (b : Bool) :
    (s.setTransfer b).heat = s.heat := rfl
@[simp] theorem State.setTransfer_alarm (s : State) (b : Bool) :
    (s.setTransfer b).alarm = s.alarm := rfl
@[simp] theorem State.setTransfer_capture (s : State) (b : Bool) :
    (s.setTransfer b).capture = s.capture := rfl
@[simp] theorem State.setTransfer_slotFull (s : State) (b : Bool) :
    (s.setTransfer b).slotFull = s.slotFull := rfl
@[simp] theorem State.setTransfer_pending (s : State) (b : Bool) :
    (s.setTransfer b).pending = s.pending := rfl

/-! ### `State.setDuty` -/

@[simp] theorem State.setDuty_now (s : State) (d : Int) : (s.setDuty d).now = s.now := rfl
@[simp] theorem State.setDuty_pins (s : State) (d : Int) : (s.setDuty d).pins = s.pins := rfl
@[simp] theorem State.setDuty_ctl (s : State) (d : Int) : (s.setDuty d).ctl = s.ctl := rfl
@[simp] theorem State.setDuty_link (s : State) (d : Int) : (s.setDuty d).link = s.link := rfl
@[simp] theorem State.setDuty_peers (s : State) (d : Int) : (s.setDuty d).peers = s.peers := rfl
@[simp] theorem State.setDuty_consent (s : State) (d : Int) :
    (s.setDuty d).consent = s.consent := rfl
@[simp] theorem State.setDuty_meas (s : State) (d : Int) : (s.setDuty d).meas = s.meas := rfl
@[simp] theorem State.setDuty_drive (s : State) (d : Int) :
    (s.setDuty d).drive = { s.drive with duty := d } := rfl
@[simp] theorem State.setDuty_role (s : State) (d : Int) : (s.setDuty d).role = s.role := rfl
@[simp] theorem State.setDuty_walk (s : State) (d : Int) : (s.setDuty d).walk = s.walk := rfl
@[simp] theorem State.setDuty_heat (s : State) (d : Int) : (s.setDuty d).heat = s.heat := rfl
@[simp] theorem State.setDuty_alarm (s : State) (d : Int) : (s.setDuty d).alarm = s.alarm := rfl
@[simp] theorem State.setDuty_capture (s : State) (d : Int) :
    (s.setDuty d).capture = s.capture := rfl
@[simp] theorem State.setDuty_slotFull (s : State) (d : Int) :
    (s.setDuty d).slotFull = s.slotFull := rfl
@[simp] theorem State.setDuty_pending (s : State) (d : Int) :
    (s.setDuty d).pending = s.pending := rfl

/-! ### `State.clearReference` -/

@[simp] theorem State.clearReference_now (s : State) : s.clearReference.now = s.now := rfl
@[simp] theorem State.clearReference_pins (s : State) : s.clearReference.pins = s.pins := rfl
@[simp] theorem State.clearReference_out (s : State) :
    s.clearReference.out = { s.out with fieldPwm := 0 } := rfl
@[simp] theorem State.clearReference_ctl (s : State) : s.clearReference.ctl = s.ctl := rfl
@[simp] theorem State.clearReference_link (s : State) : s.clearReference.link = s.link := rfl
@[simp] theorem State.clearReference_peers (s : State) : s.clearReference.peers = s.peers := rfl
@[simp] theorem State.clearReference_consent (s : State) :
    s.clearReference.consent = s.consent := rfl
@[simp] theorem State.clearReference_meas (s : State) : s.clearReference.meas = s.meas := rfl
@[simp] theorem State.clearReference_drive (s : State) :
    s.clearReference.drive = { s.drive with reference := 0, duty := 0 } := rfl
@[simp] theorem State.clearReference_role (s : State) : s.clearReference.role = s.role := rfl
@[simp] theorem State.clearReference_walk (s : State) : s.clearReference.walk = s.walk := rfl
@[simp] theorem State.clearReference_heat (s : State) : s.clearReference.heat = s.heat := rfl
@[simp] theorem State.clearReference_alarm (s : State) : s.clearReference.alarm = s.alarm := rfl
@[simp] theorem State.clearReference_capture (s : State) :
    s.clearReference.capture = s.capture := rfl
@[simp] theorem State.clearReference_slotFull (s : State) :
    s.clearReference.slotFull = s.slotFull := rfl
@[simp] theorem State.clearReference_pending (s : State) :
    s.clearReference.pending = s.pending := rfl

/-! ### `State.putCause` -/

@[simp] theorem State.putCause_now (s : State) (c : HoldCause) (b : Bool) :
    (s.putCause c b).now = s.now := rfl
@[simp] theorem State.putCause_pins (s : State) (c : HoldCause) (b : Bool) :
    (s.putCause c b).pins = s.pins := rfl
@[simp] theorem State.putCause_out (s : State) (c : HoldCause) (b : Bool) :
    (s.putCause c b).out = s.out := rfl
@[simp] theorem State.putCause_ctl (s : State) (c : HoldCause) (b : Bool) :
    (s.putCause c b).ctl = { s.ctl with causes := s.ctl.causes.put c b } := rfl
@[simp] theorem State.putCause_link (s : State) (c : HoldCause) (b : Bool) :
    (s.putCause c b).link = s.link := rfl
@[simp] theorem State.putCause_peers (s : State) (c : HoldCause) (b : Bool) :
    (s.putCause c b).peers = s.peers := rfl
@[simp] theorem State.putCause_consent (s : State) (c : HoldCause) (b : Bool) :
    (s.putCause c b).consent = s.consent := rfl
@[simp] theorem State.putCause_meas (s : State) (c : HoldCause) (b : Bool) :
    (s.putCause c b).meas = s.meas := rfl
@[simp] theorem State.putCause_drive (s : State) (c : HoldCause) (b : Bool) :
    (s.putCause c b).drive = s.drive := rfl
@[simp] theorem State.putCause_role (s : State) (c : HoldCause) (b : Bool) :
    (s.putCause c b).role = s.role := rfl
@[simp] theorem State.putCause_walk (s : State) (c : HoldCause) (b : Bool) :
    (s.putCause c b).walk = s.walk := rfl
@[simp] theorem State.putCause_heat (s : State) (c : HoldCause) (b : Bool) :
    (s.putCause c b).heat = s.heat := rfl
@[simp] theorem State.putCause_alarm (s : State) (c : HoldCause) (b : Bool) :
    (s.putCause c b).alarm = s.alarm := rfl
@[simp] theorem State.putCause_capture (s : State) (c : HoldCause) (b : Bool) :
    (s.putCause c b).capture = s.capture := rfl
@[simp] theorem State.putCause_slotFull (s : State) (c : HoldCause) (b : Bool) :
    (s.putCause c b).slotFull = s.slotFull := rfl
@[simp] theorem State.putCause_pending (s : State) (c : HoldCause) (b : Bool) :
    (s.putCause c b).pending = s.pending := rfl

/-! ### `State.workLamps` -/

@[simp] theorem State.workLamps_now (s : State) : s.workLamps.now = s.now := rfl
@[simp] theorem State.workLamps_pins (s : State) : s.workLamps.pins = s.pins := rfl
@[simp] theorem State.workLamps_out (s : State) :
    s.workLamps.out = { s.out with
      horn := s.hornState, lampWarn := s.lampWarnState, lampTrip := s.lampTripState } := rfl
@[simp] theorem State.workLamps_ctl (s : State) : s.workLamps.ctl = s.ctl := rfl
@[simp] theorem State.workLamps_link (s : State) : s.workLamps.link = s.link := rfl
@[simp] theorem State.workLamps_peers (s : State) : s.workLamps.peers = s.peers := rfl
@[simp] theorem State.workLamps_consent (s : State) : s.workLamps.consent = s.consent := rfl
@[simp] theorem State.workLamps_meas (s : State) : s.workLamps.meas = s.meas := rfl
@[simp] theorem State.workLamps_drive (s : State) : s.workLamps.drive = s.drive := rfl
@[simp] theorem State.workLamps_role (s : State) : s.workLamps.role = s.role := rfl
@[simp] theorem State.workLamps_walk (s : State) : s.workLamps.walk = s.walk := rfl
@[simp] theorem State.workLamps_heat (s : State) : s.workLamps.heat = s.heat := rfl
@[simp] theorem State.workLamps_alarm (s : State) : s.workLamps.alarm = s.alarm := rfl
@[simp] theorem State.workLamps_capture (s : State) : s.workLamps.capture = s.capture := rfl
@[simp] theorem State.workLamps_slotFull (s : State) : s.workLamps.slotFull = s.slotFull := rfl
@[simp] theorem State.workLamps_pending (s : State) : s.workLamps.pending = s.pending := rfl

/-! ### `State.setMode` -/

@[simp] theorem State.setMode_now (s : State) (m : Mode) : (s.setMode m).now = s.now := rfl
@[simp] theorem State.setMode_pins (s : State) (m : Mode) : (s.setMode m).pins = s.pins := rfl
@[simp] theorem State.setMode_ctl (s : State) (m : Mode) :
    (s.setMode m).ctl = { s.ctl with mode := m } := rfl
@[simp] theorem State.setMode_link (s : State) (m : Mode) : (s.setMode m).link = s.link := rfl
@[simp] theorem State.setMode_peers (s : State) (m : Mode) : (s.setMode m).peers = s.peers := rfl
@[simp] theorem State.setMode_consent (s : State) (m : Mode) :
    (s.setMode m).consent = s.consent := rfl
@[simp] theorem State.setMode_meas (s : State) (m : Mode) : (s.setMode m).meas = s.meas := rfl
@[simp] theorem State.setMode_drive (s : State) (m : Mode) : (s.setMode m).drive = s.drive := rfl
@[simp] theorem State.setMode_role (s : State) (m : Mode) : (s.setMode m).role = s.role := rfl
@[simp] theorem State.setMode_walk (s : State) (m : Mode) : (s.setMode m).walk = s.walk := rfl
@[simp] theorem State.setMode_heat (s : State) (m : Mode) : (s.setMode m).heat = s.heat := rfl
@[simp] theorem State.setMode_alarm (s : State) (m : Mode) : (s.setMode m).alarm = s.alarm := rfl
@[simp] theorem State.setMode_capture (s : State) (m : Mode) :
    (s.setMode m).capture = s.capture := rfl
@[simp] theorem State.setMode_slotFull (s : State) (m : Mode) :
    (s.setMode m).slotFull = s.slotFull := rfl
@[simp] theorem State.setMode_pending (s : State) (m : Mode) :
    (s.setMode m).pending = s.pending := rfl

/-! ### `State.setAnn` -/

@[simp] theorem State.setAnn_now (s : State) (c : AlarmCode) (x : AnnState) :
    (s.setAnn c x).now = s.now := rfl
@[simp] theorem State.setAnn_pins (s : State) (c : AlarmCode) (x : AnnState) :
    (s.setAnn c x).pins = s.pins := rfl
@[simp] theorem State.setAnn_ctl (s : State) (c : AlarmCode) (x : AnnState) :
    (s.setAnn c x).ctl = s.ctl := rfl
@[simp] theorem State.setAnn_link (s : State) (c : AlarmCode) (x : AnnState) :
    (s.setAnn c x).link = s.link := rfl
@[simp] theorem State.setAnn_peers (s : State) (c : AlarmCode) (x : AnnState) :
    (s.setAnn c x).peers = s.peers := rfl
@[simp] theorem State.setAnn_consent (s : State) (c : AlarmCode) (x : AnnState) :
    (s.setAnn c x).consent = s.consent := rfl
@[simp] theorem State.setAnn_meas (s : State) (c : AlarmCode) (x : AnnState) :
    (s.setAnn c x).meas = s.meas := rfl
@[simp] theorem State.setAnn_drive (s : State) (c : AlarmCode) (x : AnnState) :
    (s.setAnn c x).drive = s.drive := rfl
@[simp] theorem State.setAnn_role (s : State) (c : AlarmCode) (x : AnnState) :
    (s.setAnn c x).role = s.role := rfl
@[simp] theorem State.setAnn_walk (s : State) (c : AlarmCode) (x : AnnState) :
    (s.setAnn c x).walk = s.walk := rfl
@[simp] theorem State.setAnn_heat (s : State) (c : AlarmCode) (x : AnnState) :
    (s.setAnn c x).heat = s.heat := rfl
@[simp] theorem State.setAnn_alarm (s : State) (c : AlarmCode) (x : AnnState) :
    (s.setAnn c x).alarm = { s.alarm with table := s.alarm.table.set c.index x } := rfl
@[simp] theorem State.setAnn_capture (s : State) (c : AlarmCode) (x : AnnState) :
    (s.setAnn c x).capture = s.capture := rfl
@[simp] theorem State.setAnn_slotFull (s : State) (c : AlarmCode) (x : AnnState) :
    (s.setAnn c x).slotFull = s.slotFull := rfl
@[simp] theorem State.setAnn_pending (s : State) (c : AlarmCode) (x : AnnState) :
    (s.setAnn c x).pending = s.pending := rfl

/-! ### `State.log` -/

@[simp] theorem State.log_now (s : State) (c : AlarmCode) (e : ListEvent) (v : Word16) (n : BitVec 4) :
    (s.log c e v n).now = s.now := rfl
@[simp] theorem State.log_pins (s : State) (c : AlarmCode) (e : ListEvent) (v : Word16) (n : BitVec 4) :
    (s.log c e v n).pins = s.pins := rfl
@[simp] theorem State.log_out (s : State) (c : AlarmCode) (e : ListEvent) (v : Word16) (n : BitVec 4) :
    (s.log c e v n).out = s.out := rfl
@[simp] theorem State.log_ctl (s : State) (c : AlarmCode) (e : ListEvent) (v : Word16) (n : BitVec 4) :
    (s.log c e v n).ctl = s.ctl := rfl
@[simp] theorem State.log_link (s : State) (c : AlarmCode) (e : ListEvent) (v : Word16) (n : BitVec 4) :
    (s.log c e v n).link = s.link := rfl
@[simp] theorem State.log_peers (s : State) (c : AlarmCode) (e : ListEvent) (v : Word16) (n : BitVec 4) :
    (s.log c e v n).peers = s.peers := rfl
@[simp] theorem State.log_consent (s : State) (c : AlarmCode) (e : ListEvent) (v : Word16) (n : BitVec 4) :
    (s.log c e v n).consent = s.consent := rfl
@[simp] theorem State.log_meas (s : State) (c : AlarmCode) (e : ListEvent) (v : Word16) (n : BitVec 4) :
    (s.log c e v n).meas = s.meas := rfl
@[simp] theorem State.log_drive (s : State) (c : AlarmCode) (e : ListEvent) (v : Word16) (n : BitVec 4) :
    (s.log c e v n).drive = s.drive := rfl
@[simp] theorem State.log_role (s : State) (c : AlarmCode) (e : ListEvent) (v : Word16) (n : BitVec 4) :
    (s.log c e v n).role = s.role := rfl
@[simp] theorem State.log_walk (s : State) (c : AlarmCode) (e : ListEvent) (v : Word16) (n : BitVec 4) :
    (s.log c e v n).walk = s.walk := rfl
@[simp] theorem State.log_heat (s : State) (c : AlarmCode) (e : ListEvent) (v : Word16) (n : BitVec 4) :
    (s.log c e v n).heat = s.heat := rfl
@[simp] theorem State.log_capture (s : State) (c : AlarmCode) (e : ListEvent) (v : Word16) (n : BitVec 4) :
    (s.log c e v n).capture = s.capture := rfl
@[simp] theorem State.log_slotFull (s : State) (c : AlarmCode) (e : ListEvent) (v : Word16) (n : BitVec 4) :
    (s.log c e v n).slotFull = s.slotFull := rfl
@[simp] theorem State.log_pending (s : State) (c : AlarmCode) (e : ListEvent) (v : Word16) (n : BitVec 4) :
    (s.log c e v n).pending = s.pending := rfl

/-! ### `State.logOwn` -/

@[simp] theorem State.logOwn_now (s : State) (c : AlarmCode) (e : ListEvent) (v : Word16) :
    (s.logOwn c e v).now = s.now := rfl
@[simp] theorem State.logOwn_pins (s : State) (c : AlarmCode) (e : ListEvent) (v : Word16) :
    (s.logOwn c e v).pins = s.pins := rfl
@[simp] theorem State.logOwn_out (s : State) (c : AlarmCode) (e : ListEvent) (v : Word16) :
    (s.logOwn c e v).out = s.out := rfl
@[simp] theorem State.logOwn_ctl (s : State) (c : AlarmCode) (e : ListEvent) (v : Word16) :
    (s.logOwn c e v).ctl = s.ctl := rfl
@[simp] theorem State.logOwn_link (s : State) (c : AlarmCode) (e : ListEvent) (v : Word16) :
    (s.logOwn c e v).link = s.link := rfl
@[simp] theorem State.logOwn_peers (s : State) (c : AlarmCode) (e : ListEvent) (v : Word16) :
    (s.logOwn c e v).peers = s.peers := rfl
@[simp] theorem State.logOwn_consent (s : State) (c : AlarmCode) (e : ListEvent) (v : Word16) :
    (s.logOwn c e v).consent = s.consent := rfl
@[simp] theorem State.logOwn_meas (s : State) (c : AlarmCode) (e : ListEvent) (v : Word16) :
    (s.logOwn c e v).meas = s.meas := rfl
@[simp] theorem State.logOwn_drive (s : State) (c : AlarmCode) (e : ListEvent) (v : Word16) :
    (s.logOwn c e v).drive = s.drive := rfl
@[simp] theorem State.logOwn_role (s : State) (c : AlarmCode) (e : ListEvent) (v : Word16) :
    (s.logOwn c e v).role = s.role := rfl
@[simp] theorem State.logOwn_walk (s : State) (c : AlarmCode) (e : ListEvent) (v : Word16) :
    (s.logOwn c e v).walk = s.walk := rfl
@[simp] theorem State.logOwn_heat (s : State) (c : AlarmCode) (e : ListEvent) (v : Word16) :
    (s.logOwn c e v).heat = s.heat := rfl
@[simp] theorem State.logOwn_capture (s : State) (c : AlarmCode) (e : ListEvent) (v : Word16) :
    (s.logOwn c e v).capture = s.capture := rfl
@[simp] theorem State.logOwn_slotFull (s : State) (c : AlarmCode) (e : ListEvent) (v : Word16) :
    (s.logOwn c e v).slotFull = s.slotFull := rfl
@[simp] theorem State.logOwn_pending (s : State) (c : AlarmCode) (e : ListEvent) (v : Word16) :
    (s.logOwn c e v).pending = s.pending := rfl

/-! ### `State.latch` -/

@[simp] theorem State.latch_now (s : State) (c : AlarmCode) (v : Int) :
    (s.latch c v).now = s.now := rfl
@[simp] theorem State.latch_pins (s : State) (c : AlarmCode) (v : Int) :
    (s.latch c v).pins = s.pins := rfl
@[simp] theorem State.latch_ctl (s : State) (c : AlarmCode) (v : Int) :
    (s.latch c v).ctl = s.ctl := rfl
@[simp] theorem State.latch_link (s : State) (c : AlarmCode) (v : Int) :
    (s.latch c v).link = s.link := rfl
@[simp] theorem State.latch_peers (s : State) (c : AlarmCode) (v : Int) :
    (s.latch c v).peers = s.peers := rfl
@[simp] theorem State.latch_consent (s : State) (c : AlarmCode) (v : Int) :
    (s.latch c v).consent = s.consent := rfl
@[simp] theorem State.latch_meas (s : State) (c : AlarmCode) (v : Int) :
    (s.latch c v).meas = s.meas := rfl
@[simp] theorem State.latch_drive (s : State) (c : AlarmCode) (v : Int) :
    (s.latch c v).drive = s.drive := rfl
@[simp] theorem State.latch_role (s : State) (c : AlarmCode) (v : Int) :
    (s.latch c v).role = s.role := rfl
@[simp] theorem State.latch_walk (s : State) (c : AlarmCode) (v : Int) :
    (s.latch c v).walk = s.walk := rfl
@[simp] theorem State.latch_heat (s : State) (c : AlarmCode) (v : Int) :
    (s.latch c v).heat = s.heat := rfl
@[simp] theorem State.latch_capture (s : State) (c : AlarmCode) (v : Int) :
    (s.latch c v).capture = s.capture := rfl
@[simp] theorem State.latch_slotFull (s : State) (c : AlarmCode) (v : Int) :
    (s.latch c v).slotFull = s.slotFull := rfl
@[simp] theorem State.latch_pending (s : State) (c : AlarmCode) (v : Int) :
    (s.latch c v).pending = s.pending := rfl

/-! ### `State.countMalformed` -/

@[simp] theorem State.countMalformed_now (s : State) : s.countMalformed.now = s.now := rfl
@[simp] theorem State.countMalformed_pins (s : State) : s.countMalformed.pins = s.pins := rfl
@[simp] theorem State.countMalformed_out (s : State) : s.countMalformed.out = s.out := rfl
@[simp] theorem State.countMalformed_ctl (s : State) : s.countMalformed.ctl = s.ctl := rfl
@[simp] theorem State.countMalformed_link (s : State) :
    s.countMalformed.link = { s.link with rxMalformed := satInc s.link.rxMalformed } := rfl
@[simp] theorem State.countMalformed_peers (s : State) : s.countMalformed.peers = s.peers := rfl
@[simp] theorem State.countMalformed_consent (s : State) :
    s.countMalformed.consent = s.consent := rfl
@[simp] theorem State.countMalformed_meas (s : State) : s.countMalformed.meas = s.meas := rfl
@[simp] theorem State.countMalformed_drive (s : State) : s.countMalformed.drive = s.drive := rfl
@[simp] theorem State.countMalformed_role (s : State) : s.countMalformed.role = s.role := rfl
@[simp] theorem State.countMalformed_walk (s : State) : s.countMalformed.walk = s.walk := rfl
@[simp] theorem State.countMalformed_heat (s : State) : s.countMalformed.heat = s.heat := rfl
@[simp] theorem State.countMalformed_alarm (s : State) : s.countMalformed.alarm = s.alarm := rfl
@[simp] theorem State.countMalformed_capture (s : State) :
    s.countMalformed.capture = s.capture := rfl
@[simp] theorem State.countMalformed_slotFull (s : State) :
    s.countMalformed.slotFull = s.slotFull := rfl
@[simp] theorem State.countMalformed_pending (s : State) :
    s.countMalformed.pending = s.pending := rfl

/-! ### `State.countBad` -/

@[simp] theorem State.countBad_now (s : State) : s.countBad.now = s.now := rfl
@[simp] theorem State.countBad_pins (s : State) : s.countBad.pins = s.pins := rfl
@[simp] theorem State.countBad_out (s : State) : s.countBad.out = s.out := rfl
@[simp] theorem State.countBad_ctl (s : State) : s.countBad.ctl = s.ctl := rfl
@[simp] theorem State.countBad_link (s : State) :
    s.countBad.link = { s.link with rxBad := satInc s.link.rxBad } := rfl
@[simp] theorem State.countBad_peers (s : State) : s.countBad.peers = s.peers := rfl
@[simp] theorem State.countBad_consent (s : State) : s.countBad.consent = s.consent := rfl
@[simp] theorem State.countBad_meas (s : State) : s.countBad.meas = s.meas := rfl
@[simp] theorem State.countBad_drive (s : State) : s.countBad.drive = s.drive := rfl
@[simp] theorem State.countBad_role (s : State) : s.countBad.role = s.role := rfl
@[simp] theorem State.countBad_walk (s : State) : s.countBad.walk = s.walk := rfl
@[simp] theorem State.countBad_heat (s : State) : s.countBad.heat = s.heat := rfl
@[simp] theorem State.countBad_alarm (s : State) : s.countBad.alarm = s.alarm := rfl
@[simp] theorem State.countBad_capture (s : State) : s.countBad.capture = s.capture := rfl
@[simp] theorem State.countBad_slotFull (s : State) : s.countBad.slotFull = s.slotFull := rfl
@[simp] theorem State.countBad_pending (s : State) : s.countBad.pending = s.pending := rfl

/-! ### `State.countDropped` -/

@[simp] theorem State.countDropped_now (s : State) : s.countDropped.now = s.now := rfl
@[simp] theorem State.countDropped_pins (s : State) : s.countDropped.pins = s.pins := rfl
@[simp] theorem State.countDropped_out (s : State) : s.countDropped.out = s.out := rfl
@[simp] theorem State.countDropped_ctl (s : State) : s.countDropped.ctl = s.ctl := rfl
@[simp] theorem State.countDropped_link (s : State) :
    s.countDropped.link = { s.link with txDropped := satInc s.link.txDropped } := rfl
@[simp] theorem State.countDropped_peers (s : State) : s.countDropped.peers = s.peers := rfl
@[simp] theorem State.countDropped_consent (s : State) : s.countDropped.consent = s.consent := rfl
@[simp] theorem State.countDropped_meas (s : State) : s.countDropped.meas = s.meas := rfl
@[simp] theorem State.countDropped_drive (s : State) : s.countDropped.drive = s.drive := rfl
@[simp] theorem State.countDropped_role (s : State) : s.countDropped.role = s.role := rfl
@[simp] theorem State.countDropped_walk (s : State) : s.countDropped.walk = s.walk := rfl
@[simp] theorem State.countDropped_heat (s : State) : s.countDropped.heat = s.heat := rfl
@[simp] theorem State.countDropped_alarm (s : State) : s.countDropped.alarm = s.alarm := rfl
@[simp] theorem State.countDropped_capture (s : State) : s.countDropped.capture = s.capture := rfl
@[simp] theorem State.countDropped_slotFull (s : State) :
    s.countDropped.slotFull = s.slotFull := rfl
@[simp] theorem State.countDropped_pending (s : State) : s.countDropped.pending = s.pending := rfl

/-! ### `State.joinQueue` -/

@[simp] theorem State.joinQueue_now (s : State) (f : OutFrame) : (s.joinQueue f).now = s.now := rfl
@[simp] theorem State.joinQueue_pins (s : State) (f : OutFrame) :
    (s.joinQueue f).pins = s.pins := rfl
@[simp] theorem State.joinQueue_out (s : State) (f : OutFrame) : (s.joinQueue f).out = s.out := rfl
@[simp] theorem State.joinQueue_ctl (s : State) (f : OutFrame) : (s.joinQueue f).ctl = s.ctl := rfl
@[simp] theorem State.joinQueue_link (s : State) (f : OutFrame) :
    (s.joinQueue f).link = { s.link with queue := insertByClass ⟨f, s.now, false, false⟩ s.link.queue } := rfl
@[simp] theorem State.joinQueue_peers (s : State) (f : OutFrame) :
    (s.joinQueue f).peers = s.peers := rfl
@[simp] theorem State.joinQueue_consent (s : State) (f : OutFrame) :
    (s.joinQueue f).consent = s.consent := rfl
@[simp] theorem State.joinQueue_meas (s : State) (f : OutFrame) :
    (s.joinQueue f).meas = s.meas := rfl
@[simp] theorem State.joinQueue_drive (s : State) (f : OutFrame) :
    (s.joinQueue f).drive = s.drive := rfl
@[simp] theorem State.joinQueue_role (s : State) (f : OutFrame) :
    (s.joinQueue f).role = s.role := rfl
@[simp] theorem State.joinQueue_walk (s : State) (f : OutFrame) :
    (s.joinQueue f).walk = s.walk := rfl
@[simp] theorem State.joinQueue_heat (s : State) (f : OutFrame) :
    (s.joinQueue f).heat = s.heat := rfl
@[simp] theorem State.joinQueue_alarm (s : State) (f : OutFrame) :
    (s.joinQueue f).alarm = s.alarm := rfl
@[simp] theorem State.joinQueue_capture (s : State) (f : OutFrame) :
    (s.joinQueue f).capture = s.capture := rfl
@[simp] theorem State.joinQueue_slotFull (s : State) (f : OutFrame) :
    (s.joinQueue f).slotFull = s.slotFull := rfl
@[simp] theorem State.joinQueue_pending (s : State) (f : OutFrame) :
    (s.joinQueue f).pending = s.pending := rfl

/-! ### `State.removePropose` -/

@[simp] theorem State.removePropose_now (s : State) (n : Byte) :
    (s.removePropose n).now = s.now := rfl
@[simp] theorem State.removePropose_pins (s : State) (n : Byte) :
    (s.removePropose n).pins = s.pins := rfl
@[simp] theorem State.removePropose_out (s : State) (n : Byte) :
    (s.removePropose n).out = s.out := rfl
@[simp] theorem State.removePropose_ctl (s : State) (n : Byte) :
    (s.removePropose n).ctl = s.ctl := rfl
@[simp] theorem State.removePropose_peers (s : State) (n : Byte) :
    (s.removePropose n).peers = s.peers := rfl
@[simp] theorem State.removePropose_consent (s : State) (n : Byte) :
    (s.removePropose n).consent = s.consent := rfl
@[simp] theorem State.removePropose_meas (s : State) (n : Byte) :
    (s.removePropose n).meas = s.meas := rfl
@[simp] theorem State.removePropose_drive (s : State) (n : Byte) :
    (s.removePropose n).drive = s.drive := rfl
@[simp] theorem State.removePropose_role (s : State) (n : Byte) :
    (s.removePropose n).role = s.role := rfl
@[simp] theorem State.removePropose_walk (s : State) (n : Byte) :
    (s.removePropose n).walk = s.walk := rfl
@[simp] theorem State.removePropose_heat (s : State) (n : Byte) :
    (s.removePropose n).heat = s.heat := rfl
@[simp] theorem State.removePropose_alarm (s : State) (n : Byte) :
    (s.removePropose n).alarm = s.alarm := rfl
@[simp] theorem State.removePropose_capture (s : State) (n : Byte) :
    (s.removePropose n).capture = s.capture := rfl
@[simp] theorem State.removePropose_slotFull (s : State) (n : Byte) :
    (s.removePropose n).slotFull = s.slotFull := rfl
@[simp] theorem State.removePropose_pending (s : State) (n : Byte) :
    (s.removePropose n).pending = s.pending := rfl

/-! ### `State.stopDriving` -/

@[simp] theorem State.stopDriving_now (s : State) : s.stopDriving.now = s.now := rfl
@[simp] theorem State.stopDriving_pins (s : State) : s.stopDriving.pins = s.pins := rfl
@[simp] theorem State.stopDriving_out (s : State) : s.stopDriving.out = s.out := rfl
@[simp] theorem State.stopDriving_ctl (s : State) : s.stopDriving.ctl = s.ctl := rfl
@[simp] theorem State.stopDriving_peers (s : State) : s.stopDriving.peers = s.peers := rfl
@[simp] theorem State.stopDriving_consent (s : State) : s.stopDriving.consent = s.consent := rfl
@[simp] theorem State.stopDriving_meas (s : State) : s.stopDriving.meas = s.meas := rfl
@[simp] theorem State.stopDriving_drive (s : State) : s.stopDriving.drive = s.drive := rfl
@[simp] theorem State.stopDriving_role (s : State) : s.stopDriving.role = s.role := rfl
@[simp] theorem State.stopDriving_walk (s : State) : s.stopDriving.walk = s.walk := rfl
@[simp] theorem State.stopDriving_heat (s : State) : s.stopDriving.heat = s.heat := rfl
@[simp] theorem State.stopDriving_alarm (s : State) : s.stopDriving.alarm = s.alarm := rfl
@[simp] theorem State.stopDriving_capture (s : State) : s.stopDriving.capture = s.capture := rfl
@[simp] theorem State.stopDriving_slotFull (s : State) : s.stopDriving.slotFull = s.slotFull := rfl
@[simp] theorem State.stopDriving_pending (s : State) : s.stopDriving.pending = s.pending := rfl

/-! ### `State.takeCompleted` -/

@[simp] theorem State.takeCompleted_now (s : State) : s.takeCompleted.now = s.now := rfl
@[simp] theorem State.takeCompleted_pins (s : State) : s.takeCompleted.pins = s.pins := rfl
@[simp] theorem State.takeCompleted_out (s : State) : s.takeCompleted.out = s.out := rfl
@[simp] theorem State.takeCompleted_ctl (s : State) : s.takeCompleted.ctl = s.ctl := rfl
@[simp] theorem State.takeCompleted_peers (s : State) : s.takeCompleted.peers = s.peers := rfl
@[simp] theorem State.takeCompleted_consent (s : State) : s.takeCompleted.consent = s.consent := rfl
@[simp] theorem State.takeCompleted_meas (s : State) : s.takeCompleted.meas = s.meas := rfl
@[simp] theorem State.takeCompleted_drive (s : State) : s.takeCompleted.drive = s.drive := rfl
@[simp] theorem State.takeCompleted_role (s : State) : s.takeCompleted.role = s.role := rfl
@[simp] theorem State.takeCompleted_walk (s : State) : s.takeCompleted.walk = s.walk := rfl
@[simp] theorem State.takeCompleted_heat (s : State) : s.takeCompleted.heat = s.heat := rfl
@[simp] theorem State.takeCompleted_alarm (s : State) : s.takeCompleted.alarm = s.alarm := rfl
@[simp] theorem State.takeCompleted_capture (s : State) : s.takeCompleted.capture = s.capture := rfl
@[simp] theorem State.takeCompleted_slotFull (s : State) :
    s.takeCompleted.slotFull = s.slotFull := rfl
@[simp] theorem State.takeCompleted_pending (s : State) : s.takeCompleted.pending = s.pending := rfl

end Sys2Proof.Machine
end

