-- ==== Sys2Proof/Laws/Frame.lean ====
section
/-!
SUPPORT. What each shared operation can write: its lemma `…_keeps` says of every field of the state outside its
reach that the field stays as it was.  As a conjunction of equations it is one `simp` rule per field,
so that no later proof unfolds an operation for a field that it does not touch.
-/

namespace Sys2Proof.Machine

/-- What every move of a fold keeps, the fold keeps. -/
theorem foldl_keeps {α β : Type} (g : State → α) (f : State → β → State)
    (h : ∀ s x, g (f s x) = g s) (l : List β) (s : State) : g (l.foldl f s) = g s := by
  induction l generalizing s with
  | nil => rfl
  | cons x l ih => rw [List.foldl_cons, ih, h]

/-! ### The alarm unit and the hold causes (Machine/Flags.lean) -/

/-- `State.tryRun` writes at most `out`, `ctl`. -/
@[simp] theorem State.tryRun_keeps (s : State) :
    s.tryRun.now = s.now ∧ s.tryRun.pins = s.pins ∧ s.tryRun.link = s.link
      ∧ s.tryRun.peers = s.peers ∧ s.tryRun.consent = s.consent ∧ s.tryRun.meas = s.meas
      ∧ s.tryRun.drive = s.drive ∧ s.tryRun.role = s.role ∧ s.tryRun.walk = s.walk
      ∧ s.tryRun.heat = s.heat ∧ s.tryRun.alarm = s.alarm ∧ s.tryRun.capture = s.capture
      ∧ s.tryRun.slotFull = s.slotFull ∧ s.tryRun.pending = s.pending := by
  unfold State.tryRun
  split <;> simp

/-- `State.removeCause` writes at most `out`, `ctl`. -/
@[simp] theorem State.removeCause_keeps (s : State) (c : HoldCause) :
    (s.removeCause c).now = s.now ∧ (s.removeCause c).pins = s.pins
      ∧ (s.removeCause c).link = s.link ∧ (s.removeCause c).peers = s.peers
      ∧ (s.removeCause c).consent = s.consent ∧ (s.removeCause c).meas = s.meas
      ∧ (s.removeCause c).drive = s.drive ∧ (s.removeCause c).role = s.role
      ∧ (s.removeCause c).walk = s.walk ∧ (s.removeCause c).heat = s.heat
      ∧ (s.removeCause c).alarm = s.alarm ∧ (s.removeCause c).capture = s.capture
      ∧ (s.removeCause c).slotFull = s.slotFull ∧ (s.removeCause c).pending = s.pending := by
  unfold State.removeCause
  split <;> simp

/-- `State.settleTrips` writes at most `out`, `ctl`. -/
@[simp] theorem State.settleTrips_keeps (s : State) :
    s.settleTrips.now = s.now ∧ s.settleTrips.pins = s.pins ∧ s.settleTrips.link = s.link
      ∧ s.settleTrips.peers = s.peers ∧ s.settleTrips.consent = s.consent
      ∧ s.settleTrips.meas = s.meas ∧ s.settleTrips.drive = s.drive ∧ s.settleTrips.role = s.role
      ∧ s.settleTrips.walk = s.walk ∧ s.settleTrips.heat = s.heat ∧ s.settleTrips.alarm = s.alarm
      ∧ s.settleTrips.capture = s.capture ∧ s.settleTrips.slotFull = s.slotFull
      ∧ s.settleTrips.pending = s.pending := by
  unfold State.settleTrips
  split <;> simp

/-- `State.returnAlarm` writes at most `out`, `ctl`, `alarm`. -/
@[simp] theorem State.returnAlarm_keeps (s : State) (c : AlarmCode) :
    (s.returnAlarm c).now = s.now ∧ (s.returnAlarm c).pins = s.pins
      ∧ (s.returnAlarm c).link = s.link ∧ (s.returnAlarm c).peers = s.peers
      ∧ (s.returnAlarm c).consent = s.consent ∧ (s.returnAlarm c).meas = s.meas
      ∧ (s.returnAlarm c).drive = s.drive ∧ (s.returnAlarm c).role = s.role
      ∧ (s.returnAlarm c).walk = s.walk ∧ (s.returnAlarm c).heat = s.heat
      ∧ (s.returnAlarm c).capture = s.capture ∧ (s.returnAlarm c).slotFull = s.slotFull
      ∧ (s.returnAlarm c).pending = s.pending := by
  unfold State.returnAlarm
  (repeat' split) <;> simp

/-- `State.ackCode` writes at most `out`, `alarm`. -/
@[simp] theorem State.ackCode_keeps (s : State) (c : AlarmCode) :
    (s.ackCode c).now = s.now ∧ (s.ackCode c).pins = s.pins ∧ (s.ackCode c).ctl = s.ctl
      ∧ (s.ackCode c).link = s.link ∧ (s.ackCode c).peers = s.peers
      ∧ (s.ackCode c).consent = s.consent ∧ (s.ackCode c).meas = s.meas
      ∧ (s.ackCode c).drive = s.drive ∧ (s.ackCode c).role = s.role ∧ (s.ackCode c).walk = s.walk
      ∧ (s.ackCode c).heat = s.heat ∧ (s.ackCode c).capture = s.capture
      ∧ (s.ackCode c).slotFull = s.slotFull ∧ (s.ackCode c).pending = s.pending := by
  unfold State.ackCode
  split <;> simp

/-- `State.acknowledge` writes at most `out`, `ctl`, `alarm`. -/
@[simp] theorem State.acknowledge_keeps (s : State) :
    s.acknowledge.now = s.now ∧ s.acknowledge.pins = s.pins ∧ s.acknowledge.link = s.link
      ∧ s.acknowledge.peers = s.peers ∧ s.acknowledge.consent = s.consent
      ∧ s.acknowledge.meas = s.meas ∧ s.acknowledge.drive = s.drive ∧ s.acknowledge.role = s.role
      ∧ s.acknowledge.walk = s.walk ∧ s.acknowledge.heat = s.heat
      ∧ s.acknowledge.capture = s.capture ∧ s.acknowledge.slotFull = s.slotFull
      ∧ s.acknowledge.pending = s.pending := by
  unfold State.acknowledge
  refine ⟨?_, ?_, ?_, ?_, ?_, ?_, ?_, ?_, ?_, ?_, ?_, ?_, ?_⟩ <;>
    simp [foldl_keeps]

/-! ### The transmit queue (Machine/Link.lean) -/

/-- `State.tellUnsent` writes at most `slotFull`. -/
@[simp] theorem State.tellUnsent_keeps (s : State) (f : OutFrame) :
    (s.tellUnsent f).now = s.now ∧ (s.tellUnsent f).pins = s.pins ∧ (s.tellUnsent f).out = s.out
      ∧ (s.tellUnsent f).ctl = s.ctl ∧ (s.tellUnsent f).link = s.link
      ∧ (s.tellUnsent f).peers = s.peers ∧ (s.tellUnsent f).consent = s.consent
      ∧ (s.tellUnsent f).meas = s.meas ∧ (s.tellUnsent f).drive = s.drive
      ∧ (s.tellUnsent f).role = s.role ∧ (s.tellUnsent f).walk = s.walk
      ∧ (s.tellUnsent f).heat = s.heat ∧ (s.tellUnsent f).alarm = s.alarm
      ∧ (s.tellUnsent f).capture = s.capture ∧ (s.tellUnsent f).pending = s.pending := by
  unfold State.tellUnsent
  split <;> simp

/-- `State.dropFrame` writes at most `link`, `slotFull`. -/
@[simp] theorem State.dropFrame_keeps (s : State) (f : OutFrame) :
    (s.dropFrame f).now = s.now ∧ (s.dropFrame f).pins = s.pins ∧ (s.dropFrame f).out = s.out
      ∧ (s.dropFrame f).ctl = s.ctl ∧ (s.dropFrame f).peers = s.peers
      ∧ (s.dropFrame f).consent = s.consent ∧ (s.dropFrame f).meas = s.meas
      ∧ (s.dropFrame f).drive = s.drive ∧ (s.dropFrame f).role = s.role
      ∧ (s.dropFrame f).walk = s.walk ∧ (s.dropFrame f).heat = s.heat
      ∧ (s.dropFrame f).alarm = s.alarm ∧ (s.dropFrame f).capture = s.capture
      ∧ (s.dropFrame f).pending = s.pending := by
  unfold State.dropFrame
  simp

/-- `State.joinFullQueue` writes at most `link`, `slotFull`. -/
@[simp] theorem State.joinFullQueue_keeps (s : State) (f : OutFrame) :
    (s.joinFullQueue f).now = s.now ∧ (s.joinFullQueue f).pins = s.pins
      ∧ (s.joinFullQueue f).out = s.out ∧ (s.joinFullQueue f).ctl = s.ctl
      ∧ (s.joinFullQueue f).peers = s.peers ∧ (s.joinFullQueue f).consent = s.consent
      ∧ (s.joinFullQueue f).meas = s.meas ∧ (s.joinFullQueue f).drive = s.drive
      ∧ (s.joinFullQueue f).role = s.role ∧ (s.joinFullQueue f).walk = s.walk
      ∧ (s.joinFullQueue f).heat = s.heat ∧ (s.joinFullQueue f).alarm = s.alarm
      ∧ (s.joinFullQueue f).capture = s.capture ∧ (s.joinFullQueue f).pending = s.pending := by
  unfold State.joinFullQueue
  (repeat' split) <;> simp

/-- `State.queueFrame` writes at most `link`, `slotFull`. -/
@[simp] theorem State.queueFrame_keeps (s : State) (f : OutFrame) :
    (s.queueFrame f).now = s.now ∧ (s.queueFrame f).pins = s.pins ∧ (s.queueFrame f).out = s.out
      ∧ (s.queueFrame f).ctl = s.ctl ∧ (s.queueFrame f).peers = s.peers
      ∧ (s.queueFrame f).consent = s.consent ∧ (s.queueFrame f).meas = s.meas
      ∧ (s.queueFrame f).drive = s.drive ∧ (s.queueFrame f).role = s.role
      ∧ (s.queueFrame f).walk = s.walk ∧ (s.queueFrame f).heat = s.heat
      ∧ (s.queueFrame f).alarm = s.alarm ∧ (s.queueFrame f).capture = s.capture
      ∧ (s.queueFrame f).pending = s.pending := by
  unfold State.queueFrame
  (repeat' split) <;> simp

/-- `State.startTransmission` writes at most `link`. -/
@[simp] theorem State.startTransmission_keeps (s : State) :
    s.startTransmission.now = s.now ∧ s.startTransmission.pins = s.pins
      ∧ s.startTransmission.out = s.out ∧ s.startTransmission.ctl = s.ctl
      ∧ s.startTransmission.peers = s.peers ∧ s.startTransmission.consent = s.consent
      ∧ s.startTransmission.meas = s.meas ∧ s.startTransmission.drive = s.drive
      ∧ s.startTransmission.role = s.role ∧ s.startTransmission.walk = s.walk
      ∧ s.startTransmission.heat = s.heat ∧ s.startTransmission.alarm = s.alarm
      ∧ s.startTransmission.capture = s.capture ∧ s.startTransmission.slotFull = s.slotFull
      ∧ s.startTransmission.pending = s.pending := by
  unfold State.startTransmission
  (repeat' split) <;> simp

/-- `State.discardQueue` writes at most `link`, `slotFull`. -/
@[simp] theorem State.discardQueue_keeps (s : State) :
    s.discardQueue.now = s.now ∧ s.discardQueue.pins = s.pins ∧ s.discardQueue.out = s.out
      ∧ s.discardQueue.ctl = s.ctl ∧ s.discardQueue.peers = s.peers
      ∧ s.discardQueue.consent = s.consent ∧ s.discardQueue.meas = s.meas
      ∧ s.discardQueue.drive = s.drive ∧ s.discardQueue.role = s.role
      ∧ s.discardQueue.walk = s.walk ∧ s.discardQueue.heat = s.heat
      ∧ s.discardQueue.alarm = s.alarm ∧ s.discardQueue.capture = s.capture
      ∧ s.discardQueue.pending = s.pending := by
  unfold State.discardQueue
  refine ⟨?_, ?_, ?_, ?_, ?_, ?_, ?_, ?_, ?_, ?_, ?_, ?_, ?_, ?_⟩ <;>
    simp [foldl_keeps]

/-! ### Arms, notices and raises of WARN codes (Machine/Alarm.lean) -/

/-- `State.captureArm` writes at most `capture`. -/
@[simp] theorem State.captureArm_keeps (s : State) (id : ArmId) (code : Option AlarmCode) :
    (s.captureArm id code).now = s.now ∧ (s.captureArm id code).pins = s.pins
      ∧ (s.captureArm id code).out = s.out ∧ (s.captureArm id code).ctl = s.ctl
      ∧ (s.captureArm id code).link = s.link ∧ (s.captureArm id code).peers = s.peers
      ∧ (s.captureArm id code).consent = s.consent ∧ (s.captureArm id code).meas = s.meas
      ∧ (s.captureArm id code).drive = s.drive ∧ (s.captureArm id code).role = s.role
      ∧ (s.captureArm id code).walk = s.walk ∧ (s.captureArm id code).heat = s.heat
      ∧ (s.captureArm id code).alarm = s.alarm ∧ (s.captureArm id code).slotFull = s.slotFull
      ∧ (s.captureArm id code).pending = s.pending := by
  unfold State.captureArm
  simp

/-- `State.localArm` writes at most `alarm`, `capture`. -/
@[simp] theorem State.localArm_keeps (s : State) (c : AlarmCode) (m : Mode) :
    (s.localArm c m).now = s.now ∧ (s.localArm c m).pins = s.pins ∧ (s.localArm c m).out = s.out
      ∧ (s.localArm c m).ctl = s.ctl ∧ (s.localArm c m).link = s.link
      ∧ (s.localArm c m).peers = s.peers ∧ (s.localArm c m).consent = s.consent
      ∧ (s.localArm c m).meas = s.meas ∧ (s.localArm c m).drive = s.drive
      ∧ (s.localArm c m).role = s.role ∧ (s.localArm c m).walk = s.walk
      ∧ (s.localArm c m).heat = s.heat ∧ (s.localArm c m).slotFull = s.slotFull
      ∧ (s.localArm c m).pending = s.pending := by
  unfold State.localArm
  (repeat' split) <;> simp

/-- `State.askNotice` writes at most `link`, `slotFull`. -/
@[simp] theorem State.askNotice_keeps (s : State) (c : AlarmCode) (v : Int) (m : Mode) :
    (s.askNotice c v m).now = s.now ∧ (s.askNotice c v m).pins = s.pins
      ∧ (s.askNotice c v m).out = s.out ∧ (s.askNotice c v m).ctl = s.ctl
      ∧ (s.askNotice c v m).peers = s.peers ∧ (s.askNotice c v m).consent = s.consent
      ∧ (s.askNotice c v m).meas = s.meas ∧ (s.askNotice c v m).drive = s.drive
      ∧ (s.askNotice c v m).role = s.role ∧ (s.askNotice c v m).walk = s.walk
      ∧ (s.askNotice c v m).heat = s.heat ∧ (s.askNotice c v m).alarm = s.alarm
      ∧ (s.askNotice c v m).capture = s.capture ∧ (s.askNotice c v m).pending = s.pending := by
  unfold State.askNotice
  split <;> simp

/-- `State.armAndNotice` writes at most `link`, `alarm`, `capture`, `slotFull`. -/
@[simp] theorem State.armAndNotice_keeps (s : State) (c : AlarmCode) (v : Int) (m : Mode) :
    (s.armAndNotice c v m).now = s.now ∧ (s.armAndNotice c v m).pins = s.pins
      ∧ (s.armAndNotice c v m).out = s.out ∧ (s.armAndNotice c v m).ctl = s.ctl
      ∧ (s.armAndNotice c v m).peers = s.peers ∧ (s.armAndNotice c v m).consent = s.consent
      ∧ (s.armAndNotice c v m).meas = s.meas ∧ (s.armAndNotice c v m).drive = s.drive
      ∧ (s.armAndNotice c v m).role = s.role ∧ (s.armAndNotice c v m).walk = s.walk
      ∧ (s.armAndNotice c v m).heat = s.heat ∧ (s.armAndNotice c v m).pending = s.pending := by
  unfold State.armAndNotice
  simp

/-- `State.raiseWarn` writes at most `out`, `link`, `alarm`, `capture`, `slotFull`. -/
@[simp] theorem State.raiseWarn_keeps (s : State) (c : AlarmCode) (v : Int) :
    (s.raiseWarn c v).now = s.now ∧ (s.raiseWarn c v).pins = s.pins
      ∧ (s.raiseWarn c v).ctl = s.ctl ∧ (s.raiseWarn c v).peers = s.peers
      ∧ (s.raiseWarn c v).consent = s.consent ∧ (s.raiseWarn c v).meas = s.meas
      ∧ (s.raiseWarn c v).drive = s.drive ∧ (s.raiseWarn c v).role = s.role
      ∧ (s.raiseWarn c v).walk = s.walk ∧ (s.raiseWarn c v).heat = s.heat
      ∧ (s.raiseWarn c v).pending = s.pending := by
  unfold State.raiseWarn
  split <;> simp

/-! ### The capture store (Machine/Keep.lean) -/

/-- `State.raiseFull` writes at most `out`, `link`, `alarm`, `capture`, `slotFull`. -/
@[simp] theorem State.raiseFull_keeps (s : State) :
    s.raiseFull.now = s.now ∧ s.raiseFull.pins = s.pins ∧ s.raiseFull.ctl = s.ctl
      ∧ s.raiseFull.peers = s.peers ∧ s.raiseFull.consent = s.consent ∧ s.raiseFull.meas = s.meas
      ∧ s.raiseFull.drive = s.drive ∧ s.raiseFull.role = s.role ∧ s.raiseFull.walk = s.walk
      ∧ s.raiseFull.heat = s.heat ∧ s.raiseFull.pending = s.pending := by
  unfold State.raiseFull
  simp

/-- `State.becomeKept` writes at most `out`, `link`, `alarm`, `capture`, `slotFull`. -/
@[simp] theorem State.becomeKept_keeps (s : State) (i : Nat) :
    (s.becomeKept i).now = s.now ∧ (s.becomeKept i).pins = s.pins ∧ (s.becomeKept i).ctl = s.ctl
      ∧ (s.becomeKept i).peers = s.peers ∧ (s.becomeKept i).consent = s.consent
      ∧ (s.becomeKept i).meas = s.meas ∧ (s.becomeKept i).drive = s.drive
      ∧ (s.becomeKept i).role = s.role ∧ (s.becomeKept i).walk = s.walk
      ∧ (s.becomeKept i).heat = s.heat ∧ (s.becomeKept i).pending = s.pending := by
  unfold State.becomeKept
  dsimp only
  split <;> simp

/-- `State.firstWriteBlock` writes at most `out`, `link`, `alarm`, `capture`, `slotFull`. -/
@[simp] theorem State.firstWriteBlock_keeps (s : State) :
    s.firstWriteBlock.now = s.now ∧ s.firstWriteBlock.pins = s.pins
      ∧ s.firstWriteBlock.ctl = s.ctl ∧ s.firstWriteBlock.peers = s.peers
      ∧ s.firstWriteBlock.consent = s.consent ∧ s.firstWriteBlock.meas = s.meas
      ∧ s.firstWriteBlock.drive = s.drive ∧ s.firstWriteBlock.role = s.role
      ∧ s.firstWriteBlock.walk = s.walk ∧ s.firstWriteBlock.heat = s.heat
      ∧ s.firstWriteBlock.pending = s.pending := by
  unfold State.firstWriteBlock
  (repeat' split) <;> simp

/-- `State.releaseHead` writes at most `out`, `ctl`, `alarm`, `capture`. -/
@[simp] theorem State.releaseHead_keeps (s : State) :
    s.releaseHead.now = s.now ∧ s.releaseHead.pins = s.pins ∧ s.releaseHead.link = s.link
      ∧ s.releaseHead.peers = s.peers ∧ s.releaseHead.consent = s.consent
      ∧ s.releaseHead.meas = s.meas ∧ s.releaseHead.drive = s.drive ∧ s.releaseHead.role = s.role
      ∧ s.releaseHead.walk = s.walk ∧ s.releaseHead.heat = s.heat
      ∧ s.releaseHead.slotFull = s.slotFull ∧ s.releaseHead.pending = s.pending := by
  unfold State.releaseHead
  dsimp only
  (repeat' split) <;> simp

/-- `State.keepById` writes at most `out`, `link`, `alarm`, `capture`, `slotFull`. -/
@[simp] theorem State.keepById_keeps (s : State) (id : ArmId) :
    (s.keepById id).now = s.now ∧ (s.keepById id).pins = s.pins ∧ (s.keepById id).ctl = s.ctl
      ∧ (s.keepById id).peers = s.peers ∧ (s.keepById id).consent = s.consent
      ∧ (s.keepById id).meas = s.meas ∧ (s.keepById id).drive = s.drive
      ∧ (s.keepById id).role = s.role ∧ (s.keepById id).walk = s.walk
      ∧ (s.keepById id).heat = s.heat ∧ (s.keepById id).pending = s.pending := by
  unfold State.keepById
  refine ⟨?_, ?_, ?_, ?_, ?_, ?_, ?_, ?_, ?_, ?_, ?_⟩ <;>
    simp [foldl_keeps]

/-- `State.takeKeepNotice` writes at most `out`, `link`, `alarm`, `capture`, `slotFull`. -/
@[simp] theorem State.takeKeepNotice_keeps (s : State) (id : ArmId) :
    (s.takeKeepNotice id).now = s.now ∧ (s.takeKeepNotice id).pins = s.pins
      ∧ (s.takeKeepNotice id).ctl = s.ctl ∧ (s.takeKeepNotice id).peers = s.peers
      ∧ (s.takeKeepNotice id).consent = s.consent ∧ (s.takeKeepNotice id).meas = s.meas
      ∧ (s.takeKeepNotice id).drive = s.drive ∧ (s.takeKeepNotice id).role = s.role
      ∧ (s.takeKeepNotice id).walk = s.walk ∧ (s.takeKeepNotice id).heat = s.heat
      ∧ (s.takeKeepNotice id).pending = s.pending := by
  unfold State.takeKeepNotice
  split <;> simp

/-- `State.settleDecision` writes at most `out`, `link`, `alarm`, `capture`, `slotFull`. -/
@[simp] theorem State.settleDecision_keeps (s : State) (d : Decision) :
    (s.settleDecision d).now = s.now ∧ (s.settleDecision d).pins = s.pins
      ∧ (s.settleDecision d).ctl = s.ctl ∧ (s.settleDecision d).peers = s.peers
      ∧ (s.settleDecision d).consent = s.consent ∧ (s.settleDecision d).meas = s.meas
      ∧ (s.settleDecision d).drive = s.drive ∧ (s.settleDecision d).role = s.role
      ∧ (s.settleDecision d).walk = s.walk ∧ (s.settleDecision d).heat = s.heat
      ∧ (s.settleDecision d).pending = s.pending := by
  unfold State.settleDecision
  (repeat' split) <;> simp

/-- `State.decideDue` writes at most `out`, `link`, `alarm`, `capture`, `slotFull`. -/
@[simp] theorem State.decideDue_keeps (s : State) :
    s.decideDue.now = s.now ∧ s.decideDue.pins = s.pins ∧ s.decideDue.ctl = s.ctl
      ∧ s.decideDue.peers = s.peers ∧ s.decideDue.consent = s.consent ∧ s.decideDue.meas = s.meas
      ∧ s.decideDue.drive = s.drive ∧ s.decideDue.role = s.role ∧ s.decideDue.walk = s.walk
      ∧ s.decideDue.heat = s.heat ∧ s.decideDue.pending = s.pending := by
  unfold State.decideDue
  refine ⟨?_, ?_, ?_, ?_, ?_, ?_, ?_, ?_, ?_, ?_, ?_⟩ <;>
    simp [foldl_keeps]

/-- `State.countDecisions` writes at most `capture`. -/
@[simp] theorem State.countDecisions_keeps (s : State) :
    s.countDecisions.now = s.now ∧ s.countDecisions.pins = s.pins ∧ s.countDecisions.out = s.out
      ∧ s.countDecisions.ctl = s.ctl ∧ s.countDecisions.link = s.link
      ∧ s.countDecisions.peers = s.peers ∧ s.countDecisions.consent = s.consent
      ∧ s.countDecisions.meas = s.meas ∧ s.countDecisions.drive = s.drive
      ∧ s.countDecisions.role = s.role ∧ s.countDecisions.walk = s.walk
      ∧ s.countDecisions.heat = s.heat ∧ s.countDecisions.alarm = s.alarm
      ∧ s.countDecisions.slotFull = s.slotFull ∧ s.countDecisions.pending = s.pending := by
  unfold State.countDecisions
  simp

/-- `State.nextWriteBlock` writes at most `capture`. -/
@[simp] theorem State.nextWriteBlock_keeps (s : State) (i : Nat) :
    (s.nextWriteBlock i).now = s.now ∧ (s.nextWriteBlock i).pins = s.pins
      ∧ (s.nextWriteBlock i).out = s.out ∧ (s.nextWriteBlock i).ctl = s.ctl
      ∧ (s.nextWriteBlock i).link = s.link ∧ (s.nextWriteBlock i).peers = s.peers
      ∧ (s.nextWriteBlock i).consent = s.consent ∧ (s.nextWriteBlock i).meas = s.meas
      ∧ (s.nextWriteBlock i).drive = s.drive ∧ (s.nextWriteBlock i).role = s.role
      ∧ (s.nextWriteBlock i).walk = s.walk ∧ (s.nextWriteBlock i).heat = s.heat
      ∧ (s.nextWriteBlock i).alarm = s.alarm ∧ (s.nextWriteBlock i).slotFull = s.slotFull
      ∧ (s.nextWriteBlock i).pending = s.pending := by
  unfold State.nextWriteBlock
  simp

/-- `State.settlePost` writes at most `out`, `link`, `alarm`, `capture`, `slotFull`. -/
@[simp] theorem State.settlePost_keeps (s : State) (i : Nat) :
    (s.settlePost i).now = s.now ∧ (s.settlePost i).pins = s.pins ∧ (s.settlePost i).ctl = s.ctl
      ∧ (s.settlePost i).peers = s.peers ∧ (s.settlePost i).consent = s.consent
      ∧ (s.settlePost i).meas = s.meas ∧ (s.settlePost i).drive = s.drive
      ∧ (s.settlePost i).role = s.role ∧ (s.settlePost i).walk = s.walk
      ∧ (s.settlePost i).heat = s.heat ∧ (s.settlePost i).pending = s.pending := by
  unfold State.settlePost
  dsimp only
  (repeat' split) <;> simp

/-- `State.endPost` writes at most `out`, `link`, `alarm`, `capture`, `slotFull`. -/
@[simp] theorem State.endPost_keeps (s : State) :
    s.endPost.now = s.now ∧ s.endPost.pins = s.pins ∧ s.endPost.ctl = s.ctl
      ∧ s.endPost.peers = s.peers ∧ s.endPost.consent = s.consent ∧ s.endPost.meas = s.meas
      ∧ s.endPost.drive = s.drive ∧ s.endPost.role = s.role ∧ s.endPost.walk = s.walk
      ∧ s.endPost.heat = s.heat ∧ s.endPost.pending = s.pending := by
  unfold State.endPost
  (repeat' split) <;> simp

/-- `State.expireKeep` writes at most `capture`. -/
@[simp] theorem State.expireKeep_keeps (s : State) (i : Nat) :
    (s.expireKeep i).now = s.now ∧ (s.expireKeep i).pins = s.pins ∧ (s.expireKeep i).out = s.out
      ∧ (s.expireKeep i).ctl = s.ctl ∧ (s.expireKeep i).link = s.link
      ∧ (s.expireKeep i).peers = s.peers ∧ (s.expireKeep i).consent = s.consent
      ∧ (s.expireKeep i).meas = s.meas ∧ (s.expireKeep i).drive = s.drive
      ∧ (s.expireKeep i).role = s.role ∧ (s.expireKeep i).walk = s.walk
      ∧ (s.expireKeep i).heat = s.heat ∧ (s.expireKeep i).alarm = s.alarm
      ∧ (s.expireKeep i).slotFull = s.slotFull ∧ (s.expireKeep i).pending = s.pending := by
  unfold State.expireKeep
  dsimp only
  split <;> simp

/-! ### Swing, walk and supply moves that several events share (Machine/Duties.lean) -/

/-- `State.withdrawPermission` writes at most `out`, `drive`. -/
@[simp] theorem State.withdrawPermission_keeps (s : State) :
    s.withdrawPermission.now = s.now ∧ s.withdrawPermission.pins = s.pins
      ∧ s.withdrawPermission.ctl = s.ctl ∧ s.withdrawPermission.link = s.link
      ∧ s.withdrawPermission.peers = s.peers ∧ s.withdrawPermission.consent = s.consent
      ∧ s.withdrawPermission.meas = s.meas ∧ s.withdrawPermission.role = s.role
      ∧ s.withdrawPermission.walk = s.walk ∧ s.withdrawPermission.heat = s.heat
      ∧ s.withdrawPermission.alarm = s.alarm ∧ s.withdrawPermission.capture = s.capture
      ∧ s.withdrawPermission.slotFull = s.slotFull ∧ s.withdrawPermission.pending = s.pending := by
  unfold State.withdrawPermission
  split <;> simp

/-- `State.clearProposal` writes at most `out`, `consent`, `drive`. -/
@[simp] theorem State.clearProposal_keeps (s : State) :
    s.clearProposal.now = s.now ∧ s.clearProposal.pins = s.pins ∧ s.clearProposal.ctl = s.ctl
      ∧ s.clearProposal.link = s.link ∧ s.clearProposal.peers = s.peers
      ∧ s.clearProposal.meas = s.meas ∧ s.clearProposal.role = s.role
      ∧ s.clearProposal.walk = s.walk ∧ s.clearProposal.heat = s.heat
      ∧ s.clearProposal.alarm = s.alarm ∧ s.clearProposal.capture = s.capture
      ∧ s.clearProposal.slotFull = s.slotFull ∧ s.clearProposal.pending = s.pending := by
  unfold State.clearProposal
  dsimp only
  (repeat' split) <;> simp

/-- `State.dropSectorMarks` writes at most `out`, `ctl`, `role`, `alarm`. -/
@[simp] theorem State.dropSectorMarks_keeps (s : State) :
    s.dropSectorMarks.now = s.now ∧ s.dropSectorMarks.pins = s.pins
      ∧ s.dropSectorMarks.link = s.link ∧ s.dropSectorMarks.peers = s.peers
      ∧ s.dropSectorMarks.consent = s.consent ∧ s.dropSectorMarks.meas = s.meas
      ∧ s.dropSectorMarks.drive = s.drive ∧ s.dropSectorMarks.walk = s.walk
      ∧ s.dropSectorMarks.heat = s.heat ∧ s.dropSectorMarks.capture = s.capture
      ∧ s.dropSectorMarks.slotFull = s.slotFull ∧ s.dropSectorMarks.pending = s.pending := by
  unfold State.dropSectorMarks
  split <;> simp

/-- `State.lockSwing` writes at most `out`, `ctl`, `role`, `alarm`. -/
@[simp] theorem State.lockSwing_keeps (s : State) :
    s.lockSwing.now = s.now ∧ s.lockSwing.pins = s.pins ∧ s.lockSwing.link = s.link
      ∧ s.lockSwing.peers = s.peers ∧ s.lockSwing.consent = s.consent ∧ s.lockSwing.meas = s.meas
      ∧ s.lockSwing.drive = s.drive ∧ s.lockSwing.walk = s.walk ∧ s.lockSwing.heat = s.heat
      ∧ s.lockSwing.capture = s.capture ∧ s.lockSwing.slotFull = s.slotFull
      ∧ s.lockSwing.pending = s.pending := by
  unfold State.lockSwing
  simp

/-- `State.raiseWithdrawn` writes at most `out`, `link`, `alarm`, `capture`, `slotFull`. -/
@[simp] theorem State.raiseWithdrawn_keeps (s : State) :
    s.raiseWithdrawn.now = s.now ∧ s.raiseWithdrawn.pins = s.pins ∧ s.raiseWithdrawn.ctl = s.ctl
      ∧ s.raiseWithdrawn.peers = s.peers ∧ s.raiseWithdrawn.consent = s.consent
      ∧ s.raiseWithdrawn.meas = s.meas ∧ s.raiseWithdrawn.drive = s.drive
      ∧ s.raiseWithdrawn.role = s.role ∧ s.raiseWithdrawn.walk = s.walk
      ∧ s.raiseWithdrawn.heat = s.heat ∧ s.raiseWithdrawn.pending = s.pending := by
  unfold State.raiseWithdrawn
  split <;> simp

/-- `State.stopSwing` writes at most `out`, `ctl`, `link`, `consent`, `drive`, `role`, `alarm`, `capture`, `slotFull`. -/
@[simp] theorem State.stopSwing_keeps (s : State) :
    s.stopSwing.now = s.now ∧ s.stopSwing.pins = s.pins ∧ s.stopSwing.peers = s.peers
      ∧ s.stopSwing.meas = s.meas ∧ s.stopSwing.walk = s.walk ∧ s.stopSwing.heat = s.heat
      ∧ s.stopSwing.pending = s.pending := by
  unfold State.stopSwing
  (repeat' split) <;> simp

/-- `State.withdrawSwing` writes at most `out`, `ctl`, `role`, `alarm`. -/
@[simp] theorem State.withdrawSwing_keeps (s : State) (x : Station × Reason) :
    (s.withdrawSwing x).now = s.now ∧ (s.withdrawSwing x).pins = s.pins
      ∧ (s.withdrawSwing x).link = s.link ∧ (s.withdrawSwing x).peers = s.peers
      ∧ (s.withdrawSwing x).consent = s.consent ∧ (s.withdrawSwing x).meas = s.meas
      ∧ (s.withdrawSwing x).drive = s.drive ∧ (s.withdrawSwing x).walk = s.walk
      ∧ (s.withdrawSwing x).heat = s.heat ∧ (s.withdrawSwing x).capture = s.capture
      ∧ (s.withdrawSwing x).slotFull = s.slotFull ∧ (s.withdrawSwing x).pending = s.pending := by
  unfold State.withdrawSwing
  split <;> simp

/-- `State.enterWalk` writes at most `walk`. -/
@[simp] theorem State.enterWalk_keeps (s : State) (x : WalkState) :
    (s.enterWalk x).now = s.now ∧ (s.enterWalk x).pins = s.pins ∧ (s.enterWalk x).out = s.out
      ∧ (s.enterWalk x).ctl = s.ctl ∧ (s.enterWalk x).link = s.link
      ∧ (s.enterWalk x).peers = s.peers ∧ (s.enterWalk x).consent = s.consent
      ∧ (s.enterWalk x).meas = s.meas ∧ (s.enterWalk x).drive = s.drive
      ∧ (s.enterWalk x).role = s.role ∧ (s.enterWalk x).heat = s.heat
      ∧ (s.enterWalk x).alarm = s.alarm ∧ (s.enterWalk x).capture = s.capture
      ∧ (s.enterWalk x).slotFull = s.slotFull ∧ (s.enterWalk x).pending = s.pending := by
  unfold State.enterWalk
  simp

/-- `State.enterStopping` writes at most `walk`. -/
@[simp] theorem State.enterStopping_keeps (s : State) (p : StopPhase) :
    (s.enterStopping p).now = s.now ∧ (s.enterStopping p).pins = s.pins
      ∧ (s.enterStopping p).out = s.out ∧ (s.enterStopping p).ctl = s.ctl
      ∧ (s.enterStopping p).link = s.link ∧ (s.enterStopping p).peers = s.peers
      ∧ (s.enterStopping p).consent = s.consent ∧ (s.enterStopping p).meas = s.meas
      ∧ (s.enterStopping p).drive = s.drive ∧ (s.enterStopping p).role = s.role
      ∧ (s.enterStopping p).heat = s.heat ∧ (s.enterStopping p).alarm = s.alarm
      ∧ (s.enterStopping p).capture = s.capture ∧ (s.enterStopping p).slotFull = s.slotFull
      ∧ (s.enterStopping p).pending = s.pending := by
  unfold State.enterStopping
  simp

/-- `State.stopWalk` writes at most `out`, `consent`, `drive`, `walk`. -/
@[simp] theorem State.stopWalk_keeps (s : State) :
    s.stopWalk.now = s.now ∧ s.stopWalk.pins = s.pins ∧ s.stopWalk.ctl = s.ctl
      ∧ s.stopWalk.link = s.link ∧ s.stopWalk.peers = s.peers ∧ s.stopWalk.meas = s.meas
      ∧ s.stopWalk.role = s.role ∧ s.stopWalk.heat = s.heat ∧ s.stopWalk.alarm = s.alarm
      ∧ s.stopWalk.capture = s.capture ∧ s.stopWalk.slotFull = s.slotFull
      ∧ s.stopWalk.pending = s.pending := by
  unfold State.stopWalk
  split <;> simp

/-- `State.abortWalk` writes at most `out`, `link`, `consent`, `drive`, `walk`, `alarm`, `capture`, `slotFull`. -/
@[simp] theorem State.abortWalk_keeps (s : State) (v : Int) :
    (s.abortWalk v).now = s.now ∧ (s.abortWalk v).pins = s.pins ∧ (s.abortWalk v).ctl = s.ctl
      ∧ (s.abortWalk v).peers = s.peers ∧ (s.abortWalk v).meas = s.meas
      ∧ (s.abortWalk v).role = s.role ∧ (s.abortWalk v).heat = s.heat
      ∧ (s.abortWalk v).pending = s.pending := by
  unfold State.abortWalk
  split <;> simp

/-- `State.supplyNormal` writes at most `out`, `ctl`, `role`, `alarm`. -/
@[simp] theorem State.supplyNormal_keeps (s : State) :
    s.supplyNormal.now = s.now ∧ s.supplyNormal.pins = s.pins ∧ s.supplyNormal.link = s.link
      ∧ s.supplyNormal.peers = s.peers ∧ s.supplyNormal.consent = s.consent
      ∧ s.supplyNormal.meas = s.meas ∧ s.supplyNormal.drive = s.drive
      ∧ s.supplyNormal.walk = s.walk ∧ s.supplyNormal.heat = s.heat
      ∧ s.supplyNormal.capture = s.capture ∧ s.supplyNormal.slotFull = s.slotFull
      ∧ s.supplyNormal.pending = s.pending := by
  unfold State.supplyNormal
  simp

/-- `State.openTransfer` writes at most `out`, `ctl`, `role`, `alarm`. -/
@[simp] theorem State.openTransfer_keeps (s : State) :
    s.openTransfer.now = s.now ∧ s.openTransfer.pins = s.pins ∧ s.openTransfer.link = s.link
      ∧ s.openTransfer.peers = s.peers ∧ s.openTransfer.consent = s.consent
      ∧ s.openTransfer.meas = s.meas ∧ s.openTransfer.drive = s.drive
      ∧ s.openTransfer.walk = s.walk ∧ s.openTransfer.heat = s.heat
      ∧ s.openTransfer.capture = s.capture ∧ s.openTransfer.slotFull = s.slotFull
      ∧ s.openTransfer.pending = s.pending := by
  unfold State.openTransfer
  dsimp only
  split <;> simp

/-- `State.endSupply` writes at most `out`, `ctl`, `drive`, `role`, `alarm`. -/
@[simp] theorem State.endSupply_keeps (s : State) :
    s.endSupply.now = s.now ∧ s.endSupply.pins = s.pins ∧ s.endSupply.link = s.link
      ∧ s.endSupply.peers = s.peers ∧ s.endSupply.consent = s.consent ∧ s.endSupply.meas = s.meas
      ∧ s.endSupply.walk = s.walk ∧ s.endSupply.heat = s.heat ∧ s.endSupply.capture = s.capture
      ∧ s.endSupply.slotFull = s.slotFull ∧ s.endSupply.pending = s.pending := by
  unfold State.endSupply
  split <;> simp

/-- `State.returnSupply` writes at most `out`, `ctl`, `role`, `alarm`. -/
@[simp] theorem State.returnSupply_keeps (s : State) :
    s.returnSupply.now = s.now ∧ s.returnSupply.pins = s.pins ∧ s.returnSupply.link = s.link
      ∧ s.returnSupply.peers = s.peers ∧ s.returnSupply.consent = s.consent
      ∧ s.returnSupply.meas = s.meas ∧ s.returnSupply.drive = s.drive
      ∧ s.returnSupply.walk = s.walk ∧ s.returnSupply.heat = s.heat
      ∧ s.returnSupply.capture = s.capture ∧ s.returnSupply.slotFull = s.slotFull
      ∧ s.returnSupply.pending = s.pending := by
  unfold State.returnSupply
  dsimp only
  split <;> simp

/-! ### The consent engine (Machine/Consent.lean) -/

/-- `State.tellCancel` writes at most `role`, `walk`. -/
@[simp] theorem State.tellCancel_keeps (s : State) (k : ProposalKind) :
    (s.tellCancel k).now = s.now ∧ (s.tellCancel k).pins = s.pins ∧ (s.tellCancel k).out = s.out
      ∧ (s.tellCancel k).ctl = s.ctl ∧ (s.tellCancel k).link = s.link
      ∧ (s.tellCancel k).peers = s.peers ∧ (s.tellCancel k).consent = s.consent
      ∧ (s.tellCancel k).meas = s.meas ∧ (s.tellCancel k).drive = s.drive
      ∧ (s.tellCancel k).heat = s.heat ∧ (s.tellCancel k).alarm = s.alarm
      ∧ (s.tellCancel k).capture = s.capture ∧ (s.tellCancel k).slotFull = s.slotFull
      ∧ (s.tellCancel k).pending = s.pending := by
  unfold State.tellCancel
  (repeat' split) <;> simp

/-- `State.cancelProposal` writes at most `out`, `link`, `consent`, `role`, `walk`, `alarm`, `capture`, `slotFull`. -/
@[simp] theorem State.cancelProposal_keeps (s : State) (o : CancelOutcome) :
    (s.cancelProposal o).now = s.now ∧ (s.cancelProposal o).pins = s.pins
      ∧ (s.cancelProposal o).ctl = s.ctl ∧ (s.cancelProposal o).peers = s.peers
      ∧ (s.cancelProposal o).meas = s.meas ∧ (s.cancelProposal o).drive = s.drive
      ∧ (s.cancelProposal o).heat = s.heat ∧ (s.cancelProposal o).pending = s.pending := by
  unfold State.cancelProposal
  split <;> simp

/-- `State.tellProposing` writes at most `role`, `walk`. -/
@[simp] theorem State.tellProposing_keeps (s : State) (k : ProposalKind) :
    (s.tellProposing k).now = s.now ∧ (s.tellProposing k).pins = s.pins
      ∧ (s.tellProposing k).out = s.out ∧ (s.tellProposing k).ctl = s.ctl
      ∧ (s.tellProposing k).link = s.link ∧ (s.tellProposing k).peers = s.peers
      ∧ (s.tellProposing k).consent = s.consent ∧ (s.tellProposing k).meas = s.meas
      ∧ (s.tellProposing k).drive = s.drive ∧ (s.tellProposing k).heat = s.heat
      ∧ (s.tellProposing k).alarm = s.alarm ∧ (s.tellProposing k).capture = s.capture
      ∧ (s.tellProposing k).slotFull = s.slotFull ∧ (s.tellProposing k).pending = s.pending := by
  unfold State.tellProposing
  split <;> simp

/-- `State.beginProposal` writes at most `link`, `consent`, `slotFull`. -/
@[simp] theorem State.beginProposal_keeps (s : State) (k : ProposalKind) :
    (s.beginProposal k).now = s.now ∧ (s.beginProposal k).pins = s.pins
      ∧ (s.beginProposal k).out = s.out ∧ (s.beginProposal k).ctl = s.ctl
      ∧ (s.beginProposal k).peers = s.peers ∧ (s.beginProposal k).meas = s.meas
      ∧ (s.beginProposal k).drive = s.drive ∧ (s.beginProposal k).role = s.role
      ∧ (s.beginProposal k).walk = s.walk ∧ (s.beginProposal k).heat = s.heat
      ∧ (s.beginProposal k).alarm = s.alarm ∧ (s.beginProposal k).capture = s.capture
      ∧ (s.beginProposal k).pending = s.pending := by
  unfold State.beginProposal
  simp

/-- `State.objectTo` writes at most `link`, `slotFull`. -/
@[simp] theorem State.objectTo_keeps (s : State) (p : Station) (n : Byte) (r : Reason) :
    (s.objectTo p n r).now = s.now ∧ (s.objectTo p n r).pins = s.pins
      ∧ (s.objectTo p n r).out = s.out ∧ (s.objectTo p n r).ctl = s.ctl
      ∧ (s.objectTo p n r).peers = s.peers ∧ (s.objectTo p n r).consent = s.consent
      ∧ (s.objectTo p n r).meas = s.meas ∧ (s.objectTo p n r).drive = s.drive
      ∧ (s.objectTo p n r).role = s.role ∧ (s.objectTo p n r).walk = s.walk
      ∧ (s.objectTo p n r).heat = s.heat ∧ (s.objectTo p n r).alarm = s.alarm
      ∧ (s.objectTo p n r).capture = s.capture ∧ (s.objectTo p n r).pending = s.pending := by
  unfold State.objectTo
  simp

/-- `State.requestProposal` writes at most `out`, `ctl`, `link`, `consent`, `role`, `walk`, `alarm`, `capture`, `slotFull`. -/
@[simp] theorem State.requestProposal_keeps (s : State) (k : ProposalKind) :
    (s.requestProposal k).now = s.now ∧ (s.requestProposal k).pins = s.pins
      ∧ (s.requestProposal k).peers = s.peers ∧ (s.requestProposal k).meas = s.meas
      ∧ (s.requestProposal k).drive = s.drive ∧ (s.requestProposal k).heat = s.heat
      ∧ (s.requestProposal k).pending = s.pending := by
  unfold State.requestProposal
  dsimp only
  (repeat' split) <;> simp

/-- `State.proposeCompleted` writes at most `consent`. -/
@[simp] theorem State.proposeCompleted_keeps (s : State) (n : Byte) :
    (s.proposeCompleted n).now = s.now ∧ (s.proposeCompleted n).pins = s.pins
      ∧ (s.proposeCompleted n).out = s.out ∧ (s.proposeCompleted n).ctl = s.ctl
      ∧ (s.proposeCompleted n).link = s.link ∧ (s.proposeCompleted n).peers = s.peers
      ∧ (s.proposeCompleted n).meas = s.meas ∧ (s.proposeCompleted n).drive = s.drive
      ∧ (s.proposeCompleted n).role = s.role ∧ (s.proposeCompleted n).walk = s.walk
      ∧ (s.proposeCompleted n).heat = s.heat ∧ (s.proposeCompleted n).alarm = s.alarm
      ∧ (s.proposeCompleted n).capture = s.capture ∧ (s.proposeCompleted n).slotFull = s.slotFull
      ∧ (s.proposeCompleted n).pending = s.pending := by
  unfold State.proposeCompleted
  dsimp only
  split <;> simp

/-- `State.expireSendLimit` writes at most `out`, `link`, `consent`, `role`, `walk`, `alarm`, `capture`, `slotFull`. -/
@[simp] theorem State.expireSendLimit_keeps (s : State) :
    s.expireSendLimit.now = s.now ∧ s.expireSendLimit.pins = s.pins
      ∧ s.expireSendLimit.ctl = s.ctl ∧ s.expireSendLimit.peers = s.peers
      ∧ s.expireSendLimit.meas = s.meas ∧ s.expireSendLimit.drive = s.drive
      ∧ s.expireSendLimit.heat = s.heat ∧ s.expireSendLimit.pending = s.pending := by
  unfold State.expireSendLimit
  dsimp only
  split <;> simp

/-- `State.noteEcho` writes at most `consent`. -/
@[simp] theorem State.noteEcho_keeps (s : State) (n : Station) (f : ReportFields) :
    (s.noteEcho n f).now = s.now ∧ (s.noteEcho n f).pins = s.pins ∧ (s.noteEcho n f).out = s.out
      ∧ (s.noteEcho n f).ctl = s.ctl ∧ (s.noteEcho n f).link = s.link
      ∧ (s.noteEcho n f).peers = s.peers ∧ (s.noteEcho n f).meas = s.meas
      ∧ (s.noteEcho n f).drive = s.drive ∧ (s.noteEcho n f).role = s.role
      ∧ (s.noteEcho n f).walk = s.walk ∧ (s.noteEcho n f).heat = s.heat
      ∧ (s.noteEcho n f).alarm = s.alarm ∧ (s.noteEcho n f).capture = s.capture
      ∧ (s.noteEcho n f).slotFull = s.slotFull ∧ (s.noteEcho n f).pending = s.pending := by
  unfold State.noteEcho
  dsimp only
  split <;> simp

/-- `State.setObjecting` writes at most `consent`. -/
@[simp] theorem State.setObjecting_keeps (s : State) (b : Bool) :
    (s.setObjecting b).now = s.now ∧ (s.setObjecting b).pins = s.pins
      ∧ (s.setObjecting b).out = s.out ∧ (s.setObjecting b).ctl = s.ctl
      ∧ (s.setObjecting b).link = s.link ∧ (s.setObjecting b).peers = s.peers
      ∧ (s.setObjecting b).meas = s.meas ∧ (s.setObjecting b).drive = s.drive
      ∧ (s.setObjecting b).role = s.role ∧ (s.setObjecting b).walk = s.walk
      ∧ (s.setObjecting b).heat = s.heat ∧ (s.setObjecting b).alarm = s.alarm
      ∧ (s.setObjecting b).capture = s.capture ∧ (s.setObjecting b).slotFull = s.slotFull
      ∧ (s.setObjecting b).pending = s.pending := by
  unfold State.setObjecting
  simp

/-- `State.castVote` writes at most `link`, `consent`, `slotFull`. -/
@[simp] theorem State.castVote_keeps (s : State) (p : Station) (n : Byte) (k : ProposalKind) :
    (s.castVote p n k).now = s.now ∧ (s.castVote p n k).pins = s.pins
      ∧ (s.castVote p n k).out = s.out ∧ (s.castVote p n k).ctl = s.ctl
      ∧ (s.castVote p n k).peers = s.peers ∧ (s.castVote p n k).meas = s.meas
      ∧ (s.castVote p n k).drive = s.drive ∧ (s.castVote p n k).role = s.role
      ∧ (s.castVote p n k).walk = s.walk ∧ (s.castVote p n k).heat = s.heat
      ∧ (s.castVote p n k).alarm = s.alarm ∧ (s.castVote p n k).capture = s.capture
      ∧ (s.castVote p n k).pending = s.pending := by
  unfold State.castVote
  dsimp only
  (repeat' split) <;> simp

/-- `State.revote` writes at most `link`, `consent`, `slotFull`. -/
@[simp] theorem State.revote_keeps (s : State) :
    s.revote.now = s.now ∧ s.revote.pins = s.pins ∧ s.revote.out = s.out ∧ s.revote.ctl = s.ctl
      ∧ s.revote.peers = s.peers ∧ s.revote.meas = s.meas ∧ s.revote.drive = s.drive
      ∧ s.revote.role = s.role ∧ s.revote.walk = s.walk ∧ s.revote.heat = s.heat
      ∧ s.revote.alarm = s.alarm ∧ s.revote.capture = s.capture ∧ s.revote.pending = s.pending := by
  unfold State.revote
  (repeat' split) <;> simp

/-- `State.holdNew` writes at most `consent`. -/
@[simp] theorem State.holdNew_keeps (s : State) (p : Station) (n : Byte) (k : ProposalKind) :
    (s.holdNew p n k).now = s.now ∧ (s.holdNew p n k).pins = s.pins
      ∧ (s.holdNew p n k).out = s.out ∧ (s.holdNew p n k).ctl = s.ctl
      ∧ (s.holdNew p n k).link = s.link ∧ (s.holdNew p n k).peers = s.peers
      ∧ (s.holdNew p n k).meas = s.meas ∧ (s.holdNew p n k).drive = s.drive
      ∧ (s.holdNew p n k).role = s.role ∧ (s.holdNew p n k).walk = s.walk
      ∧ (s.holdNew p n k).heat = s.heat ∧ (s.holdNew p n k).alarm = s.alarm
      ∧ (s.holdNew p n k).capture = s.capture ∧ (s.holdNew p n k).slotFull = s.slotFull
      ∧ (s.holdNew p n k).pending = s.pending := by
  unfold State.holdNew
  split <;> simp

/-- `State.holdByTable` writes at most `consent`. -/
@[simp] theorem State.holdByTable_keeps (s : State) (p : Station) (n : Byte) (k : ProposalKind) :
    (s.holdByTable p n k).now = s.now ∧ (s.holdByTable p n k).pins = s.pins
      ∧ (s.holdByTable p n k).out = s.out ∧ (s.holdByTable p n k).ctl = s.ctl
      ∧ (s.holdByTable p n k).link = s.link ∧ (s.holdByTable p n k).peers = s.peers
      ∧ (s.holdByTable p n k).meas = s.meas ∧ (s.holdByTable p n k).drive = s.drive
      ∧ (s.holdByTable p n k).role = s.role ∧ (s.holdByTable p n k).walk = s.walk
      ∧ (s.holdByTable p n k).heat = s.heat ∧ (s.holdByTable p n k).alarm = s.alarm
      ∧ (s.holdByTable p n k).capture = s.capture ∧ (s.holdByTable p n k).slotFull = s.slotFull
      ∧ (s.holdByTable p n k).pending = s.pending := by
  unfold State.holdByTable
  (repeat' split) <;> simp

/-- `State.yieldTo` writes at most `out`, `link`, `consent`, `role`, `walk`, `alarm`, `capture`, `slotFull`. -/
@[simp] theorem State.yieldTo_keeps (s : State) (p : Station) (n : Byte) (k : ProposalKind) :
    (s.yieldTo p n k).now = s.now ∧ (s.yieldTo p n k).pins = s.pins
      ∧ (s.yieldTo p n k).ctl = s.ctl ∧ (s.yieldTo p n k).peers = s.peers
      ∧ (s.yieldTo p n k).meas = s.meas ∧ (s.yieldTo p n k).drive = s.drive
      ∧ (s.yieldTo p n k).heat = s.heat ∧ (s.yieldTo p n k).pending = s.pending := by
  unfold State.yieldTo
  simp

/-- `State.settlePropose` writes at most `out`, `link`, `consent`, `role`, `walk`, `alarm`, `capture`, `slotFull`. -/
@[simp] theorem State.settlePropose_keeps (s : State) (p : Station) (n : Byte) (k : ProposalKind) :
    (s.settlePropose p n k).now = s.now ∧ (s.settlePropose p n k).pins = s.pins
      ∧ (s.settlePropose p n k).ctl = s.ctl ∧ (s.settlePropose p n k).peers = s.peers
      ∧ (s.settlePropose p n k).meas = s.meas ∧ (s.settlePropose p n k).drive = s.drive
      ∧ (s.settlePropose p n k).heat = s.heat ∧ (s.settlePropose p n k).pending = s.pending := by
  unfold State.settlePropose
  (repeat' split) <;> simp

/-- `State.takePropose` writes at most `out`, `link`, `consent`, `role`, `walk`, `alarm`, `capture`, `slotFull`. -/
@[simp] theorem State.takePropose_keeps (s : State) (p : Station) (n : Byte) (k : ProposalKind) :
    (s.takePropose p n k).now = s.now ∧ (s.takePropose p n k).pins = s.pins
      ∧ (s.takePropose p n k).ctl = s.ctl ∧ (s.takePropose p n k).peers = s.peers
      ∧ (s.takePropose p n k).meas = s.meas ∧ (s.takePropose p n k).drive = s.drive
      ∧ (s.takePropose p n k).heat = s.heat ∧ (s.takePropose p n k).pending = s.pending := by
  unfold State.takePropose
  (repeat' split) <;> simp

/-- `State.updateHeld` writes at most `consent`. -/
@[simp] theorem State.updateHeld_keeps (s : State) (n : Station) (f : ReportFields) :
    (s.updateHeld n f).now = s.now ∧ (s.updateHeld n f).pins = s.pins
      ∧ (s.updateHeld n f).out = s.out ∧ (s.updateHeld n f).ctl = s.ctl
      ∧ (s.updateHeld n f).link = s.link ∧ (s.updateHeld n f).peers = s.peers
      ∧ (s.updateHeld n f).meas = s.meas ∧ (s.updateHeld n f).drive = s.drive
      ∧ (s.updateHeld n f).role = s.role ∧ (s.updateHeld n f).walk = s.walk
      ∧ (s.updateHeld n f).heat = s.heat ∧ (s.updateHeld n f).alarm = s.alarm
      ∧ (s.updateHeld n f).capture = s.capture ∧ (s.updateHeld n f).slotFull = s.slotFull
      ∧ (s.updateHeld n f).pending = s.pending := by
  unfold State.updateHeld
  simp

/-- `State.dropHeldOf` writes at most `consent`. -/
@[simp] theorem State.dropHeldOf_keeps (s : State) (n : Station) :
    (s.dropHeldOf n).now = s.now ∧ (s.dropHeldOf n).pins = s.pins ∧ (s.dropHeldOf n).out = s.out
      ∧ (s.dropHeldOf n).ctl = s.ctl ∧ (s.dropHeldOf n).link = s.link
      ∧ (s.dropHeldOf n).peers = s.peers ∧ (s.dropHeldOf n).meas = s.meas
      ∧ (s.dropHeldOf n).drive = s.drive ∧ (s.dropHeldOf n).role = s.role
      ∧ (s.dropHeldOf n).walk = s.walk ∧ (s.dropHeldOf n).heat = s.heat
      ∧ (s.dropHeldOf n).alarm = s.alarm ∧ (s.dropHeldOf n).capture = s.capture
      ∧ (s.dropHeldOf n).slotFull = s.slotFull ∧ (s.dropHeldOf n).pending = s.pending := by
  unfold State.dropHeldOf
  simp

/-- `State.takeCurrentObject` writes at most `out`, `ctl`, `link`, `consent`, `drive`, `role`, `walk`, `alarm`, `capture`, `slotFull`. -/
@[simp] theorem State.takeCurrentObject_keeps (s : State) (x : Station × Reason) :
    (s.takeCurrentObject x).now = s.now ∧ (s.takeCurrentObject x).pins = s.pins
      ∧ (s.takeCurrentObject x).peers = s.peers ∧ (s.takeCurrentObject x).meas = s.meas
      ∧ (s.takeCurrentObject x).heat = s.heat ∧ (s.takeCurrentObject x).pending = s.pending := by
  unfold State.takeCurrentObject
  (repeat' split) <;> simp

/-- `State.takeObject` writes at most `out`, `ctl`, `link`, `consent`, `drive`, `role`, `walk`, `alarm`, `capture`, `slotFull`. -/
@[simp] theorem State.takeObject_keeps (s : State) (q p : Station) (n : Byte) (r : Reason) :
    (s.takeObject q p n r).now = s.now ∧ (s.takeObject q p n r).pins = s.pins
      ∧ (s.takeObject q p n r).peers = s.peers ∧ (s.takeObject q p n r).meas = s.meas
      ∧ (s.takeObject q p n r).heat = s.heat ∧ (s.takeObject q p n r).pending = s.pending := by
  unfold State.takeObject
  (repeat' split) <;> simp

/-- `State.tellCommit` writes at most `role`, `walk`. -/
@[simp] theorem State.tellCommit_keeps (s : State) (k : ProposalKind) :
    (s.tellCommit k).now = s.now ∧ (s.tellCommit k).pins = s.pins ∧ (s.tellCommit k).out = s.out
      ∧ (s.tellCommit k).ctl = s.ctl ∧ (s.tellCommit k).link = s.link
      ∧ (s.tellCommit k).peers = s.peers ∧ (s.tellCommit k).consent = s.consent
      ∧ (s.tellCommit k).meas = s.meas ∧ (s.tellCommit k).drive = s.drive
      ∧ (s.tellCommit k).heat = s.heat ∧ (s.tellCommit k).alarm = s.alarm
      ∧ (s.tellCommit k).capture = s.capture ∧ (s.tellCommit k).slotFull = s.slotFull
      ∧ (s.tellCommit k).pending = s.pending := by
  unfold State.tellCommit
  (repeat' split) <;> simp

/-- `State.expireWindow` writes at most `out`, `link`, `consent`, `role`, `walk`, `alarm`, `capture`, `slotFull`. -/
@[simp] theorem State.expireWindow_keeps (s : State) :
    s.expireWindow.now = s.now ∧ s.expireWindow.pins = s.pins ∧ s.expireWindow.ctl = s.ctl
      ∧ s.expireWindow.peers = s.peers ∧ s.expireWindow.meas = s.meas
      ∧ s.expireWindow.drive = s.drive ∧ s.expireWindow.heat = s.heat
      ∧ s.expireWindow.pending = s.pending := by
  unfold State.expireWindow
  dsimp only
  (repeat' split) <;> simp

/-! ### The own report (Machine/Report.lean) -/

/-- `State.fillOwnEntry` writes at most `peers`. -/
@[simp] theorem State.fillOwnEntry_keeps (s : State) (q : BitVec 4) (f : ReportFields) :
    (s.fillOwnEntry q f).now = s.now ∧ (s.fillOwnEntry q f).pins = s.pins
      ∧ (s.fillOwnEntry q f).out = s.out ∧ (s.fillOwnEntry q f).ctl = s.ctl
      ∧ (s.fillOwnEntry q f).link = s.link ∧ (s.fillOwnEntry q f).consent = s.consent
      ∧ (s.fillOwnEntry q f).meas = s.meas ∧ (s.fillOwnEntry q f).drive = s.drive
      ∧ (s.fillOwnEntry q f).role = s.role ∧ (s.fillOwnEntry q f).walk = s.walk
      ∧ (s.fillOwnEntry q f).heat = s.heat ∧ (s.fillOwnEntry q f).alarm = s.alarm
      ∧ (s.fillOwnEntry q f).capture = s.capture ∧ (s.fillOwnEntry q f).slotFull = s.slotFull
      ∧ (s.fillOwnEntry q f).pending = s.pending := by
  unfold State.fillOwnEntry
  (repeat' split) <;> simp

/-- `State.startReportTimer` writes at most `ctl`. -/
@[simp] theorem State.startReportTimer_keeps (s : State) :
    s.startReportTimer.now = s.now ∧ s.startReportTimer.pins = s.pins
      ∧ s.startReportTimer.out = s.out ∧ s.startReportTimer.link = s.link
      ∧ s.startReportTimer.peers = s.peers ∧ s.startReportTimer.consent = s.consent
      ∧ s.startReportTimer.meas = s.meas ∧ s.startReportTimer.drive = s.drive
      ∧ s.startReportTimer.role = s.role ∧ s.startReportTimer.walk = s.walk
      ∧ s.startReportTimer.heat = s.heat ∧ s.startReportTimer.alarm = s.alarm
      ∧ s.startReportTimer.capture = s.capture ∧ s.startReportTimer.slotFull = s.slotFull
      ∧ s.startReportTimer.pending = s.pending := by
  unfold State.startReportTimer
  simp

/-- `State.ownReport` writes at most `ctl`, `link`, `peers`, `consent`, `slotFull`. -/
@[simp] theorem State.ownReport_keeps (s : State) :
    s.ownReport.now = s.now ∧ s.ownReport.pins = s.pins ∧ s.ownReport.out = s.out
      ∧ s.ownReport.meas = s.meas ∧ s.ownReport.drive = s.drive ∧ s.ownReport.role = s.role
      ∧ s.ownReport.walk = s.walk ∧ s.ownReport.heat = s.heat ∧ s.ownReport.alarm = s.alarm
      ∧ s.ownReport.capture = s.capture ∧ s.ownReport.pending = s.pending := by
  unfold State.ownReport
  simp

/-- `State.reportEvent` writes at most `ctl`, `link`, `peers`, `consent`, `slotFull`. -/
@[simp] theorem State.reportEvent_keeps (s : State) :
    s.reportEvent.now = s.now ∧ s.reportEvent.pins = s.pins ∧ s.reportEvent.out = s.out
      ∧ s.reportEvent.meas = s.meas ∧ s.reportEvent.drive = s.drive ∧ s.reportEvent.role = s.role
      ∧ s.reportEvent.walk = s.walk ∧ s.reportEvent.heat = s.heat ∧ s.reportEvent.alarm = s.alarm
      ∧ s.reportEvent.capture = s.capture ∧ s.reportEvent.pending = s.pending := by
  unfold State.reportEvent
  simp

/-! ### HOLD, STOP and raises of TRIP and STOP codes (Machine/Control.lean) -/

/-- `State.enterHold` writes at most `out`, `ctl`, `consent`, `drive`, `walk`. -/
@[simp] theorem State.enterHold_keeps (s : State) :
    s.enterHold.now = s.now ∧ s.enterHold.pins = s.pins ∧ s.enterHold.link = s.link
      ∧ s.enterHold.peers = s.peers ∧ s.enterHold.meas = s.meas ∧ s.enterHold.role = s.role
      ∧ s.enterHold.heat = s.heat ∧ s.enterHold.alarm = s.alarm ∧ s.enterHold.capture = s.capture
      ∧ s.enterHold.slotFull = s.slotFull ∧ s.enterHold.pending = s.pending := by
  unfold State.enterHold
  dsimp only
  (repeat' split) <;> simp

/-- `State.addCause` writes at most `out`, `ctl`, `consent`, `drive`, `walk`. -/
@[simp] theorem State.addCause_keeps (s : State) (c : HoldCause) :
    (s.addCause c).now = s.now ∧ (s.addCause c).pins = s.pins ∧ (s.addCause c).link = s.link
      ∧ (s.addCause c).peers = s.peers ∧ (s.addCause c).meas = s.meas
      ∧ (s.addCause c).role = s.role ∧ (s.addCause c).heat = s.heat
      ∧ (s.addCause c).alarm = s.alarm ∧ (s.addCause c).capture = s.capture
      ∧ (s.addCause c).slotFull = s.slotFull ∧ (s.addCause c).pending = s.pending := by
  unfold State.addCause
  dsimp only
  (repeat' split) <;> simp

/-- `State.addLocalTrip` writes at most `out`, `ctl`, `consent`, `drive`, `role`, `walk`, `alarm`. -/
@[simp] theorem State.addLocalTrip_keeps (s : State) :
    s.addLocalTrip.now = s.now ∧ s.addLocalTrip.pins = s.pins ∧ s.addLocalTrip.link = s.link
      ∧ s.addLocalTrip.peers = s.peers ∧ s.addLocalTrip.meas = s.meas
      ∧ s.addLocalTrip.heat = s.heat ∧ s.addLocalTrip.capture = s.capture
      ∧ s.addLocalTrip.slotFull = s.slotFull ∧ s.addLocalTrip.pending = s.pending := by
  unfold State.addLocalTrip
  split <;> simp

/-- `State.raiseTrip` writes at most `out`, `ctl`, `link`, `consent`, `drive`, `role`, `walk`, `alarm`, `capture`, `slotFull`. -/
@[simp] theorem State.raiseTrip_keeps (s : State) (c : AlarmCode) (v : Int) :
    (s.raiseTrip c v).now = s.now ∧ (s.raiseTrip c v).pins = s.pins
      ∧ (s.raiseTrip c v).peers = s.peers ∧ (s.raiseTrip c v).meas = s.meas
      ∧ (s.raiseTrip c v).heat = s.heat ∧ (s.raiseTrip c v).pending = s.pending := by
  unfold State.raiseTrip
  dsimp only
  (repeat' split) <;> simp

/-- `State.enterForced` writes at most `out`, `ctl`, `link`, `consent`, `drive`, `role`, `walk`, `alarm`, `capture`, `slotFull`. -/
@[simp] theorem State.enterForced_keeps (s : State) (c : ForcedCause) :
    (s.enterForced c).now = s.now ∧ (s.enterForced c).pins = s.pins
      ∧ (s.enterForced c).peers = s.peers ∧ (s.enterForced c).meas = s.meas
      ∧ (s.enterForced c).heat = s.heat ∧ (s.enterForced c).pending = s.pending := by
  unfold State.enterForced
  simp

/-- `State.forceWalk` writes at most `out`, `ctl`, `link`, `consent`, `drive`, `role`, `walk`, `alarm`, `capture`, `slotFull`. -/
@[simp] theorem State.forceWalk_keeps (s : State) (c : ForcedCause) :
    (s.forceWalk c).now = s.now ∧ (s.forceWalk c).pins = s.pins ∧ (s.forceWalk c).peers = s.peers
      ∧ (s.forceWalk c).meas = s.meas ∧ (s.forceWalk c).heat = s.heat
      ∧ (s.forceWalk c).pending = s.pending := by
  unfold State.forceWalk
  (repeat' split) <;> simp

/-- `State.clearForced` writes at most `out`, `ctl`, `walk`, `alarm`. -/
@[simp] theorem State.clearForced_keeps (s : State) (c : ForcedCause) :
    (s.clearForced c).now = s.now ∧ (s.clearForced c).pins = s.pins
      ∧ (s.clearForced c).link = s.link ∧ (s.clearForced c).peers = s.peers
      ∧ (s.clearForced c).consent = s.consent ∧ (s.clearForced c).meas = s.meas
      ∧ (s.clearForced c).drive = s.drive ∧ (s.clearForced c).role = s.role
      ∧ (s.clearForced c).heat = s.heat ∧ (s.clearForced c).capture = s.capture
      ∧ (s.clearForced c).slotFull = s.slotFull ∧ (s.clearForced c).pending = s.pending := by
  unfold State.clearForced
  dsimp only
  (repeat' split) <;> simp

/-- `State.stopSupply` writes at most `out`, `ctl`, `drive`, `role`, `alarm`. -/
@[simp] theorem State.stopSupply_keeps (s : State) :
    s.stopSupply.now = s.now ∧ s.stopSupply.pins = s.pins ∧ s.stopSupply.link = s.link
      ∧ s.stopSupply.peers = s.peers ∧ s.stopSupply.consent = s.consent
      ∧ s.stopSupply.meas = s.meas ∧ s.stopSupply.walk = s.walk ∧ s.stopSupply.heat = s.heat
      ∧ s.stopSupply.capture = s.capture ∧ s.stopSupply.slotFull = s.slotFull
      ∧ s.stopSupply.pending = s.pending := by
  unfold State.stopSupply
  (repeat' split) <;> simp

/-- `State.makeSafe` writes at most `out`, `drive`. -/
@[simp] theorem State.makeSafe_keeps (s : State) :
    s.makeSafe.now = s.now ∧ s.makeSafe.pins = s.pins ∧ s.makeSafe.ctl = s.ctl
      ∧ s.makeSafe.link = s.link ∧ s.makeSafe.peers = s.peers ∧ s.makeSafe.consent = s.consent
      ∧ s.makeSafe.meas = s.meas ∧ s.makeSafe.role = s.role ∧ s.makeSafe.walk = s.walk
      ∧ s.makeSafe.heat = s.heat ∧ s.makeSafe.alarm = s.alarm ∧ s.makeSafe.capture = s.capture
      ∧ s.makeSafe.slotFull = s.slotFull ∧ s.makeSafe.pending = s.pending := by
  unfold State.makeSafe
  simp

/-- `State.startReporting` writes at most `out`, `ctl`, `link`, `peers`, `consent`, `alarm`, `capture`, `slotFull`. -/
@[simp] theorem State.startReporting_keeps (s : State) (m : Mode) :
    (s.startReporting m).now = s.now ∧ (s.startReporting m).pins = s.pins
      ∧ (s.startReporting m).meas = s.meas ∧ (s.startReporting m).drive = s.drive
      ∧ (s.startReporting m).role = s.role ∧ (s.startReporting m).walk = s.walk
      ∧ (s.startReporting m).heat = s.heat ∧ (s.startReporting m).pending = s.pending := by
  unfold State.startReporting
  (repeat' split) <;> simp

/-- `State.enterStop` writes at most `out`, `ctl`, `link`, `peers`, `consent`, `drive`, `role`, `walk`, `alarm`, `capture`, `slotFull`. -/
@[simp] theorem State.enterStop_keeps (s : State) :
    s.enterStop.now = s.now ∧ s.enterStop.pins = s.pins ∧ s.enterStop.meas = s.meas
      ∧ s.enterStop.heat = s.heat ∧ s.enterStop.pending = s.pending := by
  unfold State.enterStop
  split <;> simp

/-- `State.raiseStop` writes at most `out`, `ctl`, `link`, `peers`, `consent`, `drive`, `role`, `walk`, `alarm`, `capture`, `slotFull`. -/
@[simp] theorem State.raiseStop_keeps (s : State) (c : AlarmCode) (v : Int) :
    (s.raiseStop c v).now = s.now ∧ (s.raiseStop c v).pins = s.pins
      ∧ (s.raiseStop c v).meas = s.meas ∧ (s.raiseStop c v).heat = s.heat
      ∧ (s.raiseStop c v).pending = s.pending := by
  unfold State.raiseStop
  split <;> simp

/-- `State.raise` writes at most `out`, `ctl`, `link`, `peers`, `consent`, `drive`, `role`, `walk`, `alarm`, `capture`, `slotFull`. -/
@[simp] theorem State.raise_keeps (s : State) (c : AlarmCode) (v : Int) :
    (s.raise c v).now = s.now ∧ (s.raise c v).pins = s.pins ∧ (s.raise c v).meas = s.meas
      ∧ (s.raise c v).heat = s.heat ∧ (s.raise c v).pending = s.pending := by
  unfold State.raise
  split <;> simp

/-! ### The peer table's events (Machine/Peer.lean) -/

/-- `State.findConflict` writes at most `out`, `ctl`, `link`, `peers`, `consent`, `drive`, `role`, `walk`, `alarm`, `capture`, `slotFull`. -/
@[simp] theorem State.findConflict_keeps (s : State) (n : Station) :
    (s.findConflict n).now = s.now ∧ (s.findConflict n).pins = s.pins
      ∧ (s.findConflict n).meas = s.meas ∧ (s.findConflict n).heat = s.heat
      ∧ (s.findConflict n).pending = s.pending := by
  unfold State.findConflict
  split <;> simp

/-- `State.endConflict` writes at most `out`, `ctl`, `peers`, `alarm`. -/
@[simp] theorem State.endConflict_keeps (s : State) :
    s.endConflict.now = s.now ∧ s.endConflict.pins = s.pins ∧ s.endConflict.link = s.link
      ∧ s.endConflict.consent = s.consent ∧ s.endConflict.meas = s.meas
      ∧ s.endConflict.drive = s.drive ∧ s.endConflict.role = s.role ∧ s.endConflict.walk = s.walk
      ∧ s.endConflict.heat = s.heat ∧ s.endConflict.capture = s.capture
      ∧ s.endConflict.slotFull = s.slotFull ∧ s.endConflict.pending = s.pending := by
  unfold State.endConflict
  split <;> simp

/-- `State.addPeerStop` writes at most `out`, `ctl`, `consent`, `drive`, `walk`. -/
@[simp] theorem State.addPeerStop_keeps (s : State) (b : Bool) :
    (s.addPeerStop b).now = s.now ∧ (s.addPeerStop b).pins = s.pins
      ∧ (s.addPeerStop b).link = s.link ∧ (s.addPeerStop b).peers = s.peers
      ∧ (s.addPeerStop b).meas = s.meas ∧ (s.addPeerStop b).role = s.role
      ∧ (s.addPeerStop b).heat = s.heat ∧ (s.addPeerStop b).alarm = s.alarm
      ∧ (s.addPeerStop b).capture = s.capture ∧ (s.addPeerStop b).slotFull = s.slotFull
      ∧ (s.addPeerStop b).pending = s.pending := by
  unfold State.addPeerStop
  split <;> simp

/-- `State.removePeerStop` writes at most `out`, `ctl`. -/
@[simp] theorem State.removePeerStop_keeps (s : State) (b : Bool) :
    (s.removePeerStop b).now = s.now ∧ (s.removePeerStop b).pins = s.pins
      ∧ (s.removePeerStop b).link = s.link ∧ (s.removePeerStop b).peers = s.peers
      ∧ (s.removePeerStop b).consent = s.consent ∧ (s.removePeerStop b).meas = s.meas
      ∧ (s.removePeerStop b).drive = s.drive ∧ (s.removePeerStop b).role = s.role
      ∧ (s.removePeerStop b).walk = s.walk ∧ (s.removePeerStop b).heat = s.heat
      ∧ (s.removePeerStop b).alarm = s.alarm ∧ (s.removePeerStop b).capture = s.capture
      ∧ (s.removePeerStop b).slotFull = s.slotFull ∧ (s.removePeerStop b).pending = s.pending := by
  unfold State.removePeerStop
  split <;> simp

/-- `State.returnMismatch` writes at most `out`, `ctl`, `alarm`. -/
@[simp] theorem State.returnMismatch_keeps (s : State) (b : Bool) :
    (s.returnMismatch b).now = s.now ∧ (s.returnMismatch b).pins = s.pins
      ∧ (s.returnMismatch b).link = s.link ∧ (s.returnMismatch b).peers = s.peers
      ∧ (s.returnMismatch b).consent = s.consent ∧ (s.returnMismatch b).meas = s.meas
      ∧ (s.returnMismatch b).drive = s.drive ∧ (s.returnMismatch b).role = s.role
      ∧ (s.returnMismatch b).walk = s.walk ∧ (s.returnMismatch b).heat = s.heat
      ∧ (s.returnMismatch b).capture = s.capture ∧ (s.returnMismatch b).slotFull = s.slotFull
      ∧ (s.returnMismatch b).pending = s.pending := by
  unfold State.returnMismatch
  split <;> simp

/-- `State.returnLost` writes at most `out`, `ctl`, `alarm`. -/
@[simp] theorem State.returnLost_keeps (s : State) (b : Bool) :
    (s.returnLost b).now = s.now ∧ (s.returnLost b).pins = s.pins ∧ (s.returnLost b).link = s.link
      ∧ (s.returnLost b).peers = s.peers ∧ (s.returnLost b).consent = s.consent
      ∧ (s.returnLost b).meas = s.meas ∧ (s.returnLost b).drive = s.drive
      ∧ (s.returnLost b).role = s.role ∧ (s.returnLost b).walk = s.walk
      ∧ (s.returnLost b).heat = s.heat ∧ (s.returnLost b).capture = s.capture
      ∧ (s.returnLost b).slotFull = s.slotFull ∧ (s.returnLost b).pending = s.pending := by
  unfold State.returnLost
  split <;> simp

/-- `State.returnStale` writes at most `out`, `ctl`, `peers`, `alarm`. -/
@[simp] theorem State.returnStale_keeps (s : State) :
    s.returnStale.now = s.now ∧ s.returnStale.pins = s.pins ∧ s.returnStale.link = s.link
      ∧ s.returnStale.consent = s.consent ∧ s.returnStale.meas = s.meas
      ∧ s.returnStale.drive = s.drive ∧ s.returnStale.role = s.role ∧ s.returnStale.walk = s.walk
      ∧ s.returnStale.heat = s.heat ∧ s.returnStale.capture = s.capture
      ∧ s.returnStale.slotFull = s.slotFull ∧ s.returnStale.pending = s.pending := by
  unfold State.returnStale
  split <;> simp

/-- `State.completePicture` writes at most `out`, `ctl`. -/
@[simp] theorem State.completePicture_keeps (s : State) :
    s.completePicture.now = s.now ∧ s.completePicture.pins = s.pins
      ∧ s.completePicture.link = s.link ∧ s.completePicture.peers = s.peers
      ∧ s.completePicture.consent = s.consent ∧ s.completePicture.meas = s.meas
      ∧ s.completePicture.drive = s.drive ∧ s.completePicture.role = s.role
      ∧ s.completePicture.walk = s.walk ∧ s.completePicture.heat = s.heat
      ∧ s.completePicture.alarm = s.alarm ∧ s.completePicture.capture = s.capture
      ∧ s.completePicture.slotFull = s.slotFull ∧ s.completePicture.pending = s.pending := by
  unfold State.completePicture
  split <;> simp

/-- `State.endReturning` writes at most `out`, `consent`, `drive`, `walk`. -/
@[simp] theorem State.endReturning_keeps (s : State) :
    s.endReturning.now = s.now ∧ s.endReturning.pins = s.pins ∧ s.endReturning.ctl = s.ctl
      ∧ s.endReturning.link = s.link ∧ s.endReturning.peers = s.peers
      ∧ s.endReturning.meas = s.meas ∧ s.endReturning.role = s.role ∧ s.endReturning.heat = s.heat
      ∧ s.endReturning.alarm = s.alarm ∧ s.endReturning.capture = s.capture
      ∧ s.endReturning.slotFull = s.slotFull ∧ s.endReturning.pending = s.pending := by
  unfold State.endReturning
  split <;> simp

/-- `State.takeUpSupply` writes at most `out`, `walk`. -/
@[simp] theorem State.takeUpSupply_keeps (s : State) :
    s.takeUpSupply.now = s.now ∧ s.takeUpSupply.pins = s.pins ∧ s.takeUpSupply.ctl = s.ctl
      ∧ s.takeUpSupply.link = s.link ∧ s.takeUpSupply.peers = s.peers
      ∧ s.takeUpSupply.consent = s.consent ∧ s.takeUpSupply.meas = s.meas
      ∧ s.takeUpSupply.drive = s.drive ∧ s.takeUpSupply.role = s.role
      ∧ s.takeUpSupply.heat = s.heat ∧ s.takeUpSupply.alarm = s.alarm
      ∧ s.takeUpSupply.capture = s.capture ∧ s.takeUpSupply.slotFull = s.slotFull
      ∧ s.takeUpSupply.pending = s.pending := by
  unfold State.takeUpSupply
  split <;> simp

/-- `State.walkTakesDrag` writes at most `out`, `ctl`, `link`, `consent`, `drive`, `role`, `walk`, `alarm`, `capture`, `slotFull`. -/
@[simp] theorem State.walkTakesDrag_keeps (s : State) (n : Station) :
    (s.walkTakesDrag n).now = s.now ∧ (s.walkTakesDrag n).pins = s.pins
      ∧ (s.walkTakesDrag n).peers = s.peers ∧ (s.walkTakesDrag n).meas = s.meas
      ∧ (s.walkTakesDrag n).heat = s.heat ∧ (s.walkTakesDrag n).pending = s.pending := by
  unfold State.walkTakesDrag
  dsimp only
  (repeat' split) <;> simp

/-- `State.dragTakesWalk` writes at most `out`, `ctl`, `drive`, `role`, `alarm`. -/
@[simp] theorem State.dragTakesWalk_keeps (s : State) (w : WalkState) :
    (s.dragTakesWalk w).now = s.now ∧ (s.dragTakesWalk w).pins = s.pins
      ∧ (s.dragTakesWalk w).link = s.link ∧ (s.dragTakesWalk w).peers = s.peers
      ∧ (s.dragTakesWalk w).consent = s.consent ∧ (s.dragTakesWalk w).meas = s.meas
      ∧ (s.dragTakesWalk w).walk = s.walk ∧ (s.dragTakesWalk w).heat = s.heat
      ∧ (s.dragTakesWalk w).capture = s.capture ∧ (s.dragTakesWalk w).slotFull = s.slotFull
      ∧ (s.dragTakesWalk w).pending = s.pending := by
  unfold State.dragTakesWalk
  split <;> simp

/-- `State.walkActive` writes at most `out`, `ctl`, `consent`, `drive`, `walk`. -/
@[simp] theorem State.walkActive_keeps (s : State) (w : WalkState) :
    (s.walkActive w).now = s.now ∧ (s.walkActive w).pins = s.pins ∧ (s.walkActive w).link = s.link
      ∧ (s.walkActive w).peers = s.peers ∧ (s.walkActive w).meas = s.meas
      ∧ (s.walkActive w).role = s.role ∧ (s.walkActive w).heat = s.heat
      ∧ (s.walkActive w).alarm = s.alarm ∧ (s.walkActive w).capture = s.capture
      ∧ (s.walkActive w).slotFull = s.slotFull ∧ (s.walkActive w).pending = s.pending := by
  unfold State.walkActive
  split <;> simp

/-- `State.dutiesTake` writes at most `out`, `ctl`, `link`, `consent`, `drive`, `role`, `walk`, `alarm`, `capture`, `slotFull`. -/
@[simp] theorem State.dutiesTake_keeps (s : State) (n : Station) (f : ReportFields) :
    (s.dutiesTake n f).now = s.now ∧ (s.dutiesTake n f).pins = s.pins
      ∧ (s.dutiesTake n f).peers = s.peers ∧ (s.dutiesTake n f).meas = s.meas
      ∧ (s.dutiesTake n f).heat = s.heat ∧ (s.dutiesTake n f).pending = s.pending := by
  unfold State.dutiesTake
  dsimp only
  (repeat' split) <;> simp

/-- `State.partnerTakes` writes at most `out`, `ctl`, `drive`, `alarm`. -/
@[simp] theorem State.partnerTakes_keeps (s : State) (n : Station) :
    (s.partnerTakes n).now = s.now ∧ (s.partnerTakes n).pins = s.pins
      ∧ (s.partnerTakes n).link = s.link ∧ (s.partnerTakes n).peers = s.peers
      ∧ (s.partnerTakes n).consent = s.consent ∧ (s.partnerTakes n).meas = s.meas
      ∧ (s.partnerTakes n).role = s.role ∧ (s.partnerTakes n).walk = s.walk
      ∧ (s.partnerTakes n).heat = s.heat ∧ (s.partnerTakes n).capture = s.capture
      ∧ (s.partnerTakes n).slotFull = s.slotFull ∧ (s.partnerTakes n).pending = s.pending := by
  unfold State.partnerTakes
  (repeat' split) <;> simp

/-- `State.raiseUnlisted` writes at most `out`, `link`, `alarm`, `capture`, `slotFull`. -/
@[simp] theorem State.raiseUnlisted_keeps (s : State) (n : Station) (e : PeerEntry) :
    (s.raiseUnlisted n e).now = s.now ∧ (s.raiseUnlisted n e).pins = s.pins
      ∧ (s.raiseUnlisted n e).ctl = s.ctl ∧ (s.raiseUnlisted n e).peers = s.peers
      ∧ (s.raiseUnlisted n e).consent = s.consent ∧ (s.raiseUnlisted n e).meas = s.meas
      ∧ (s.raiseUnlisted n e).drive = s.drive ∧ (s.raiseUnlisted n e).role = s.role
      ∧ (s.raiseUnlisted n e).walk = s.walk ∧ (s.raiseUnlisted n e).heat = s.heat
      ∧ (s.raiseUnlisted n e).pending = s.pending := by
  unfold State.raiseUnlisted
  split <;> simp

/-- `State.raiseMismatch` writes at most `out`, `ctl`, `link`, `consent`, `drive`, `role`, `walk`, `alarm`, `capture`, `slotFull`. -/
@[simp] theorem State.raiseMismatch_keeps (s : State) (n : Station) (e : PeerEntry) :
    (s.raiseMismatch n e).now = s.now ∧ (s.raiseMismatch n e).pins = s.pins
      ∧ (s.raiseMismatch n e).peers = s.peers ∧ (s.raiseMismatch n e).meas = s.meas
      ∧ (s.raiseMismatch n e).heat = s.heat ∧ (s.raiseMismatch n e).pending = s.pending := by
  unfold State.raiseMismatch
  split <;> simp

/-- `State.acceptReport` writes at most `out`, `ctl`, `link`, `peers`, `consent`, `drive`, `role`, `walk`, `alarm`, `capture`, `slotFull`. -/
@[simp] theorem State.acceptReport_keeps (s : State) (n : Station) (q : BitVec 4) (r : BitVec 3) (f : ReportFields) :
    (s.acceptReport n q r f).now = s.now ∧ (s.acceptReport n q r f).pins = s.pins
      ∧ (s.acceptReport n q r f).meas = s.meas ∧ (s.acceptReport n q r f).heat = s.heat
      ∧ (s.acceptReport n q r f).pending = s.pending := by
  unfold State.acceptReport
  simp

/-- `State.takeReport` writes at most `out`, `ctl`, `link`, `peers`, `consent`, `drive`, `role`, `walk`, `alarm`, `capture`, `slotFull`. -/
@[simp] theorem State.takeReport_keeps (s : State) (n : Station) (l : List Byte) :
    (s.takeReport n l).now = s.now ∧ (s.takeReport n l).pins = s.pins
      ∧ (s.takeReport n l).meas = s.meas ∧ (s.takeReport n l).heat = s.heat
      ∧ (s.takeReport n l).pending = s.pending := by
  unfold State.takeReport
  dsimp only
  (repeat' split) <;> simp

/-- `State.partnerStale` writes at most `out`, `link`, `drive`, `alarm`, `capture`, `slotFull`. -/
@[simp] theorem State.partnerStale_keeps (s : State) (n : Station) :
    (s.partnerStale n).now = s.now ∧ (s.partnerStale n).pins = s.pins
      ∧ (s.partnerStale n).ctl = s.ctl ∧ (s.partnerStale n).peers = s.peers
      ∧ (s.partnerStale n).consent = s.consent ∧ (s.partnerStale n).meas = s.meas
      ∧ (s.partnerStale n).role = s.role ∧ (s.partnerStale n).walk = s.walk
      ∧ (s.partnerStale n).heat = s.heat ∧ (s.partnerStale n).pending = s.pending := by
  unfold State.partnerStale
  split <;> simp

/-- `State.walkDragStale` writes at most `out`, `link`, `consent`, `drive`, `walk`, `alarm`, `capture`, `slotFull`. -/
@[simp] theorem State.walkDragStale_keeps (s : State) (n : Station) :
    (s.walkDragStale n).now = s.now ∧ (s.walkDragStale n).pins = s.pins
      ∧ (s.walkDragStale n).ctl = s.ctl ∧ (s.walkDragStale n).peers = s.peers
      ∧ (s.walkDragStale n).meas = s.meas ∧ (s.walkDragStale n).role = s.role
      ∧ (s.walkDragStale n).heat = s.heat ∧ (s.walkDragStale n).pending = s.pending := by
  unfold State.walkDragStale
  split <;> simp

/-- `State.goStale` writes at most `out`, `ctl`, `link`, `peers`, `consent`, `drive`, `role`, `walk`, `alarm`, `capture`, `slotFull`. -/
@[simp] theorem State.goStale_keeps (s : State) (n : Station) :
    (s.goStale n).now = s.now ∧ (s.goStale n).pins = s.pins ∧ (s.goStale n).meas = s.meas
      ∧ (s.goStale n).heat = s.heat ∧ (s.goStale n).pending = s.pending := by
  unfold State.goStale
  dsimp only
  split <;> simp

/-- `State.rosterLost` writes at most `out`, `ctl`, `link`, `consent`, `drive`, `role`, `walk`, `alarm`, `capture`, `slotFull`. -/
@[simp] theorem State.rosterLost_keeps (s : State) (n : Station) :
    (s.rosterLost n).now = s.now ∧ (s.rosterLost n).pins = s.pins
      ∧ (s.rosterLost n).peers = s.peers ∧ (s.rosterLost n).meas = s.meas
      ∧ (s.rosterLost n).heat = s.heat ∧ (s.rosterLost n).pending = s.pending := by
  unfold State.rosterLost
  split <;> simp

/-- `State.leadAbsent` writes at most `out`, `ctl`, `consent`, `drive`, `walk`. -/
@[simp] theorem State.leadAbsent_keeps (s : State) (n : Station) :
    (s.leadAbsent n).now = s.now ∧ (s.leadAbsent n).pins = s.pins ∧ (s.leadAbsent n).link = s.link
      ∧ (s.leadAbsent n).peers = s.peers ∧ (s.leadAbsent n).meas = s.meas
      ∧ (s.leadAbsent n).role = s.role ∧ (s.leadAbsent n).heat = s.heat
      ∧ (s.leadAbsent n).alarm = s.alarm ∧ (s.leadAbsent n).capture = s.capture
      ∧ (s.leadAbsent n).slotFull = s.slotFull ∧ (s.leadAbsent n).pending = s.pending := by
  unfold State.leadAbsent
  split <;> simp

/-- `State.walkDragAbsent` writes at most `out`, `ctl`, `link`, `consent`, `drive`, `role`, `walk`, `alarm`, `capture`, `slotFull`. -/
@[simp] theorem State.walkDragAbsent_keeps (s : State) (n : Station) :
    (s.walkDragAbsent n).now = s.now ∧ (s.walkDragAbsent n).pins = s.pins
      ∧ (s.walkDragAbsent n).peers = s.peers ∧ (s.walkDragAbsent n).meas = s.meas
      ∧ (s.walkDragAbsent n).heat = s.heat ∧ (s.walkDragAbsent n).pending = s.pending := by
  unfold State.walkDragAbsent
  split <;> simp

/-- `State.walkAbsentAtDrag` writes at most `out`, `ctl`, `drive`, `role`, `alarm`. -/
@[simp] theorem State.walkAbsentAtDrag_keeps (s : State) (n : Station) :
    (s.walkAbsentAtDrag n).now = s.now ∧ (s.walkAbsentAtDrag n).pins = s.pins
      ∧ (s.walkAbsentAtDrag n).link = s.link ∧ (s.walkAbsentAtDrag n).peers = s.peers
      ∧ (s.walkAbsentAtDrag n).consent = s.consent ∧ (s.walkAbsentAtDrag n).meas = s.meas
      ∧ (s.walkAbsentAtDrag n).walk = s.walk ∧ (s.walkAbsentAtDrag n).heat = s.heat
      ∧ (s.walkAbsentAtDrag n).capture = s.capture ∧ (s.walkAbsentAtDrag n).slotFull = s.slotFull
      ∧ (s.walkAbsentAtDrag n).pending = s.pending := by
  unfold State.walkAbsentAtDrag
  split <;> simp

/-- `State.walkAbsentHeld` writes at most `out`, `ctl`. -/
@[simp] theorem State.walkAbsentHeld_keeps (s : State) (n : Station) :
    (s.walkAbsentHeld n).now = s.now ∧ (s.walkAbsentHeld n).pins = s.pins
      ∧ (s.walkAbsentHeld n).link = s.link ∧ (s.walkAbsentHeld n).peers = s.peers
      ∧ (s.walkAbsentHeld n).consent = s.consent ∧ (s.walkAbsentHeld n).meas = s.meas
      ∧ (s.walkAbsentHeld n).drive = s.drive ∧ (s.walkAbsentHeld n).role = s.role
      ∧ (s.walkAbsentHeld n).walk = s.walk ∧ (s.walkAbsentHeld n).heat = s.heat
      ∧ (s.walkAbsentHeld n).alarm = s.alarm ∧ (s.walkAbsentHeld n).capture = s.capture
      ∧ (s.walkAbsentHeld n).slotFull = s.slotFull ∧ (s.walkAbsentHeld n).pending = s.pending := by
  unfold State.walkAbsentHeld
  split <;> simp

/-- `State.returnUnlisted` writes at most `out`, `ctl`, `alarm`. -/
@[simp] theorem State.returnUnlisted_keeps (s : State) (n : Station) :
    (s.returnUnlisted n).now = s.now ∧ (s.returnUnlisted n).pins = s.pins
      ∧ (s.returnUnlisted n).link = s.link ∧ (s.returnUnlisted n).peers = s.peers
      ∧ (s.returnUnlisted n).consent = s.consent ∧ (s.returnUnlisted n).meas = s.meas
      ∧ (s.returnUnlisted n).drive = s.drive ∧ (s.returnUnlisted n).role = s.role
      ∧ (s.returnUnlisted n).walk = s.walk ∧ (s.returnUnlisted n).heat = s.heat
      ∧ (s.returnUnlisted n).capture = s.capture ∧ (s.returnUnlisted n).slotFull = s.slotFull
      ∧ (s.returnUnlisted n).pending = s.pending := by
  unfold State.returnUnlisted
  split <;> simp

/-- `State.goAbsent` writes at most `out`, `ctl`, `link`, `peers`, `consent`, `drive`, `role`, `walk`, `alarm`, `capture`, `slotFull`. -/
@[simp] theorem State.goAbsent_keeps (s : State) (n : Station) :
    (s.goAbsent n).now = s.now ∧ (s.goAbsent n).pins = s.pins ∧ (s.goAbsent n).meas = s.meas
      ∧ (s.goAbsent n).heat = s.heat ∧ (s.goAbsent n).pending = s.pending := by
  unfold State.goAbsent
  simp

/-- `State.stopNotice` writes at most `out`, `ctl`, `peers`, `consent`, `drive`, `walk`. -/
@[simp] theorem State.stopNotice_keeps (s : State) (n : Station) :
    (s.stopNotice n).now = s.now ∧ (s.stopNotice n).pins = s.pins ∧ (s.stopNotice n).link = s.link
      ∧ (s.stopNotice n).meas = s.meas ∧ (s.stopNotice n).role = s.role
      ∧ (s.stopNotice n).heat = s.heat ∧ (s.stopNotice n).alarm = s.alarm
      ∧ (s.stopNotice n).capture = s.capture ∧ (s.stopNotice n).slotFull = s.slotFull
      ∧ (s.stopNotice n).pending = s.pending := by
  unfold State.stopNotice
  split <;> simp

/-! ### Measurement and the drive regulator at an expiry (Machine/Measure.lean, Machine/Drive.lean) -/

/-- `State.formValues` writes at most `meas`. -/
@[simp] theorem State.formValues_keeps (s : State) (a : Analog) :
    (s.formValues a).now = s.now ∧ (s.formValues a).pins = s.pins ∧ (s.formValues a).out = s.out
      ∧ (s.formValues a).ctl = s.ctl ∧ (s.formValues a).link = s.link
      ∧ (s.formValues a).peers = s.peers ∧ (s.formValues a).consent = s.consent
      ∧ (s.formValues a).drive = s.drive ∧ (s.formValues a).role = s.role
      ∧ (s.formValues a).walk = s.walk ∧ (s.formValues a).heat = s.heat
      ∧ (s.formValues a).alarm = s.alarm ∧ (s.formValues a).capture = s.capture
      ∧ (s.formValues a).slotFull = s.slotFull ∧ (s.formValues a).pending = s.pending := by
  unfold State.formValues
  simp

/-- `State.watchTach` writes at most `meas`. -/
@[simp] theorem State.watchTach_keeps (s : State) :
    s.watchTach.now = s.now ∧ s.watchTach.pins = s.pins ∧ s.watchTach.out = s.out
      ∧ s.watchTach.ctl = s.ctl ∧ s.watchTach.link = s.link ∧ s.watchTach.peers = s.peers
      ∧ s.watchTach.consent = s.consent ∧ s.watchTach.drive = s.drive ∧ s.watchTach.role = s.role
      ∧ s.watchTach.walk = s.walk ∧ s.watchTach.heat = s.heat ∧ s.watchTach.alarm = s.alarm
      ∧ s.watchTach.capture = s.capture ∧ s.watchTach.slotFull = s.slotFull
      ∧ s.watchTach.pending = s.pending := by
  unfold State.watchTach
  simp

/-- `State.expireTachExcess` writes at most `out`, `ctl`, `link`, `consent`, `meas`, `drive`, `role`, `walk`, `alarm`, `capture`, `slotFull`. -/
@[simp] theorem State.expireTachExcess_keeps (s : State) :
    s.expireTachExcess.now = s.now ∧ s.expireTachExcess.pins = s.pins
      ∧ s.expireTachExcess.peers = s.peers ∧ s.expireTachExcess.heat = s.heat
      ∧ s.expireTachExcess.pending = s.pending := by
  unfold State.expireTachExcess
  split <;> simp

/-- `State.expireTachRecovery` writes at most `out`, `ctl`, `meas`, `alarm`. -/
@[simp] theorem State.expireTachRecovery_keeps (s : State) :
    s.expireTachRecovery.now = s.now ∧ s.expireTachRecovery.pins = s.pins
      ∧ s.expireTachRecovery.link = s.link ∧ s.expireTachRecovery.peers = s.peers
      ∧ s.expireTachRecovery.consent = s.consent ∧ s.expireTachRecovery.drive = s.drive
      ∧ s.expireTachRecovery.role = s.role ∧ s.expireTachRecovery.walk = s.walk
      ∧ s.expireTachRecovery.heat = s.heat ∧ s.expireTachRecovery.capture = s.capture
      ∧ s.expireTachRecovery.slotFull = s.slotFull ∧ s.expireTachRecovery.pending = s.pending := by
  unfold State.expireTachRecovery
  split <;> simp

/-- `State.checkTach` writes at most `out`, `ctl`, `link`, `consent`, `meas`, `drive`, `role`, `walk`, `alarm`, `capture`, `slotFull`. -/
@[simp] theorem State.checkTach_keeps (s : State) :
    s.checkTach.now = s.now ∧ s.checkTach.pins = s.pins ∧ s.checkTach.peers = s.peers
      ∧ s.checkTach.heat = s.heat ∧ s.checkTach.pending = s.pending := by
  unfold State.checkTach
  simp

/-- `State.measure` writes at most `out`, `ctl`, `link`, `consent`, `meas`, `drive`, `role`, `walk`, `alarm`, `capture`, `slotFull`. -/
@[simp] theorem State.measure_keeps (s : State) (a : Analog) :
    (s.measure a).now = s.now ∧ (s.measure a).pins = s.pins ∧ (s.measure a).peers = s.peers
      ∧ (s.measure a).heat = s.heat ∧ (s.measure a).pending = s.pending := by
  unfold State.measure
  simp

/-- `State.noteQuiet` writes at most `meas`. -/
@[simp] theorem State.noteQuiet_keeps (s : State) :
    s.noteQuiet.now = s.now ∧ s.noteQuiet.pins = s.pins ∧ s.noteQuiet.out = s.out
      ∧ s.noteQuiet.ctl = s.ctl ∧ s.noteQuiet.link = s.link ∧ s.noteQuiet.peers = s.peers
      ∧ s.noteQuiet.consent = s.consent ∧ s.noteQuiet.drive = s.drive ∧ s.noteQuiet.role = s.role
      ∧ s.noteQuiet.walk = s.walk ∧ s.noteQuiet.heat = s.heat ∧ s.noteQuiet.alarm = s.alarm
      ∧ s.noteQuiet.capture = s.capture ∧ s.noteQuiet.slotFull = s.slotFull
      ∧ s.noteQuiet.pending = s.pending := by
  unfold State.noteQuiet
  simp

/-- `State.sectorMarks` writes at most `out`, `ctl`, `link`, `role`, `alarm`, `capture`, `slotFull`. -/
@[simp] theorem State.sectorMarks_keeps (s : State) (c : Int) :
    (s.sectorMarks c).now = s.now ∧ (s.sectorMarks c).pins = s.pins
      ∧ (s.sectorMarks c).peers = s.peers ∧ (s.sectorMarks c).consent = s.consent
      ∧ (s.sectorMarks c).meas = s.meas ∧ (s.sectorMarks c).drive = s.drive
      ∧ (s.sectorMarks c).walk = s.walk ∧ (s.sectorMarks c).heat = s.heat
      ∧ (s.sectorMarks c).pending = s.pending := by
  unfold State.sectorMarks
  dsimp only
  (repeat' split) <;> simp

/-- `State.followBrake` writes at most `out`. -/
@[simp] theorem State.followBrake_keeps (s : State) :
    s.followBrake.now = s.now ∧ s.followBrake.pins = s.pins ∧ s.followBrake.ctl = s.ctl
      ∧ s.followBrake.link = s.link ∧ s.followBrake.peers = s.peers
      ∧ s.followBrake.consent = s.consent ∧ s.followBrake.meas = s.meas
      ∧ s.followBrake.drive = s.drive ∧ s.followBrake.role = s.role ∧ s.followBrake.walk = s.walk
      ∧ s.followBrake.heat = s.heat ∧ s.followBrake.alarm = s.alarm
      ∧ s.followBrake.capture = s.capture ∧ s.followBrake.slotFull = s.slotFull
      ∧ s.followBrake.pending = s.pending := by
  unfold State.followBrake
  split <;> simp

/-- `State.watchBrakeSet` writes at most `drive`. -/
@[simp] theorem State.watchBrakeSet_keeps (s : State) :
    s.watchBrakeSet.now = s.now ∧ s.watchBrakeSet.pins = s.pins ∧ s.watchBrakeSet.out = s.out
      ∧ s.watchBrakeSet.ctl = s.ctl ∧ s.watchBrakeSet.link = s.link
      ∧ s.watchBrakeSet.peers = s.peers ∧ s.watchBrakeSet.consent = s.consent
      ∧ s.watchBrakeSet.meas = s.meas ∧ s.watchBrakeSet.role = s.role
      ∧ s.watchBrakeSet.walk = s.walk ∧ s.watchBrakeSet.heat = s.heat
      ∧ s.watchBrakeSet.alarm = s.alarm ∧ s.watchBrakeSet.capture = s.capture
      ∧ s.watchBrakeSet.slotFull = s.slotFull ∧ s.watchBrakeSet.pending = s.pending := by
  unfold State.watchBrakeSet
  simp

/-- `State.expireBrakeSet` writes at most `out`, `drive`. -/
@[simp] theorem State.expireBrakeSet_keeps (s : State) :
    s.expireBrakeSet.now = s.now ∧ s.expireBrakeSet.pins = s.pins ∧ s.expireBrakeSet.ctl = s.ctl
      ∧ s.expireBrakeSet.link = s.link ∧ s.expireBrakeSet.peers = s.peers
      ∧ s.expireBrakeSet.consent = s.consent ∧ s.expireBrakeSet.meas = s.meas
      ∧ s.expireBrakeSet.role = s.role ∧ s.expireBrakeSet.walk = s.walk
      ∧ s.expireBrakeSet.heat = s.heat ∧ s.expireBrakeSet.alarm = s.alarm
      ∧ s.expireBrakeSet.capture = s.capture ∧ s.expireBrakeSet.slotFull = s.slotFull
      ∧ s.expireBrakeSet.pending = s.pending := by
  unfold State.expireBrakeSet
  split <;> simp

/-- `State.brakeRule` writes at most `out`, `drive`. -/
@[simp] theorem State.brakeRule_keeps (s : State) :
    s.brakeRule.now = s.now ∧ s.brakeRule.pins = s.pins ∧ s.brakeRule.ctl = s.ctl
      ∧ s.brakeRule.link = s.link ∧ s.brakeRule.peers = s.peers ∧ s.brakeRule.consent = s.consent
      ∧ s.brakeRule.meas = s.meas ∧ s.brakeRule.role = s.role ∧ s.brakeRule.walk = s.walk
      ∧ s.brakeRule.heat = s.heat ∧ s.brakeRule.alarm = s.alarm ∧ s.brakeRule.capture = s.capture
      ∧ s.brakeRule.slotFull = s.slotFull ∧ s.brakeRule.pending = s.pending := by
  unfold State.brakeRule
  (repeat' split) <;> simp

/-- `State.regulate` writes at most `out`, `drive`, `role`. -/
@[simp] theorem State.regulate_keeps (s : State) (c t eb : Int) :
    (s.regulate c t eb).now = s.now ∧ (s.regulate c t eb).pins = s.pins
      ∧ (s.regulate c t eb).ctl = s.ctl ∧ (s.regulate c t eb).link = s.link
      ∧ (s.regulate c t eb).peers = s.peers ∧ (s.regulate c t eb).consent = s.consent
      ∧ (s.regulate c t eb).meas = s.meas ∧ (s.regulate c t eb).walk = s.walk
      ∧ (s.regulate c t eb).heat = s.heat ∧ (s.regulate c t eb).alarm = s.alarm
      ∧ (s.regulate c t eb).capture = s.capture ∧ (s.regulate c t eb).slotFull = s.slotFull
      ∧ (s.regulate c t eb).pending = s.pending := by
  unfold State.regulate
  simp

/-- `State.driveStep` writes at most `out`, `ctl`, `link`, `drive`, `role`, `alarm`, `capture`, `slotFull`. -/
@[simp] theorem State.driveStep_keeps (s : State) :
    s.driveStep.now = s.now ∧ s.driveStep.pins = s.pins ∧ s.driveStep.peers = s.peers
      ∧ s.driveStep.consent = s.consent ∧ s.driveStep.meas = s.meas ∧ s.driveStep.walk = s.walk
      ∧ s.driveStep.heat = s.heat ∧ s.driveStep.pending = s.pending := by
  unfold State.driveStep
  simp

/-- `State.noStep` writes at most `drive`, `role`. -/
@[simp] theorem State.noStep_keeps (s : State) :
    s.noStep.now = s.now ∧ s.noStep.pins = s.pins ∧ s.noStep.out = s.out ∧ s.noStep.ctl = s.ctl
      ∧ s.noStep.link = s.link ∧ s.noStep.peers = s.peers ∧ s.noStep.consent = s.consent
      ∧ s.noStep.meas = s.meas ∧ s.noStep.walk = s.walk ∧ s.noStep.heat = s.heat
      ∧ s.noStep.alarm = s.alarm ∧ s.noStep.capture = s.capture ∧ s.noStep.slotFull = s.slotFull
      ∧ s.noStep.pending = s.pending := by
  unfold State.noStep
  simp

/-- `State.driveExpiry` writes at most `out`, `ctl`, `link`, `drive`, `role`, `alarm`, `capture`, `slotFull`. -/
@[simp] theorem State.driveExpiry_keeps (s : State) :
    s.driveExpiry.now = s.now ∧ s.driveExpiry.pins = s.pins ∧ s.driveExpiry.peers = s.peers
      ∧ s.driveExpiry.consent = s.consent ∧ s.driveExpiry.meas = s.meas
      ∧ s.driveExpiry.walk = s.walk ∧ s.driveExpiry.heat = s.heat
      ∧ s.driveExpiry.pending = s.pending := by
  unfold State.driveExpiry
  split <;> simp

/-- `State.watchBrake` writes at most `drive`. -/
@[simp] theorem State.watchBrake_keeps (s : State) :
    s.watchBrake.now = s.now ∧ s.watchBrake.pins = s.pins ∧ s.watchBrake.out = s.out
      ∧ s.watchBrake.ctl = s.ctl ∧ s.watchBrake.link = s.link ∧ s.watchBrake.peers = s.peers
      ∧ s.watchBrake.consent = s.consent ∧ s.watchBrake.meas = s.meas ∧ s.watchBrake.role = s.role
      ∧ s.watchBrake.walk = s.walk ∧ s.watchBrake.heat = s.heat ∧ s.watchBrake.alarm = s.alarm
      ∧ s.watchBrake.capture = s.capture ∧ s.watchBrake.slotFull = s.slotFull
      ∧ s.watchBrake.pending = s.pending := by
  unfold State.watchBrake
  simp

/-- `State.expireDisagree` writes at most `out`, `ctl`, `link`, `consent`, `drive`, `role`, `walk`, `alarm`, `capture`, `slotFull`. -/
@[simp] theorem State.expireDisagree_keeps (s : State) :
    s.expireDisagree.now = s.now ∧ s.expireDisagree.pins = s.pins
      ∧ s.expireDisagree.peers = s.peers ∧ s.expireDisagree.meas = s.meas
      ∧ s.expireDisagree.heat = s.heat ∧ s.expireDisagree.pending = s.pending := by
  unfold State.expireDisagree
  split <;> simp

/-- `State.expireAgree` writes at most `out`, `ctl`, `drive`, `alarm`. -/
@[simp] theorem State.expireAgree_keeps (s : State) :
    s.expireAgree.now = s.now ∧ s.expireAgree.pins = s.pins ∧ s.expireAgree.link = s.link
      ∧ s.expireAgree.peers = s.peers ∧ s.expireAgree.consent = s.consent
      ∧ s.expireAgree.meas = s.meas ∧ s.expireAgree.role = s.role ∧ s.expireAgree.walk = s.walk
      ∧ s.expireAgree.heat = s.heat ∧ s.expireAgree.capture = s.capture
      ∧ s.expireAgree.slotFull = s.slotFull ∧ s.expireAgree.pending = s.pending := by
  unfold State.expireAgree
  split <;> simp

/-- `State.checkBrake` writes at most `out`, `ctl`, `link`, `consent`, `drive`, `role`, `walk`, `alarm`, `capture`, `slotFull`. -/
@[simp] theorem State.checkBrake_keeps (s : State) :
    s.checkBrake.now = s.now ∧ s.checkBrake.pins = s.pins ∧ s.checkBrake.peers = s.peers
      ∧ s.checkBrake.meas = s.meas ∧ s.checkBrake.heat = s.heat ∧ s.checkBrake.pending = s.pending := by
  unfold State.checkBrake
  simp

/-- `State.watchFieldLoss` writes at most `drive`. -/
@[simp] theorem State.watchFieldLoss_keeps (s : State) (d : Int) :
    (s.watchFieldLoss d).now = s.now ∧ (s.watchFieldLoss d).pins = s.pins
      ∧ (s.watchFieldLoss d).out = s.out ∧ (s.watchFieldLoss d).ctl = s.ctl
      ∧ (s.watchFieldLoss d).link = s.link ∧ (s.watchFieldLoss d).peers = s.peers
      ∧ (s.watchFieldLoss d).consent = s.consent ∧ (s.watchFieldLoss d).meas = s.meas
      ∧ (s.watchFieldLoss d).role = s.role ∧ (s.watchFieldLoss d).walk = s.walk
      ∧ (s.watchFieldLoss d).heat = s.heat ∧ (s.watchFieldLoss d).alarm = s.alarm
      ∧ (s.watchFieldLoss d).capture = s.capture ∧ (s.watchFieldLoss d).slotFull = s.slotFull
      ∧ (s.watchFieldLoss d).pending = s.pending := by
  unfold State.watchFieldLoss
  simp

/-- `State.expireLoss` writes at most `out`, `ctl`, `link`, `consent`, `drive`, `role`, `walk`, `alarm`, `capture`, `slotFull`. -/
@[simp] theorem State.expireLoss_keeps (s : State) :
    s.expireLoss.now = s.now ∧ s.expireLoss.pins = s.pins ∧ s.expireLoss.peers = s.peers
      ∧ s.expireLoss.meas = s.meas ∧ s.expireLoss.heat = s.heat ∧ s.expireLoss.pending = s.pending := by
  unfold State.expireLoss
  split <;> simp

/-- `State.expireLossClear` writes at most `out`, `ctl`, `drive`, `alarm`. -/
@[simp] theorem State.expireLossClear_keeps (s : State) :
    s.expireLossClear.now = s.now ∧ s.expireLossClear.pins = s.pins
      ∧ s.expireLossClear.link = s.link ∧ s.expireLossClear.peers = s.peers
      ∧ s.expireLossClear.consent = s.consent ∧ s.expireLossClear.meas = s.meas
      ∧ s.expireLossClear.role = s.role ∧ s.expireLossClear.walk = s.walk
      ∧ s.expireLossClear.heat = s.heat ∧ s.expireLossClear.capture = s.capture
      ∧ s.expireLossClear.slotFull = s.slotFull ∧ s.expireLossClear.pending = s.pending := by
  unfold State.expireLossClear
  split <;> simp

/-- `State.watchOvercurrent` writes at most `out`, `ctl`, `link`, `consent`, `drive`, `role`, `walk`, `alarm`, `capture`, `slotFull`. -/
@[simp] theorem State.watchOvercurrent_keeps (s : State) :
    s.watchOvercurrent.now = s.now ∧ s.watchOvercurrent.pins = s.pins
      ∧ s.watchOvercurrent.peers = s.peers ∧ s.watchOvercurrent.meas = s.meas
      ∧ s.watchOvercurrent.heat = s.heat ∧ s.watchOvercurrent.pending = s.pending := by
  unfold State.watchOvercurrent
  dsimp only
  (repeat' split) <;> simp

/-- `State.watchOvervoltage` writes at most `out`, `ctl`, `link`, `consent`, `drive`, `role`, `walk`, `alarm`, `capture`, `slotFull`. -/
@[simp] theorem State.watchOvervoltage_keeps (s : State) :
    s.watchOvervoltage.now = s.now ∧ s.watchOvervoltage.pins = s.pins
      ∧ s.watchOvervoltage.peers = s.peers ∧ s.watchOvervoltage.meas = s.meas
      ∧ s.watchOvervoltage.heat = s.heat ∧ s.watchOvervoltage.pending = s.pending := by
  unfold State.watchOvervoltage
  dsimp only
  (repeat' split) <;> simp

/-- `State.expireClear` writes at most `out`, `ctl`, `drive`, `alarm`. -/
@[simp] theorem State.expireClear_keeps (s : State) (x : FieldCheck) :
    (s.expireClear x).now = s.now ∧ (s.expireClear x).pins = s.pins
      ∧ (s.expireClear x).link = s.link ∧ (s.expireClear x).peers = s.peers
      ∧ (s.expireClear x).consent = s.consent ∧ (s.expireClear x).meas = s.meas
      ∧ (s.expireClear x).role = s.role ∧ (s.expireClear x).walk = s.walk
      ∧ (s.expireClear x).heat = s.heat ∧ (s.expireClear x).capture = s.capture
      ∧ (s.expireClear x).slotFull = s.slotFull ∧ (s.expireClear x).pending = s.pending := by
  unfold State.expireClear
  (repeat' split) <;> simp

/-- `State.checkField` writes at most `out`, `ctl`, `link`, `consent`, `drive`, `role`, `walk`, `alarm`, `capture`, `slotFull`. -/
@[simp] theorem State.checkField_keeps (s : State) (d : Int) :
    (s.checkField d).now = s.now ∧ (s.checkField d).pins = s.pins
      ∧ (s.checkField d).peers = s.peers ∧ (s.checkField d).meas = s.meas
      ∧ (s.checkField d).heat = s.heat ∧ (s.checkField d).pending = s.pending := by
  unfold State.checkField
  split <;> simp

/-! ### Role logic, the walk sequencer and the heat monitor at an expiry (Machine/RoleLogic.lean, Machine/Walk.lean, Machine/Heat.lean) -/

/-- `State.watchOverload` writes at most `out`, `ctl`, `role`, `alarm`. -/
@[simp] theorem State.watchOverload_keeps (s : State) :
    s.watchOverload.now = s.now ∧ s.watchOverload.pins = s.pins ∧ s.watchOverload.link = s.link
      ∧ s.watchOverload.peers = s.peers ∧ s.watchOverload.consent = s.consent
      ∧ s.watchOverload.meas = s.meas ∧ s.watchOverload.drive = s.drive
      ∧ s.watchOverload.walk = s.walk ∧ s.watchOverload.heat = s.heat
      ∧ s.watchOverload.capture = s.capture ∧ s.watchOverload.slotFull = s.slotFull
      ∧ s.watchOverload.pending = s.pending := by
  unfold State.watchOverload
  dsimp only
  (repeat' split) <;> simp

/-- `State.expireOverload` writes at most `out`, `ctl`, `link`, `consent`, `drive`, `role`, `walk`, `alarm`, `capture`, `slotFull`. -/
@[simp] theorem State.expireOverload_keeps (s : State) :
    s.expireOverload.now = s.now ∧ s.expireOverload.pins = s.pins
      ∧ s.expireOverload.peers = s.peers ∧ s.expireOverload.meas = s.meas
      ∧ s.expireOverload.heat = s.heat ∧ s.expireOverload.pending = s.pending := by
  unfold State.expireOverload
  split <;> simp

/-- `State.checkBoom` writes at most `out`, `ctl`, `link`, `consent`, `drive`, `role`, `walk`, `alarm`, `capture`, `slotFull`. -/
@[simp] theorem State.checkBoom_keeps (s : State) :
    s.checkBoom.now = s.now ∧ s.checkBoom.pins = s.pins ∧ s.checkBoom.peers = s.peers
      ∧ s.checkBoom.meas = s.meas ∧ s.checkBoom.heat = s.heat ∧ s.checkBoom.pending = s.pending := by
  unfold State.checkBoom
  split <;> simp

/-- `State.requestSwing` writes at most `out`, `ctl`, `link`, `consent`, `role`, `walk`, `alarm`, `capture`, `slotFull`. -/
@[simp] theorem State.requestSwing_keeps (s : State) :
    s.requestSwing.now = s.now ∧ s.requestSwing.pins = s.pins ∧ s.requestSwing.peers = s.peers
      ∧ s.requestSwing.meas = s.meas ∧ s.requestSwing.drive = s.drive
      ∧ s.requestSwing.heat = s.heat ∧ s.requestSwing.pending = s.pending := by
  unfold State.requestSwing
  split <;> simp

/-- `State.watchRest` writes at most `role`. -/
@[simp] theorem State.watchRest_keeps (s : State) :
    s.watchRest.now = s.now ∧ s.watchRest.pins = s.pins ∧ s.watchRest.out = s.out
      ∧ s.watchRest.ctl = s.ctl ∧ s.watchRest.link = s.link ∧ s.watchRest.peers = s.peers
      ∧ s.watchRest.consent = s.consent ∧ s.watchRest.meas = s.meas ∧ s.watchRest.drive = s.drive
      ∧ s.watchRest.walk = s.walk ∧ s.watchRest.heat = s.heat ∧ s.watchRest.alarm = s.alarm
      ∧ s.watchRest.capture = s.capture ∧ s.watchRest.slotFull = s.slotFull
      ∧ s.watchRest.pending = s.pending := by
  unfold State.watchRest
  simp

/-- `State.setSwingBrake` writes at most `out`, `drive`. -/
@[simp] theorem State.setSwingBrake_keeps (s : State) :
    s.setSwingBrake.now = s.now ∧ s.setSwingBrake.pins = s.pins ∧ s.setSwingBrake.ctl = s.ctl
      ∧ s.setSwingBrake.link = s.link ∧ s.setSwingBrake.peers = s.peers
      ∧ s.setSwingBrake.consent = s.consent ∧ s.setSwingBrake.meas = s.meas
      ∧ s.setSwingBrake.role = s.role ∧ s.setSwingBrake.walk = s.walk
      ∧ s.setSwingBrake.heat = s.heat ∧ s.setSwingBrake.alarm = s.alarm
      ∧ s.setSwingBrake.capture = s.capture ∧ s.setSwingBrake.slotFull = s.slotFull
      ∧ s.setSwingBrake.pending = s.pending := by
  unfold State.setSwingBrake
  simp

/-- `State.expireRest` writes at most `out`, `ctl`, `consent`, `drive`, `role`, `alarm`. -/
@[simp] theorem State.expireRest_keeps (s : State) :
    s.expireRest.now = s.now ∧ s.expireRest.pins = s.pins ∧ s.expireRest.link = s.link
      ∧ s.expireRest.peers = s.peers ∧ s.expireRest.meas = s.meas ∧ s.expireRest.walk = s.walk
      ∧ s.expireRest.heat = s.heat ∧ s.expireRest.capture = s.capture
      ∧ s.expireRest.slotFull = s.slotFull ∧ s.expireRest.pending = s.pending := by
  unfold State.expireRest
  split <;> simp

/-- `State.endWithdrawal` writes at most `out`, `ctl`, `link`, `consent`, `drive`, `role`, `alarm`, `capture`, `slotFull`. -/
@[simp] theorem State.endWithdrawal_keeps (s : State) :
    s.endWithdrawal.now = s.now ∧ s.endWithdrawal.pins = s.pins ∧ s.endWithdrawal.peers = s.peers
      ∧ s.endWithdrawal.meas = s.meas ∧ s.endWithdrawal.walk = s.walk
      ∧ s.endWithdrawal.heat = s.heat ∧ s.endWithdrawal.pending = s.pending := by
  unfold State.endWithdrawal
  split <;> simp

/-- `State.swingStep` writes at most `out`, `ctl`, `link`, `consent`, `drive`, `role`, `walk`, `alarm`, `capture`, `slotFull`. -/
@[simp] theorem State.swingStep_keeps (s : State) :
    s.swingStep.now = s.now ∧ s.swingStep.pins = s.pins ∧ s.swingStep.peers = s.peers
      ∧ s.swingStep.meas = s.meas ∧ s.swingStep.heat = s.heat ∧ s.swingStep.pending = s.pending := by
  unfold State.swingStep
  split <;> simp

/-- `State.startTransfer` writes at most `out`, `drive`, `role`. -/
@[simp] theorem State.startTransfer_keeps (s : State) :
    s.startTransfer.now = s.now ∧ s.startTransfer.pins = s.pins ∧ s.startTransfer.ctl = s.ctl
      ∧ s.startTransfer.link = s.link ∧ s.startTransfer.peers = s.peers
      ∧ s.startTransfer.consent = s.consent ∧ s.startTransfer.meas = s.meas
      ∧ s.startTransfer.walk = s.walk ∧ s.startTransfer.heat = s.heat
      ∧ s.startTransfer.alarm = s.alarm ∧ s.startTransfer.capture = s.capture
      ∧ s.startTransfer.slotFull = s.slotFull ∧ s.startTransfer.pending = s.pending := by
  unfold State.startTransfer
  split <;> simp

/-- `State.openWhenStill` writes at most `out`, `ctl`, `role`, `alarm`. -/
@[simp] theorem State.openWhenStill_keeps (s : State) :
    s.openWhenStill.now = s.now ∧ s.openWhenStill.pins = s.pins ∧ s.openWhenStill.link = s.link
      ∧ s.openWhenStill.peers = s.peers ∧ s.openWhenStill.consent = s.consent
      ∧ s.openWhenStill.meas = s.meas ∧ s.openWhenStill.drive = s.drive
      ∧ s.openWhenStill.walk = s.walk ∧ s.openWhenStill.heat = s.heat
      ∧ s.openWhenStill.capture = s.capture ∧ s.openWhenStill.slotFull = s.slotFull
      ∧ s.openWhenStill.pending = s.pending := by
  unfold State.openWhenStill
  split <;> simp

/-- `State.supplyExpiry` writes at most `out`, `ctl`, `drive`, `role`, `alarm`. -/
@[simp] theorem State.supplyExpiry_keeps (s : State) :
    s.supplyExpiry.now = s.now ∧ s.supplyExpiry.pins = s.pins ∧ s.supplyExpiry.link = s.link
      ∧ s.supplyExpiry.peers = s.peers ∧ s.supplyExpiry.consent = s.consent
      ∧ s.supplyExpiry.meas = s.meas ∧ s.supplyExpiry.walk = s.walk ∧ s.supplyExpiry.heat = s.heat
      ∧ s.supplyExpiry.capture = s.capture ∧ s.supplyExpiry.slotFull = s.slotFull
      ∧ s.supplyExpiry.pending = s.pending := by
  unfold State.supplyExpiry
  split <;> simp

/-- `State.contactorRises` writes at most `role`. -/
@[simp] theorem State.contactorRises_keeps (s : State) :
    s.contactorRises.now = s.now ∧ s.contactorRises.pins = s.pins ∧ s.contactorRises.out = s.out
      ∧ s.contactorRises.ctl = s.ctl ∧ s.contactorRises.link = s.link
      ∧ s.contactorRises.peers = s.peers ∧ s.contactorRises.consent = s.consent
      ∧ s.contactorRises.meas = s.meas ∧ s.contactorRises.drive = s.drive
      ∧ s.contactorRises.walk = s.walk ∧ s.contactorRises.heat = s.heat
      ∧ s.contactorRises.alarm = s.alarm ∧ s.contactorRises.capture = s.capture
      ∧ s.contactorRises.slotFull = s.slotFull ∧ s.contactorRises.pending = s.pending := by
  unfold State.contactorRises
  split <;> simp

/-- `State.failSupply` writes at most `out`, `ctl`, `link`, `consent`, `drive`, `role`, `walk`, `alarm`, `capture`, `slotFull`. -/
@[simp] theorem State.failSupply_keeps (s : State) (v : Int) :
    (s.failSupply v).now = s.now ∧ (s.failSupply v).pins = s.pins
      ∧ (s.failSupply v).peers = s.peers ∧ (s.failSupply v).meas = s.meas
      ∧ (s.failSupply v).heat = s.heat ∧ (s.failSupply v).pending = s.pending := by
  unfold State.failSupply
  simp

/-- `State.feedbackOpens` writes at most `out`, `ctl`, `role`, `alarm`. -/
@[simp] theorem State.feedbackOpens_keeps (s : State) :
    s.feedbackOpens.now = s.now ∧ s.feedbackOpens.pins = s.pins ∧ s.feedbackOpens.link = s.link
      ∧ s.feedbackOpens.peers = s.peers ∧ s.feedbackOpens.consent = s.consent
      ∧ s.feedbackOpens.meas = s.meas ∧ s.feedbackOpens.drive = s.drive
      ∧ s.feedbackOpens.walk = s.walk ∧ s.feedbackOpens.heat = s.heat
      ∧ s.feedbackOpens.capture = s.capture ∧ s.feedbackOpens.slotFull = s.slotFull
      ∧ s.feedbackOpens.pending = s.pending := by
  unfold State.feedbackOpens
  dsimp only
  split <;> simp

/-- `State.contactorFalls` writes at most `out`, `ctl`, `link`, `consent`, `drive`, `role`, `walk`, `alarm`, `capture`, `slotFull`. -/
@[simp] theorem State.contactorFalls_keeps (s : State) :
    s.contactorFalls.now = s.now ∧ s.contactorFalls.pins = s.pins
      ∧ s.contactorFalls.peers = s.peers ∧ s.contactorFalls.meas = s.meas
      ∧ s.contactorFalls.heat = s.heat ∧ s.contactorFalls.pending = s.pending := by
  unfold State.contactorFalls
  (repeat' split) <;> simp

/-- `State.expireTransfer` writes at most `out`, `ctl`, `link`, `consent`, `drive`, `role`, `walk`, `alarm`, `capture`, `slotFull`. -/
@[simp] theorem State.expireTransfer_keeps (s : State) :
    s.expireTransfer.now = s.now ∧ s.expireTransfer.pins = s.pins
      ∧ s.expireTransfer.peers = s.peers ∧ s.expireTransfer.meas = s.meas
      ∧ s.expireTransfer.heat = s.heat ∧ s.expireTransfer.pending = s.pending := by
  unfold State.expireTransfer
  split <;> simp

/-- `State.expireReturn` writes at most `out`, `ctl`, `link`, `consent`, `drive`, `role`, `walk`, `alarm`, `capture`, `slotFull`. -/
@[simp] theorem State.expireReturn_keeps (s : State) :
    s.expireReturn.now = s.now ∧ s.expireReturn.pins = s.pins ∧ s.expireReturn.peers = s.peers
      ∧ s.expireReturn.meas = s.meas ∧ s.expireReturn.heat = s.heat
      ∧ s.expireReturn.pending = s.pending := by
  unfold State.expireReturn
  split <;> simp

/-- `State.expireClosed` writes at most `out`, `ctl`, `link`, `consent`, `drive`, `role`, `walk`, `alarm`, `capture`, `slotFull`. -/
@[simp] theorem State.expireClosed_keeps (s : State) :
    s.expireClosed.now = s.now ∧ s.expireClosed.pins = s.pins ∧ s.expireClosed.peers = s.peers
      ∧ s.expireClosed.meas = s.meas ∧ s.expireClosed.heat = s.heat
      ∧ s.expireClosed.pending = s.pending := by
  unfold State.expireClosed
  split <;> simp

/-- `State.notePhase` writes at most `role`. -/
@[simp] theorem State.notePhase_keeps (s : State) :
    s.notePhase.now = s.now ∧ s.notePhase.pins = s.pins ∧ s.notePhase.out = s.out
      ∧ s.notePhase.ctl = s.ctl ∧ s.notePhase.link = s.link ∧ s.notePhase.peers = s.peers
      ∧ s.notePhase.consent = s.consent ∧ s.notePhase.meas = s.meas ∧ s.notePhase.drive = s.drive
      ∧ s.notePhase.walk = s.walk ∧ s.notePhase.heat = s.heat ∧ s.notePhase.alarm = s.alarm
      ∧ s.notePhase.capture = s.capture ∧ s.notePhase.slotFull = s.slotFull
      ∧ s.notePhase.pending = s.pending := by
  unfold State.notePhase
  simp

/-- `State.roleExpiry` writes at most `out`, `ctl`, `link`, `consent`, `drive`, `role`, `walk`, `alarm`, `capture`, `slotFull`. -/
@[simp] theorem State.roleExpiry_keeps (s : State) :
    s.roleExpiry.now = s.now ∧ s.roleExpiry.pins = s.pins ∧ s.roleExpiry.peers = s.peers
      ∧ s.roleExpiry.meas = s.meas ∧ s.roleExpiry.heat = s.heat ∧ s.roleExpiry.pending = s.pending := by
  unfold State.roleExpiry
  dsimp only
  split <;> simp

/-- `State.judgeCams` writes at most `walk`. -/
@[simp] theorem State.judgeCams_keeps (s : State) :
    s.judgeCams.now = s.now ∧ s.judgeCams.pins = s.pins ∧ s.judgeCams.out = s.out
      ∧ s.judgeCams.ctl = s.ctl ∧ s.judgeCams.link = s.link ∧ s.judgeCams.peers = s.peers
      ∧ s.judgeCams.consent = s.consent ∧ s.judgeCams.meas = s.meas ∧ s.judgeCams.drive = s.drive
      ∧ s.judgeCams.role = s.role ∧ s.judgeCams.heat = s.heat ∧ s.judgeCams.alarm = s.alarm
      ∧ s.judgeCams.capture = s.capture ∧ s.judgeCams.slotFull = s.slotFull
      ∧ s.judgeCams.pending = s.pending := by
  unfold State.judgeCams
  simp

/-- `State.walkReferences` writes at most `walk`. -/
@[simp] theorem State.walkReferences_keeps (s : State) :
    s.walkReferences.now = s.now ∧ s.walkReferences.pins = s.pins ∧ s.walkReferences.out = s.out
      ∧ s.walkReferences.ctl = s.ctl ∧ s.walkReferences.link = s.link
      ∧ s.walkReferences.peers = s.peers ∧ s.walkReferences.consent = s.consent
      ∧ s.walkReferences.meas = s.meas ∧ s.walkReferences.drive = s.drive
      ∧ s.walkReferences.role = s.role ∧ s.walkReferences.heat = s.heat
      ∧ s.walkReferences.alarm = s.alarm ∧ s.walkReferences.capture = s.capture
      ∧ s.walkReferences.slotFull = s.slotFull ∧ s.walkReferences.pending = s.pending := by
  unfold State.walkReferences
  simp

/-- `State.checkSkew` writes at most `out`, `ctl`, `link`, `peers`, `consent`, `drive`, `role`, `walk`, `alarm`, `capture`, `slotFull`. -/
@[simp] theorem State.checkSkew_keeps (s : State) :
    s.checkSkew.now = s.now ∧ s.checkSkew.pins = s.pins ∧ s.checkSkew.meas = s.meas
      ∧ s.checkSkew.heat = s.heat ∧ s.checkSkew.pending = s.pending := by
  unfold State.checkSkew
  (repeat' split) <;> simp

/-- `State.haltWalk` writes at most `out`, `walk`. -/
@[simp] theorem State.haltWalk_keeps (s : State) :
    s.haltWalk.now = s.now ∧ s.haltWalk.pins = s.pins ∧ s.haltWalk.ctl = s.ctl
      ∧ s.haltWalk.link = s.link ∧ s.haltWalk.peers = s.peers ∧ s.haltWalk.consent = s.consent
      ∧ s.haltWalk.meas = s.meas ∧ s.haltWalk.drive = s.drive ∧ s.haltWalk.role = s.role
      ∧ s.haltWalk.heat = s.heat ∧ s.haltWalk.alarm = s.alarm ∧ s.haltWalk.capture = s.capture
      ∧ s.haltWalk.slotFull = s.slotFull ∧ s.haltWalk.pending = s.pending := by
  unfold State.haltWalk
  simp

/-- `State.stoppingPhase` writes at most `out`, `walk`. -/
@[simp] theorem State.stoppingPhase_keeps (s : State) :
    s.stoppingPhase.now = s.now ∧ s.stoppingPhase.pins = s.pins ∧ s.stoppingPhase.ctl = s.ctl
      ∧ s.stoppingPhase.link = s.link ∧ s.stoppingPhase.peers = s.peers
      ∧ s.stoppingPhase.consent = s.consent ∧ s.stoppingPhase.meas = s.meas
      ∧ s.stoppingPhase.drive = s.drive ∧ s.stoppingPhase.role = s.role
      ∧ s.stoppingPhase.heat = s.heat ∧ s.stoppingPhase.alarm = s.alarm
      ∧ s.stoppingPhase.capture = s.capture ∧ s.stoppingPhase.slotFull = s.slotFull
      ∧ s.stoppingPhase.pending = s.pending := by
  unfold State.stoppingPhase
  (repeat' split) <;> simp

/-- `State.watchEnd` writes at most `walk`. -/
@[simp] theorem State.watchEnd_keeps (s : State) :
    s.watchEnd.now = s.now ∧ s.watchEnd.pins = s.pins ∧ s.watchEnd.out = s.out
      ∧ s.watchEnd.ctl = s.ctl ∧ s.watchEnd.link = s.link ∧ s.watchEnd.peers = s.peers
      ∧ s.watchEnd.consent = s.consent ∧ s.watchEnd.meas = s.meas ∧ s.watchEnd.drive = s.drive
      ∧ s.watchEnd.role = s.role ∧ s.watchEnd.heat = s.heat ∧ s.watchEnd.alarm = s.alarm
      ∧ s.watchEnd.capture = s.capture ∧ s.watchEnd.slotFull = s.slotFull
      ∧ s.watchEnd.pending = s.pending := by
  unfold State.watchEnd
  simp

/-- `State.expireEnd` writes at most `out`, `consent`, `drive`, `walk`. -/
@[simp] theorem State.expireEnd_keeps (s : State) :
    s.expireEnd.now = s.now ∧ s.expireEnd.pins = s.pins ∧ s.expireEnd.ctl = s.ctl
      ∧ s.expireEnd.link = s.link ∧ s.expireEnd.peers = s.peers ∧ s.expireEnd.meas = s.meas
      ∧ s.expireEnd.role = s.role ∧ s.expireEnd.heat = s.heat ∧ s.expireEnd.alarm = s.alarm
      ∧ s.expireEnd.capture = s.capture ∧ s.expireEnd.slotFull = s.slotFull
      ∧ s.expireEnd.pending = s.pending := by
  unfold State.expireEnd
  split <;> simp

/-- `State.checkEnd` writes at most `out`, `consent`, `drive`, `walk`. -/
@[simp] theorem State.checkEnd_keeps (s : State) :
    s.checkEnd.now = s.now ∧ s.checkEnd.pins = s.pins ∧ s.checkEnd.ctl = s.ctl
      ∧ s.checkEnd.link = s.link ∧ s.checkEnd.peers = s.peers ∧ s.checkEnd.meas = s.meas
      ∧ s.checkEnd.role = s.role ∧ s.checkEnd.heat = s.heat ∧ s.checkEnd.alarm = s.alarm
      ∧ s.checkEnd.capture = s.capture ∧ s.checkEnd.slotFull = s.slotFull
      ∧ s.checkEnd.pending = s.pending := by
  unfold State.checkEnd
  split <;> simp

/-- `State.walkMoves` writes at most `out`, `ctl`, `link`, `peers`, `consent`, `drive`, `role`, `walk`, `alarm`, `capture`, `slotFull`. -/
@[simp] theorem State.walkMoves_keeps (s : State) :
    s.walkMoves.now = s.now ∧ s.walkMoves.pins = s.pins ∧ s.walkMoves.meas = s.meas
      ∧ s.walkMoves.heat = s.heat ∧ s.walkMoves.pending = s.pending := by
  unfold State.walkMoves
  split <;> simp

/-- `State.walkExpiry` writes at most `out`, `ctl`, `link`, `peers`, `consent`, `drive`, `role`, `walk`, `alarm`, `capture`, `slotFull`. -/
@[simp] theorem State.walkExpiry_keeps (s : State) :
    s.walkExpiry.now = s.now ∧ s.walkExpiry.pins = s.pins ∧ s.walkExpiry.meas = s.meas
      ∧ s.walkExpiry.heat = s.heat ∧ s.walkExpiry.pending = s.pending := by
  unfold State.walkExpiry
  split <;> simp

/-- `State.beginWalk` writes at most `out`, `ctl`, `link`, `consent`, `role`, `walk`, `alarm`, `capture`, `slotFull`. -/
@[simp] theorem State.beginWalk_keeps (s : State) :
    s.beginWalk.now = s.now ∧ s.beginWalk.pins = s.pins ∧ s.beginWalk.peers = s.peers
      ∧ s.beginWalk.meas = s.meas ∧ s.beginWalk.drive = s.drive ∧ s.beginWalk.heat = s.heat
      ∧ s.beginWalk.pending = s.pending := by
  unfold State.beginWalk
  split <;> simp

/-- `State.stepWalk` writes at most `out`, `walk`. -/
@[simp] theorem State.stepWalk_keeps (s : State) :
    s.stepWalk.now = s.now ∧ s.stepWalk.pins = s.pins ∧ s.stepWalk.ctl = s.ctl
      ∧ s.stepWalk.link = s.link ∧ s.stepWalk.peers = s.peers ∧ s.stepWalk.consent = s.consent
      ∧ s.stepWalk.meas = s.meas ∧ s.stepWalk.drive = s.drive ∧ s.stepWalk.role = s.role
      ∧ s.stepWalk.heat = s.heat ∧ s.stepWalk.alarm = s.alarm ∧ s.stepWalk.capture = s.capture
      ∧ s.stepWalk.slotFull = s.slotFull ∧ s.stepWalk.pending = s.pending := by
  unfold State.stepWalk
  simp

/-- `State.resumeForced` writes at most `out`, `walk`. -/
@[simp] theorem State.resumeForced_keeps (s : State) :
    s.resumeForced.now = s.now ∧ s.resumeForced.pins = s.pins ∧ s.resumeForced.ctl = s.ctl
      ∧ s.resumeForced.link = s.link ∧ s.resumeForced.peers = s.peers
      ∧ s.resumeForced.consent = s.consent ∧ s.resumeForced.meas = s.meas
      ∧ s.resumeForced.drive = s.drive ∧ s.resumeForced.role = s.role
      ∧ s.resumeForced.heat = s.heat ∧ s.resumeForced.alarm = s.alarm
      ∧ s.resumeForced.capture = s.capture ∧ s.resumeForced.slotFull = s.slotFull
      ∧ s.resumeForced.pending = s.pending := by
  unfold State.resumeForced
  (repeat' split) <;> simp

/-- `State.walkCommanded` writes at most `out`, `ctl`, `link`, `consent`, `role`, `walk`, `alarm`, `capture`, `slotFull`. -/
@[simp] theorem State.walkCommanded_keeps (s : State) :
    s.walkCommanded.now = s.now ∧ s.walkCommanded.pins = s.pins ∧ s.walkCommanded.peers = s.peers
      ∧ s.walkCommanded.meas = s.meas ∧ s.walkCommanded.drive = s.drive
      ∧ s.walkCommanded.heat = s.heat ∧ s.walkCommanded.pending = s.pending := by
  unfold State.walkCommanded
  (repeat' split) <;> simp

/-- `State.expireStopHold` writes at most `out`, `ctl`, `link`, `consent`, `drive`, `role`, `walk`, `alarm`, `capture`, `slotFull`. -/
@[simp] theorem State.expireStopHold_keeps (s : State) :
    s.expireStopHold.now = s.now ∧ s.expireStopHold.pins = s.pins
      ∧ s.expireStopHold.peers = s.peers ∧ s.expireStopHold.meas = s.meas
      ∧ s.expireStopHold.heat = s.heat ∧ s.expireStopHold.pending = s.pending := by
  unfold State.expireStopHold
  split <;> simp

/-- `State.expireSupplyLimit` writes at most `out`, `link`, `consent`, `drive`, `walk`, `alarm`, `capture`, `slotFull`. -/
@[simp] theorem State.expireSupplyLimit_keeps (s : State) :
    s.expireSupplyLimit.now = s.now ∧ s.expireSupplyLimit.pins = s.pins
      ∧ s.expireSupplyLimit.ctl = s.ctl ∧ s.expireSupplyLimit.peers = s.peers
      ∧ s.expireSupplyLimit.meas = s.meas ∧ s.expireSupplyLimit.role = s.role
      ∧ s.expireSupplyLimit.heat = s.heat ∧ s.expireSupplyLimit.pending = s.pending := by
  unfold State.expireSupplyLimit
  split <;> simp

/-- `State.formLevel` writes at most `out`, `ctl`, `link`, `heat`, `alarm`, `capture`, `slotFull`. -/
@[simp] theorem State.formLevel_keeps (s : State) :
    s.formLevel.now = s.now ∧ s.formLevel.pins = s.pins ∧ s.formLevel.peers = s.peers
      ∧ s.formLevel.consent = s.consent ∧ s.formLevel.meas = s.meas ∧ s.formLevel.drive = s.drive
      ∧ s.formLevel.role = s.role ∧ s.formLevel.walk = s.walk ∧ s.formLevel.pending = s.pending := by
  unfold State.formLevel
  dsimp only
  (repeat' split) <;> simp

/-- `State.watchDerate` writes at most `heat`. -/
@[simp] theorem State.watchDerate_keeps (s : State) :
    s.watchDerate.now = s.now ∧ s.watchDerate.pins = s.pins ∧ s.watchDerate.out = s.out
      ∧ s.watchDerate.ctl = s.ctl ∧ s.watchDerate.link = s.link ∧ s.watchDerate.peers = s.peers
      ∧ s.watchDerate.consent = s.consent ∧ s.watchDerate.meas = s.meas
      ∧ s.watchDerate.drive = s.drive ∧ s.watchDerate.role = s.role ∧ s.watchDerate.walk = s.walk
      ∧ s.watchDerate.alarm = s.alarm ∧ s.watchDerate.capture = s.capture
      ∧ s.watchDerate.slotFull = s.slotFull ∧ s.watchDerate.pending = s.pending := by
  unfold State.watchDerate
  simp

/-- `State.expireDerate` writes at most `out`, `ctl`, `link`, `heat`, `alarm`, `capture`, `slotFull`. -/
@[simp] theorem State.expireDerate_keeps (s : State) :
    s.expireDerate.now = s.now ∧ s.expireDerate.pins = s.pins ∧ s.expireDerate.peers = s.peers
      ∧ s.expireDerate.consent = s.consent ∧ s.expireDerate.meas = s.meas
      ∧ s.expireDerate.drive = s.drive ∧ s.expireDerate.role = s.role
      ∧ s.expireDerate.walk = s.walk ∧ s.expireDerate.pending = s.pending := by
  unfold State.expireDerate
  (repeat' split) <;> simp

/-- `State.checkOverheat` writes at most `out`, `ctl`, `link`, `consent`, `drive`, `role`, `walk`, `heat`, `alarm`, `capture`, `slotFull`. -/
@[simp] theorem State.checkOverheat_keeps (s : State) :
    s.checkOverheat.now = s.now ∧ s.checkOverheat.pins = s.pins ∧ s.checkOverheat.peers = s.peers
      ∧ s.checkOverheat.meas = s.meas ∧ s.checkOverheat.pending = s.pending := by
  unfold State.checkOverheat
  (repeat' split) <;> simp

/-- `State.integrate` writes at most `heat`. -/
@[simp] theorem State.integrate_keeps (s : State) :
    s.integrate.now = s.now ∧ s.integrate.pins = s.pins ∧ s.integrate.out = s.out
      ∧ s.integrate.ctl = s.ctl ∧ s.integrate.link = s.link ∧ s.integrate.peers = s.peers
      ∧ s.integrate.consent = s.consent ∧ s.integrate.meas = s.meas ∧ s.integrate.drive = s.drive
      ∧ s.integrate.role = s.role ∧ s.integrate.walk = s.walk ∧ s.integrate.alarm = s.alarm
      ∧ s.integrate.capture = s.capture ∧ s.integrate.slotFull = s.slotFull
      ∧ s.integrate.pending = s.pending := by
  unfold State.integrate
  simp

/-- `State.heatExpiry` writes at most `out`, `ctl`, `link`, `consent`, `drive`, `role`, `walk`, `heat`, `alarm`, `capture`, `slotFull`. -/
@[simp] theorem State.heatExpiry_keeps (s : State) :
    s.heatExpiry.now = s.now ∧ s.heatExpiry.pins = s.pins ∧ s.heatExpiry.peers = s.peers
      ∧ s.heatExpiry.meas = s.meas ∧ s.heatExpiry.pending = s.pending := by
  unfold State.heatExpiry
  split <;> simp

/-- `State.forceLevel` writes at most `out`, `ctl`, `link`, `heat`, `alarm`, `capture`, `slotFull`. -/
@[simp] theorem State.forceLevel_keeps (s : State) (n : Nat) :
    (s.forceLevel n).now = s.now ∧ (s.forceLevel n).pins = s.pins
      ∧ (s.forceLevel n).peers = s.peers ∧ (s.forceLevel n).consent = s.consent
      ∧ (s.forceLevel n).meas = s.meas ∧ (s.forceLevel n).drive = s.drive
      ∧ (s.forceLevel n).role = s.role ∧ (s.forceLevel n).walk = s.walk
      ∧ (s.forceLevel n).pending = s.pending := by
  unfold State.forceLevel
  simp

/-- `State.neutralExpiry` writes at most `out`, `ctl`. -/
@[simp] theorem State.neutralExpiry_keeps (s : State) :
    s.neutralExpiry.now = s.now ∧ s.neutralExpiry.pins = s.pins ∧ s.neutralExpiry.link = s.link
      ∧ s.neutralExpiry.peers = s.peers ∧ s.neutralExpiry.consent = s.consent
      ∧ s.neutralExpiry.meas = s.meas ∧ s.neutralExpiry.drive = s.drive
      ∧ s.neutralExpiry.role = s.role ∧ s.neutralExpiry.walk = s.walk
      ∧ s.neutralExpiry.heat = s.heat ∧ s.neutralExpiry.alarm = s.alarm
      ∧ s.neutralExpiry.capture = s.capture ∧ s.neutralExpiry.slotFull = s.slotFull
      ∧ s.neutralExpiry.pending = s.pending := by
  unfold State.neutralExpiry
  split <;> simp

/-- `State.captureWork` writes at most `out`, `link`, `alarm`, `capture`, `slotFull`. -/
@[simp] theorem State.captureWork_keeps (s : State) (v : Sample) :
    (s.captureWork v).now = s.now ∧ (s.captureWork v).pins = s.pins
      ∧ (s.captureWork v).ctl = s.ctl ∧ (s.captureWork v).peers = s.peers
      ∧ (s.captureWork v).consent = s.consent ∧ (s.captureWork v).meas = s.meas
      ∧ (s.captureWork v).drive = s.drive ∧ (s.captureWork v).role = s.role
      ∧ (s.captureWork v).walk = s.walk ∧ (s.captureWork v).heat = s.heat
      ∧ (s.captureWork v).pending = s.pending := by
  unfold State.captureWork
  simp

/-- `State.restartRegulation` writes at most `pins`, `meas`. -/
@[simp] theorem State.restartRegulation_keeps (s : State) (a : Analog) :
    (s.restartRegulation a).now = s.now ∧ (s.restartRegulation a).out = s.out
      ∧ (s.restartRegulation a).ctl = s.ctl ∧ (s.restartRegulation a).link = s.link
      ∧ (s.restartRegulation a).peers = s.peers ∧ (s.restartRegulation a).consent = s.consent
      ∧ (s.restartRegulation a).drive = s.drive ∧ (s.restartRegulation a).role = s.role
      ∧ (s.restartRegulation a).walk = s.walk ∧ (s.restartRegulation a).heat = s.heat
      ∧ (s.restartRegulation a).alarm = s.alarm ∧ (s.restartRegulation a).capture = s.capture
      ∧ (s.restartRegulation a).slotFull = s.slotFull
      ∧ (s.restartRegulation a).pending = s.pending := by
  unfold State.restartRegulation
  simp

/-- `State.checks` writes at most `out`, `ctl`, `link`, `consent`, `drive`, `role`, `walk`, `alarm`, `capture`, `slotFull`. -/
@[simp] theorem State.checks_keeps (s : State) (d : Int) :
    (s.checks d).now = s.now ∧ (s.checks d).pins = s.pins ∧ (s.checks d).peers = s.peers
      ∧ (s.checks d).meas = s.meas ∧ (s.checks d).heat = s.heat ∧ (s.checks d).pending = s.pending := by
  unfold State.checks
  simp

/-- `State.duties` writes at most `out`, `ctl`, `link`, `peers`, `consent`, `drive`, `role`, `walk`, `heat`, `alarm`, `capture`, `slotFull`. -/
@[simp] theorem State.duties_keeps (s : State) :
    s.duties.now = s.now ∧ s.duties.pins = s.pins ∧ s.duties.meas = s.meas
      ∧ s.duties.pending = s.pending := by
  unfold State.duties
  simp

/-- `State.expiryStep` writes at most `pins`, `out`, `ctl`, `link`, `consent`, `meas`, `drive`, `role`, `walk`, `alarm`, `capture`, `slotFull`. -/
@[simp] theorem State.expiryStep_keeps (s : State) (a : Analog) :
    (s.expiryStep a).now = s.now ∧ (s.expiryStep a).peers = s.peers
      ∧ (s.expiryStep a).heat = s.heat ∧ (s.expiryStep a).pending = s.pending := by
  unfold State.expiryStep
  simp

/-- `State.expiryWork` writes at most `pins`, `out`, `ctl`, `link`, `peers`, `consent`, `meas`, `drive`, `role`, `walk`, `heat`, `alarm`, `capture`, `slotFull`. -/
@[simp] theorem State.expiryWork_keeps (s : State) (a : Analog) :
    (s.expiryWork a).now = s.now ∧ (s.expiryWork a).pending = s.pending := by
  unfold State.expiryWork
  simp

/-- `State.withStore` writes at most `capture`. -/
@[simp] theorem State.withStore_keeps (s : State) (k : CaptureStore) :
    (s.withStore k).now = s.now ∧ (s.withStore k).pins = s.pins ∧ (s.withStore k).out = s.out
      ∧ (s.withStore k).ctl = s.ctl ∧ (s.withStore k).link = s.link
      ∧ (s.withStore k).peers = s.peers ∧ (s.withStore k).consent = s.consent
      ∧ (s.withStore k).meas = s.meas ∧ (s.withStore k).drive = s.drive
      ∧ (s.withStore k).role = s.role ∧ (s.withStore k).walk = s.walk
      ∧ (s.withStore k).heat = s.heat ∧ (s.withStore k).alarm = s.alarm
      ∧ (s.withStore k).slotFull = s.slotFull ∧ (s.withStore k).pending = s.pending := by
  unfold State.withStore
  simp

/-- `State.takeArms` writes at most `capture`. -/
@[simp] theorem State.takeArms_keeps (s : State) (u : State) (a : Analog) :
    (s.takeArms u a).now = s.now ∧ (s.takeArms u a).pins = s.pins ∧ (s.takeArms u a).out = s.out
      ∧ (s.takeArms u a).ctl = s.ctl ∧ (s.takeArms u a).link = s.link
      ∧ (s.takeArms u a).peers = s.peers ∧ (s.takeArms u a).consent = s.consent
      ∧ (s.takeArms u a).meas = s.meas ∧ (s.takeArms u a).drive = s.drive
      ∧ (s.takeArms u a).role = s.role ∧ (s.takeArms u a).walk = s.walk
      ∧ (s.takeArms u a).heat = s.heat ∧ (s.takeArms u a).alarm = s.alarm
      ∧ (s.takeArms u a).slotFull = s.slotFull ∧ (s.takeArms u a).pending = s.pending := by
  unfold State.takeArms
  simp

/-- `State.regulationWork` writes at most `pins`, `out`, `ctl`, `link`, `peers`, `consent`, `meas`, `drive`, `role`, `walk`, `heat`, `alarm`, `capture`, `slotFull`. -/
@[simp] theorem State.regulationWork_keeps (s : State) (a : Analog) :
    (s.regulationWork a).now = s.now ∧ (s.regulationWork a).pending = s.pending := by
  unfold State.regulationWork
  dsimp only
  split <;> simp

/-- `State.regulationExpiry` writes at most `pins`, `out`, `ctl`, `link`, `peers`, `consent`, `meas`, `drive`, `role`, `walk`, `heat`, `alarm`, `capture`, `slotFull`. -/
@[simp] theorem State.regulationExpiry_keeps (s : State) (a : Analog) :
    (s.regulationExpiry a).now = s.now ∧ (s.regulationExpiry a).pending = s.pending := by
  unfold State.regulationExpiry
  split <;> simp

/-! ### The receiver and the transmitter (Machine/Receive.lean) -/

/-- `State.clash` writes at most `out`, `ctl`, `link`, `peers`, `consent`, `drive`, `role`, `walk`, `alarm`, `capture`, `slotFull`. -/
@[simp] theorem State.clash_keeps (s : State) (x : BitVec 4) :
    (s.clash x).now = s.now ∧ (s.clash x).pins = s.pins ∧ (s.clash x).meas = s.meas
      ∧ (s.clash x).heat = s.heat ∧ (s.clash x).pending = s.pending := by
  unfold State.clash
  dsimp only
  split <;> simp

/-- `State.expireClash` writes at most `out`, `ctl`, `link`, `alarm`. -/
@[simp] theorem State.expireClash_keeps (s : State) :
    s.expireClash.now = s.now ∧ s.expireClash.pins = s.pins ∧ s.expireClash.peers = s.peers
      ∧ s.expireClash.consent = s.consent ∧ s.expireClash.meas = s.meas
      ∧ s.expireClash.drive = s.drive ∧ s.expireClash.role = s.role ∧ s.expireClash.walk = s.walk
      ∧ s.expireClash.heat = s.heat ∧ s.expireClash.capture = s.capture
      ∧ s.expireClash.slotFull = s.slotFull ∧ s.expireClash.pending = s.pending := by
  unfold State.expireClash
  split <;> simp

/-- `State.freeBuffer` writes at most `link`. -/
@[simp] theorem State.freeBuffer_keeps (s : State) :
    s.freeBuffer.now = s.now ∧ s.freeBuffer.pins = s.pins ∧ s.freeBuffer.out = s.out
      ∧ s.freeBuffer.ctl = s.ctl ∧ s.freeBuffer.peers = s.peers ∧ s.freeBuffer.consent = s.consent
      ∧ s.freeBuffer.meas = s.meas ∧ s.freeBuffer.drive = s.drive ∧ s.freeBuffer.role = s.role
      ∧ s.freeBuffer.walk = s.walk ∧ s.freeBuffer.heat = s.heat ∧ s.freeBuffer.alarm = s.alarm
      ∧ s.freeBuffer.capture = s.capture ∧ s.freeBuffer.slotFull = s.slotFull
      ∧ s.freeBuffer.pending = s.pending := by
  unfold State.freeBuffer
  simp

/-- `State.handReport` writes at most `out`, `ctl`, `link`, `peers`, `consent`, `drive`, `role`, `walk`, `alarm`, `capture`, `slotFull`. -/
@[simp] theorem State.handReport_keeps (s : State) (g : Frame) :
    (s.handReport g).now = s.now ∧ (s.handReport g).pins = s.pins ∧ (s.handReport g).meas = s.meas
      ∧ (s.handReport g).heat = s.heat ∧ (s.handReport g).pending = s.pending := by
  unfold State.handReport
  split <;> simp

/-- `State.handPropose` writes at most `out`, `link`, `consent`, `role`, `walk`, `alarm`, `capture`, `slotFull`. -/
@[simp] theorem State.handPropose_keeps (s : State) (g : Frame) :
    (s.handPropose g).now = s.now ∧ (s.handPropose g).pins = s.pins
      ∧ (s.handPropose g).ctl = s.ctl ∧ (s.handPropose g).peers = s.peers
      ∧ (s.handPropose g).meas = s.meas ∧ (s.handPropose g).drive = s.drive
      ∧ (s.handPropose g).heat = s.heat ∧ (s.handPropose g).pending = s.pending := by
  unfold State.handPropose
  dsimp only
  (repeat' split) <;> simp

/-- `State.handObject` writes at most `out`, `ctl`, `link`, `consent`, `drive`, `role`, `walk`, `alarm`, `capture`, `slotFull`. -/
@[simp] theorem State.handObject_keeps (s : State) (g : Frame) :
    (s.handObject g).now = s.now ∧ (s.handObject g).pins = s.pins
      ∧ (s.handObject g).peers = s.peers ∧ (s.handObject g).meas = s.meas
      ∧ (s.handObject g).heat = s.heat ∧ (s.handObject g).pending = s.pending := by
  unfold State.handObject
  dsimp only
  (repeat' split) <;> simp

/-- `State.loseContest` writes at most `link`. -/
@[simp] theorem State.loseContest_keeps (s : State) :
    s.loseContest.now = s.now ∧ s.loseContest.pins = s.pins ∧ s.loseContest.out = s.out
      ∧ s.loseContest.ctl = s.ctl ∧ s.loseContest.peers = s.peers
      ∧ s.loseContest.consent = s.consent ∧ s.loseContest.meas = s.meas
      ∧ s.loseContest.drive = s.drive ∧ s.loseContest.role = s.role ∧ s.loseContest.walk = s.walk
      ∧ s.loseContest.heat = s.heat ∧ s.loseContest.alarm = s.alarm
      ∧ s.loseContest.capture = s.capture ∧ s.loseContest.slotFull = s.slotFull
      ∧ s.loseContest.pending = s.pending := by
  unfold State.loseContest
  split <;> simp

/-- `State.declareFault` writes at most `out`, `ctl`, `link`, `consent`, `drive`, `role`, `walk`, `alarm`, `capture`, `slotFull`. -/
@[simp] theorem State.declareFault_keeps (s : State) :
    s.declareFault.now = s.now ∧ s.declareFault.pins = s.pins ∧ s.declareFault.peers = s.peers
      ∧ s.declareFault.meas = s.meas ∧ s.declareFault.heat = s.heat
      ∧ s.declareFault.pending = s.pending := by
  unfold State.declareFault
  simp

/-- `State.failTransmission` writes at most `out`, `ctl`, `link`, `consent`, `drive`, `role`, `walk`, `alarm`, `capture`, `slotFull`. -/
@[simp] theorem State.failTransmission_keeps (s : State) :
    s.failTransmission.now = s.now ∧ s.failTransmission.pins = s.pins
      ∧ s.failTransmission.peers = s.peers ∧ s.failTransmission.meas = s.meas
      ∧ s.failTransmission.heat = s.heat ∧ s.failTransmission.pending = s.pending := by
  unfold State.failTransmission
  dsimp only
  (repeat' split) <;> simp

/-- `State.clearFault` writes at most `out`, `ctl`, `alarm`. -/
@[simp] theorem State.clearFault_keeps (s : State) :
    s.clearFault.now = s.now ∧ s.clearFault.pins = s.pins ∧ s.clearFault.link = s.link
      ∧ s.clearFault.peers = s.peers ∧ s.clearFault.consent = s.consent
      ∧ s.clearFault.meas = s.meas ∧ s.clearFault.drive = s.drive ∧ s.clearFault.role = s.role
      ∧ s.clearFault.walk = s.walk ∧ s.clearFault.heat = s.heat ∧ s.clearFault.capture = s.capture
      ∧ s.clearFault.slotFull = s.slotFull ∧ s.clearFault.pending = s.pending := by
  unfold State.clearFault
  split <;> simp

/-- `State.useCompletion` writes at most `out`, `ctl`, `consent`, `alarm`, `slotFull`. -/
@[simp] theorem State.useCompletion_keeps (s : State) (f : OutFrame) :
    (s.useCompletion f).now = s.now ∧ (s.useCompletion f).pins = s.pins
      ∧ (s.useCompletion f).link = s.link ∧ (s.useCompletion f).peers = s.peers
      ∧ (s.useCompletion f).meas = s.meas ∧ (s.useCompletion f).drive = s.drive
      ∧ (s.useCompletion f).role = s.role ∧ (s.useCompletion f).walk = s.walk
      ∧ (s.useCompletion f).heat = s.heat ∧ (s.useCompletion f).capture = s.capture
      ∧ (s.useCompletion f).pending = s.pending := by
  unfold State.useCompletion
  (repeat' split) <;> simp

/-- `State.completeTransmission` writes at most `out`, `ctl`, `link`, `consent`, `alarm`, `slotFull`. -/
@[simp] theorem State.completeTransmission_keeps (s : State) :
    s.completeTransmission.now = s.now ∧ s.completeTransmission.pins = s.pins
      ∧ s.completeTransmission.peers = s.peers ∧ s.completeTransmission.meas = s.meas
      ∧ s.completeTransmission.drive = s.drive ∧ s.completeTransmission.role = s.role
      ∧ s.completeTransmission.walk = s.walk ∧ s.completeTransmission.heat = s.heat
      ∧ s.completeTransmission.capture = s.capture ∧ s.completeTransmission.pending = s.pending := by
  unfold State.completeTransmission
  split <;> simp

/-- `State.endQuietOut` writes at most `ctl`, `link`, `peers`, `consent`, `slotFull`. -/
@[simp] theorem State.endQuietOut_keeps (s : State) :
    s.endQuietOut.now = s.now ∧ s.endQuietOut.pins = s.pins ∧ s.endQuietOut.out = s.out
      ∧ s.endQuietOut.meas = s.meas ∧ s.endQuietOut.drive = s.drive ∧ s.endQuietOut.role = s.role
      ∧ s.endQuietOut.walk = s.walk ∧ s.endQuietOut.heat = s.heat ∧ s.endQuietOut.alarm = s.alarm
      ∧ s.endQuietOut.capture = s.capture ∧ s.endQuietOut.pending = s.pending := by
  unfold State.endQuietOut
  split <;> simp

/-- `State.leaveListen` writes at most `out`, `ctl`, `link`, `peers`, `consent`, `alarm`, `capture`, `slotFull`. -/
@[simp] theorem State.leaveListen_keeps (s : State) :
    s.leaveListen.now = s.now ∧ s.leaveListen.pins = s.pins ∧ s.leaveListen.meas = s.meas
      ∧ s.leaveListen.drive = s.drive ∧ s.leaveListen.role = s.role ∧ s.leaveListen.walk = s.walk
      ∧ s.leaveListen.heat = s.heat ∧ s.leaveListen.pending = s.pending := by
  unfold State.leaveListen
  simp

/-- `State.endListen` writes at most `out`, `ctl`, `link`, `peers`, `consent`, `alarm`, `capture`, `slotFull`. -/
@[simp] theorem State.endListen_keeps (s : State) :
    s.endListen.now = s.now ∧ s.endListen.pins = s.pins ∧ s.endListen.meas = s.meas
      ∧ s.endListen.drive = s.drive ∧ s.endListen.role = s.role ∧ s.endListen.walk = s.walk
      ∧ s.endListen.heat = s.heat ∧ s.endListen.pending = s.pending := by
  unfold State.endListen
  split <;> simp

end Sys2Proof.Machine
end

