-- ==== Sys2Proof/Laws/Arith.lean ====
section
/-!
SUPPORT. The shared arithmetic: clamping, saturating counts, and the moves of a reference (R90, R91, R93).
-/

namespace Sys2Proof.Machine

/-! ### Clamping -/

theorem le_clamp (lo hi x : Int) (h : lo ≤ hi) : lo ≤ clamp lo hi x := by
  unfold clamp
  (repeat' split) <;> omega

theorem clamp_le (lo hi x : Int) (h : lo ≤ hi) : clamp lo hi x ≤ hi := by
  unfold clamp
  (repeat' split) <;> omega

/-- A value inside its range is not changed. -/
theorem clamp_eq (lo hi x : Int) (h : lo ≤ x) (h' : x ≤ hi) : clamp lo hi x = x := by
  unfold clamp
  (repeat' split) <;> omega

theorem clamp_natAbs_le (n : Nat) (x : Int) : (clamp (-(n : Int)) n x).natAbs ≤ n := by
  have h1 := le_clamp (-(n : Int)) n x (by omega)
  have h2 := clamp_le (-(n : Int)) n x (by omega)
  omega

/-! ### Moves toward a goal -/

/-- A move ends between its start and its goal. -/
theorem moveToward_between (x goal : Int) (step : Nat) :
    min x goal ≤ moveToward x goal step ∧ moveToward x goal step ≤ max x goal := by
  unfold moveToward
  (repeat' split) <;> omega

/-- A reference that its goal and itself keep within a bound stays within it (R91). -/
theorem rampMove_natAbs_le (r goal : Int) (acc dec bound : Nat) (hr : r.natAbs ≤ bound)
    (hg : goal.natAbs ≤ bound) : (rampMove r goal acc dec).natAbs ≤ bound := by
  have h0 := moveToward_between r 0 dec
  have h1 := moveToward_between r goal acc
  have h2 := moveToward_between r goal dec
  unfold rampMove
  (repeat' split) <;> omega

/-- A step size is at least one unit (R90). -/
theorem rampStep_pos (rate interval : Nat) : 0 < rampStep rate interval := by
  unfold rampStep
  omega

/-- The duty lies within ±1000 (R95). -/
theorem dutyOf_natAbs_le (r trim : Int) : (dutyOf r trim).natAbs ≤ 1000 := by
  unfold dutyOf
  dsimp only
  split
  · simp
  · exact clamp_natAbs_le 1000 _

/-! ### Counts -/

/-- A saturating count never falls. -/
theorem satInc_toNat (c : Word16) : (satInc c).toNat = min 65535 (c.toNat + 1) := by
  unfold satInc
  split
  · rename_i h
    simp [h]
  · rename_i h
    have h1 : c.toNat ≠ 65535 := fun e => h (BitVec.eq_of_toNat_eq (by simpa using e))
    have h2 := c.isLt
    rw [BitVec.toNat_add]
    have h3 : (1 : Word16).toNat = 1 := rfl
    omega

end Sys2Proof.Machine
end

