-- ==== Sys2Proof/Laws/Clock.lean ====
section
/-!
SUPPORT. The samples of one millisecond: contacts at their sample (R79) and the SUPPLY_OK filter (R80).
-/

namespace Sys2Proof.Machine

/-! ### One sample -/

/-- A sample at the value sets the run count to 0. -/
@[simp] theorem Debounced.sampleOver_same (steps : Nat) (d : Debounced) :
    Debounced.sampleOver steps d d.value = { d with run := 0 } := by
  simp [Debounced.sampleOver]

/-- A differing sample before the last one needed adds one to the run count. -/
theorem Debounced.sampleOver_differs (steps : Nat) (d : Debounced) (level : Bool)
    (h : level ≠ d.value) (hr : d.run + 1 < steps) :
    Debounced.sampleOver steps d level = { d with run := d.run + 1 } := by
  simp [Debounced.sampleOver, h, hr]

/-- The last differing sample needed is the edge, and the count starts again. -/
theorem Debounced.sampleOver_turns (steps : Nat) (d : Debounced) (level : Bool)
    (h : level ≠ d.value) (hr : steps ≤ d.run + 1) :
    Debounced.sampleOver steps d level = ⟨level, 0⟩ := by
  simp [Debounced.sampleOver, h, hr, Debounced.settled]

/-! ### The SUPPLY_OK filter -/

/-- Every sample counts: the filter over two stretches is the filter over the second from where the first
leaves it (R80). -/
theorem Debounced.filter_append (d : Debounced) (l m : List Bool) :
    d.filter (l ++ m) = (d.filter l).filter m := by
  simp [Debounced.filter]

/-- Samples at the filtered value give no edge and leave the run count 0. -/
theorem Debounced.filter_steady (d : Debounced) (n : Nat) :
    d.filter (List.replicate (n + 1) d.value) = { d with run := 0 } := by
  induction n with
  | zero => simp [Debounced.filter]
  | succ n ih =>
    rw [List.replicate_succ', Debounced.filter_append, ih]
    simp [Debounced.filter, Debounced.sampleOver]

/-- Differing samples short of the eighth in a row are counted and give no edge. -/
theorem Debounced.filter_dip (d : Debounced) (level : Bool) (n : Nat) (h : level ≠ d.value)
    (hr : d.run + n < 8) :
    d.filter (List.replicate n level) = { d with run := d.run + n } := by
  induction n with
  | zero => rfl
  | succ n ih =>
    rw [List.replicate_succ', Debounced.filter_append, ih (by omega)]
    exact Debounced.sampleOver_differs filterSteps { d with run := d.run + n } level h (by
      simp only [filterSteps]; omega)

end Sys2Proof.Machine
end

