-- ==== Sys2Proof/Laws/Queue.lean ====
section
/-!
SUPPORT. The transmit queue and the alarm list: what insertion, displacement and replacement leave, the class
order they keep (R21 to R23), and the alarm list's bound and sequence (R154).
-/

namespace Sys2Proof.Machine

/-! ### Class order -/

/-- The class order as a pairwise order. -/
theorem classOrdered_iff (l : List Queued) :
    classOrdered l = true ↔ l.Pairwise fun x y => x.cls ≤ y.cls := by
  induction l with
  | nil => simp [classOrdered]
  | cons x l ih =>
    cases l with
    | nil => simp [classOrdered]
    | cons y l =>
      simp only [classOrdered, Bool.and_eq_true, decide_eq_true_eq, ih, List.pairwise_cons]
      constructor
      · rintro ⟨h, hy, hl⟩
        refine ⟨?_, hy, hl⟩
        intro z hz
        rcases List.mem_cons.mp hz with rfl | hz
        · exact h
        · exact h.trans (hy z hz)
      · rintro ⟨hx, hy, hl⟩
        exact ⟨hx y (by simp), hy, hl⟩

/-- A part of an ordered queue is ordered. -/
theorem classOrdered_sublist {l m : List Queued} (h : l.Sublist m) (hm : classOrdered m = true) :
    classOrdered l = true := by
  rw [classOrdered_iff] at hm ⊢
  exact hm.sublist h

/-- A change of frames that keeps their classes keeps the order. -/
theorem classOrdered_map (f : Queued → Queued) (hf : ∀ q, (f q).cls = q.cls) (l : List Queued) :
    classOrdered (l.map f) = classOrdered l := by
  have h : classOrdered (l.map f) = true ↔ classOrdered l = true := by
    rw [classOrdered_iff, classOrdered_iff, List.pairwise_map]
    simp [hf]
  cases a : classOrdered (l.map f) <;> cases b : classOrdered l <;> simp_all

/-! ### Insertion (R21) -/

/-- Insertion adds exactly the new frame. -/
theorem insertByClass_perm (q : Queued) (l : List Queued) :
    (insertByClass q l).Perm (q :: l) := by
  induction l with
  | nil => simp [insertByClass]
  | cons x l ih =>
    simp only [insertByClass]
    split
    · exact .refl _
    · exact (ih.cons x).trans (.swap q x l)

@[simp] theorem insertByClass_length (q : Queued) (l : List Queued) :
    (insertByClass q l).length = l.length + 1 := by
  simpa using (insertByClass_perm q l).length_eq

@[simp] theorem mem_insertByClass {x q : Queued} {l : List Queued} :
    x ∈ insertByClass q l ↔ x = q ∨ x ∈ l := by
  simpa using (insertByClass_perm q l).mem_iff (a := x)

/-- Insertion keeps the class order. -/
theorem insertByClass_ordered (q : Queued) (l : List Queued) (h : classOrdered l = true) :
    classOrdered (insertByClass q l) = true := by
  rw [classOrdered_iff] at h ⊢
  induction l with
  | nil => simp [insertByClass]
  | cons x l ih =>
    obtain ⟨hx, hl⟩ := List.pairwise_cons.mp h
    simp only [insertByClass]
    split
    · rename_i hq
      refine List.pairwise_cons.mpr ⟨?_, h⟩
      intro z hz
      rcases List.mem_cons.mp hz with rfl | hz
      · exact Nat.le_of_lt hq
      · exact Nat.le_trans (Nat.le_of_lt hq) (hx z hz)
    · rename_i hq
      refine List.pairwise_cons.mpr ⟨?_, ih hl⟩
      intro z hz
      rcases mem_insertByClass.mp hz with rfl | hz
      · exact Nat.not_lt.mp hq
      · exact hx z hz

/-- How insertion changes a count. -/
theorem countOf_insertByClass (p : Queued → Bool) (q : Queued) (l : List Queued) :
    countOf p (insertByClass q l) = (if p q then 1 else 0) + countOf p l := by
  have h := ((insertByClass_perm q l).filter p).length_eq
  simp only [countOf, h, List.filter_cons]
  split <;> simp [Nat.add_comm]

/-! ### Displacement (R23) and replacement (R22) -/

/-- Displacement only removes. -/
theorem removeYoungest_sublist (c : Nat) (l : List Queued) : (removeYoungest c l).Sublist l := by
  unfold removeYoungest
  simpa using (List.eraseP_sublist (l := l.reverse)).reverse

/-- Displacement of a frame that is there shortens the queue by one. -/
theorem removeYoungest_length (c : Nat) (l : List Queued) (q : Queued)
    (h : youngestOf c l = some q) : (removeYoungest c l).length = l.length - 1 := by
  unfold youngestOf at h
  have hq := List.mem_of_find?_eq_some h
  have hp := List.find?_some h
  have hl := List.length_eraseP_of_mem (p := fun x : Queued => x.cls == c && !x.inTx) hq hp
  simp [removeYoungest, hl]

@[simp] theorem replaceReport_length (f : OutFrame) (l : List Queued) :
    (replaceReport f l).length = l.length := by simp [replaceReport]

/-- A report replaced by a report keeps every class in its place. -/
theorem replaceReport_ordered (f : OutFrame) (l : List Queued) (hf : f.isReport = true) :
    classOrdered (replaceReport f l) = classOrdered l := by
  refine classOrdered_map _ (fun q => ?_) l
  split
  · rename_i hq
    cases f <;> simp [OutFrame.isReport] at hf
    obtain ⟨g, _, _, _⟩ := q
    cases g <;> simp [OutFrame.isReport] at hq
    rfl
  · rfl

@[simp] theorem markHead_length (l : List Queued) : (markHead l).length = l.length := by
  cases l <;> rfl

/-- Marking the head keeps the order. -/
theorem markHead_ordered (l : List Queued) : classOrdered (markHead l) = classOrdered l := by
  match l with
  | [] => rfl
  | [_] => rfl
  | _ :: _ :: _ => rfl

/-! ### A request to queue a frame (R22, R23) -/

/-- The classes of the frames stay where a transmission is given up. -/
theorem stopDriving_ordered (s : State) :
    classOrdered s.stopDriving.link.queue = classOrdered s.link.queue :=
  classOrdered_map (fun q => { q with inTx := false, replaced := false }) (fun _ => rfl)
    s.link.queue

/-- Joining a queue keeps its order. -/
theorem joinQueue_ordered (s : State) (f : OutFrame) (h : classOrdered s.link.queue = true) :
    classOrdered (s.joinQueue f).link.queue = true := by
  simpa using insertByClass_ordered _ _ h

@[simp] theorem tellUnsent_queue (s : State) (f : OutFrame) :
    (s.tellUnsent f).link.queue = s.link.queue := by simp

@[simp] theorem dropFrame_queue (s : State) (f : OutFrame) :
    (s.dropFrame f).link.queue = s.link.queue := by simp [State.dropFrame]

/-- A request at a full queue keeps its order. -/
theorem joinFullQueue_ordered (s : State) (f : OutFrame) (h : classOrdered s.link.queue = true) :
    classOrdered (s.joinFullQueue f).link.queue = true := by
  unfold State.joinFullQueue
  (repeat' split) <;> try simp only [dropFrame_queue, h]
  refine joinQueue_ordered _ _ ?_
  simpa using classOrdered_sublist (removeYoungest_sublist _ _) h

/-- A request to queue a frame keeps the class order. -/
theorem queueFrame_ordered (s : State) (f : OutFrame) (h : classOrdered s.link.queue = true) :
    classOrdered (s.queueFrame f).link.queue = true := by
  unfold State.queueFrame
  split
  · exact h
  split
  · simpa using h
  split
  · exact h
  split
  · rename_i hr
    have hf : f.isReport = true := by
      simp only [Bool.and_eq_true] at hr
      exact hr.1
    simpa [replaceReport_ordered f _ hf] using h
  split
  · exact joinQueue_ordered s f h
  · exact joinFullQueue_ordered s f h

/-- A request at a full queue keeps the bound. -/
theorem joinFullQueue_length (s : State) (f : OutFrame) (h : s.link.queue.length ≤ 8) :
    (s.joinFullQueue f).link.queue.length ≤ 8 := by
  unfold State.joinFullQueue
  (repeat' split) <;> try simp only [dropFrame_queue, h]
  rename_i q hq
  have hl := removeYoungest_length _ _ q hq
  have hm : 0 < s.link.queue.length := by
    unfold youngestOf at hq
    exact List.length_pos_of_mem (List.mem_reverse.mp (List.mem_of_find?_eq_some hq))
  simp only [State.joinQueue_link, dropFrame_queue, State.modLink_link, insertByClass_length, hl]
  omega

/-- A request to queue a frame keeps the bound of 8 frames. -/
theorem queueFrame_length (s : State) (f : OutFrame) (h : s.link.queue.length ≤ 8) :
    (s.queueFrame f).link.queue.length ≤ 8 := by
  unfold State.queueFrame
  split
  · exact h
  split
  · simpa using h
  split
  · exact h
  split
  · simpa using h
  split
  · rename_i hl
    simp only [State.joinQueue_link, insertByClass_length]
    omega
  · exact joinFullQueue_length s f h

/-! ### The alarm list (R154) -/

/-- A consecutive list goes on with the next sequence number. -/
theorem consecutive_append (n : Word16) (l : List AlarmEntry) (e : AlarmEntry)
    (h : consecutive n l = true) (he : e.seq = n) : consecutive (n + 1) (l ++ [e]) = true := by
  induction l with
  | nil => simp [consecutive, he]
  | cons x l ih =>
    cases l with
    | nil =>
      simp only [consecutive, beq_iff_eq] at h
      simpa [consecutive, he] using h
    | cons y l =>
      simp only [consecutive, Bool.and_eq_true] at h
      simp only [List.cons_append, consecutive, Bool.and_eq_true]
      exact ⟨h.1, ih h.2⟩

/-- A consecutive list without its oldest entry is consecutive. -/
theorem consecutive_tail (n : Word16) (l : List AlarmEntry) (h : consecutive n l = true) :
    consecutive n l.tail = true := by
  match l with
  | [] => rfl
  | [_] => rfl
  | _ :: _ :: _ =>
    simp only [consecutive, Bool.and_eq_true] at h
    exact h.2

/-- Writing an entry keeps the bound of 32 entries and their sequence. -/
theorem log_listSound (s : State) (c : AlarmCode) (e : ListEvent) (v : Word16) (n : BitVec 4)
    (h : s.ListSound) : (s.log c e v n).ListSound := by
  obtain ⟨hl, hc⟩ := h
  unfold State.ListSound State.log
  simp only [State.modAlarm_alarm]
  split
  · refine ⟨by simp; omega, consecutive_append _ _ _ hc rfl⟩
  · refine ⟨by simp; omega, consecutive_append _ _ _ (consecutive_tail _ _ hc) rfl⟩

/-- The list's soundness reads the alarm unit alone. -/
theorem listSound_congr {s t : State} (h : t.alarm.list = s.alarm.list)
    (hn : t.alarm.nextSeq = s.alarm.nextSeq) (hs : s.ListSound) : t.ListSound := by
  unfold State.ListSound at *
  rwa [h, hn]

end Sys2Proof.Machine
end

