-- ==== Sys2Proof/Laws/Slots.lean ====
section
/-!
SUPPORT. The sample slots of the capture store: reading after writing, the canonical form of the slot list, and
that every operation of the store keeps it.
-/

namespace Sys2Proof.Machine

/-- The canonical form as a pairwise order. -/
theorem slotsWf_iff (l : List (Nat × Sample)) :
    slotsWf l = true ↔ l.Pairwise fun x y => x.1 < y.1 := by
  induction l with
  | nil => simp [slotsWf]
  | cons x l ih =>
    cases l with
    | nil => simp [slotsWf]
    | cons y l =>
      simp only [slotsWf, Bool.and_eq_true, decide_eq_true_eq, ih, List.pairwise_cons]
      constructor
      · rintro ⟨h, hy, hl⟩
        refine ⟨?_, hy, hl⟩
        intro z hz
        rcases List.mem_cons.mp hz with rfl | hz
        · exact h
        · exact h.trans (hy z hz)
      · rintro ⟨hx, hy, hl⟩
        exact ⟨hx y (by simp), hy, hl⟩

/-- A slot reads as what was last written to it. -/
@[simp] theorem readSlot_writeSlot_same (k : Nat) (v : Sample) (l : List (Nat × Sample)) :
    readSlot (writeSlot k v l) k = v := by
  induction l with
  | nil => simp [writeSlot, readSlot]
  | cons x l ih =>
    obtain ⟨j, w⟩ := x
    simp only [writeSlot]
    split
    · simp [readSlot]
    · split
      · simp [readSlot]
      · rename_i h
        have : (j == k) = false := by simpa using fun e => h e.symm
        simpa [readSlot, List.find?_cons, this] using ih

/-- A write leaves every other slot alone. -/
theorem readSlot_writeSlot_other (k j : Nat) (v : Sample) (l : List (Nat × Sample)) (h : j ≠ k) :
    readSlot (writeSlot k v l) j = readSlot l j := by
  have hk : (k == j) = false := by simpa using fun e => h e.symm
  induction l with
  | nil => simp [writeSlot, readSlot, hk]
  | cons x l ih =>
    obtain ⟨i, w⟩ := x
    simp only [writeSlot]
    split
    · simp [readSlot, List.find?_cons, hk]
    · split
      · rename_i e
        simp [readSlot, ← e, hk]
      · by_cases hi : i = j
        · simp [readSlot, hi]
        · have : (i == j) = false := by simpa using hi
          simpa [readSlot, List.find?_cons, this] using ih

/-- What a slot list holds after a write was there before or is what was written. -/
theorem mem_writeSlot {x : Nat × Sample} {k : Nat} {v : Sample} {l : List (Nat × Sample)}
    (h : x ∈ writeSlot k v l) : x = (k, v) ∨ x ∈ l := by
  induction l with
  | nil => exact .inl (by simpa [writeSlot] using h)
  | cons y l ih =>
    obtain ⟨j, w⟩ := y
    simp only [writeSlot] at h
    split at h
    · simpa using h
    · split at h
      · rcases List.mem_cons.mp h with rfl | h
        · exact .inl rfl
        · exact .inr (List.mem_cons_of_mem _ h)
      · rcases List.mem_cons.mp h with rfl | h
        · exact .inr (by simp)
        · exact (ih h).imp_right (List.mem_cons_of_mem _)

/-- A write keeps the canonical form. -/
theorem writeSlot_wf (k : Nat) (v : Sample) (l : List (Nat × Sample)) (h : slotsWf l = true) :
    slotsWf (writeSlot k v l) = true := by
  rw [slotsWf_iff] at h ⊢
  induction l with
  | nil => simp [writeSlot]
  | cons y l ih =>
    obtain ⟨j, w⟩ := y
    obtain ⟨hy, hl⟩ := List.pairwise_cons.mp h
    simp only [writeSlot]
    split
    · rename_i hk
      refine List.pairwise_cons.mpr ⟨?_, h⟩
      intro z hz
      rcases List.mem_cons.mp hz with rfl | hz
      · exact hk
      · exact Nat.lt_trans hk (hy z hz)
    · split
      · rename_i e
        exact List.pairwise_cons.mpr ⟨fun z hz => e ▸ hy z hz, hl⟩
      · rename_i h1 h2
        refine List.pairwise_cons.mpr ⟨?_, ih hl⟩
        intro z hz
        rcases mem_writeSlot hz with rfl | hz
        · exact Nat.lt_of_le_of_ne (Nat.not_lt.mp h1) (Ne.symm h2)
        · exact hy z hz

/-- The store after reset has its slot list in canonical form. -/
theorem reset_slots_wf : slotsWf State.reset.capture.slots = true := rfl

/-! ### Operations that write no slot -/

@[simp] theorem CaptureStore.modBlock_slots (k : CaptureStore) (i : Nat)
    (f : CaptureBlock → CaptureBlock) : (k.modBlock i f).slots = k.slots := rfl
@[simp] theorem CaptureStore.record_slots (k : CaptureStore) (i : Nat) :
    (k.record i).slots = k.slots := rfl
@[simp] theorem CaptureStore.release_slots (k : CaptureStore) (i : Nat) :
    (k.release i).slots = k.slots := by
  unfold CaptureStore.release
  dsimp only
  split <;> rfl
@[simp] theorem CaptureStore.toPost_slots (k : CaptureStore) (i : Nat) (now : Time) (n : Nat)
    (id : ArmId) (c : Option AlarmCode) : (k.toPost i now n id c).slots = k.slots := rfl
@[simp] theorem CaptureStore.empty_slots (k : CaptureStore) (i : Nat) :
    (k.empty i).slots = k.slots := rfl
@[simp] theorem CaptureStore.addDecision_slots (k : CaptureStore) (d : Decision) :
    (k.addDecision d).slots = k.slots := rfl
@[simp] theorem CaptureStore.noteLocal_slots (k : CaptureStore) (id : ArmId) (c : Option AlarmCode)
    (m : Option ArmId) (n : Nat) : (k.noteLocal id c m n).slots = k.slots := by
  unfold CaptureStore.noteLocal
  split <;> rfl
@[simp] theorem CaptureStore.arm_slots (k : CaptureStore) (now : Time) (n : Nat) (id : ArmId)
    (c : Option AlarmCode) : (k.arm now n id c).slots = k.slots := by
  unfold CaptureStore.arm
  dsimp only
  (repeat' split) <;> simp
@[simp] theorem CaptureStore.markKeep_slots (k : CaptureStore) (id : ArmId) :
    (k.markKeep id).slots = k.slots := rfl
@[simp] theorem CaptureStore.afterLocalReset_slots (k : CaptureStore) :
    k.afterLocalReset.slots = k.slots := rfl
@[simp] theorem CaptureStore.divide_slots (k : CaptureStore) (n : Nat) :
    (k.divide n).slots = k.slots := by
  unfold CaptureStore.divide
  split <;> rfl

/-! ### Operations that store a sample -/

@[simp] theorem CaptureStore.store_slots (k : CaptureStore) (n i : Nat) (v : Sample) :
    (k.store n i v).slots = writeSlot (k.writeSlotOf i) v k.slots := rfl

/-- A candidate taken keeps the canonical form. -/
theorem CaptureStore.take_wf (k : CaptureStore) (p : Params) (v : Sample)
    (h : slotsWf k.slots = true) : slotsWf (k.take p v).slots = true := by
  unfold CaptureStore.take
  dsimp only
  (repeat' split) <;> first | exact h | exact writeSlot_wf _ _ _ h

end Sys2Proof.Machine
end

