-- ==== Sys2Proof/Laws/Terms.lean ====
section
/-!
SUPPORT. The terms of the statements and the operations that they describe: command, zone, ramp, fold and duty of
a regulator step (R86 to R95), skew and walk target (R132), the boom excess (R111), and an arm (R164).
-/

namespace Sys2Proof.Machine

/-! ### The moves of a reference (R90, R91, R93) -/

theorem stepToward_eq (x goal : Int) (d : Nat) : stepToward x goal d = moveToward x goal d := by
  unfold stepToward moveToward
  (repeat' split) <;> omega

theorem Params.stepOf_eq (p : Params) (rate : Nat) : p.stepOf rate = rampStep rate p.regInterval := rfl

/-- The two numbers are both nonzero and of opposite sign. -/
theorem mul_neg_iff_opposite (x y : Int) : x * y < 0 ↔ (0 < x ∧ y < 0) ∨ (x < 0 ∧ 0 < y) :=
  mul_neg_iff

theorem rampedBy_eq (r goal : Int) (acc dec : Nat) : rampedBy r goal acc dec = rampMove r goal acc dec := by
  simp only [rampedBy, rampMove, stepToward_eq, mul_neg_iff_opposite]
  split
  · rfl
  · rename_i h
    split
    · rfl
    · split
      · rfl
      · unfold moveToward
        (repeat' split) <;> omega

/-- A fold by an excess that is not negative (R93). -/
theorem foldStep_of_nonneg (excess : Int) (gain : Nat) (h : 0 ≤ excess) :
    foldStep excess gain = ((excess.toNat * gain / 256 : Nat) : Int) := by
  obtain ⟨n, rfl⟩ := Int.eq_ofNat_of_zero_le h
  simp [foldStep, Int.tdiv_eq_ediv_of_nonneg, Int.mul_nonneg]

/-- The duty of R95 in terms of a product of signs. -/
theorem dutyOf_eq (r trim : Int) :
    dutyOf r trim =
      if r * (r + 256 * trim) < 0 then 0
      else max (-1000) (min 1000 ((r + 256 * trim).tdiv 256)) := by
  simp only [dutyOf, mul_neg_iff_opposite]
  split
  · rfl
  · unfold clamp
    (repeat' split) <;> omega

/-! ### Command and zone (R86, R87, R89) -/

theorem State.zoneAt_eq (s : State) (h : s.is .hoist = true) :
    s.zoneAt s.prm.pSlow s.prm.pStop s.meas.payout = s.zoneLimit := by
  unfold State.zoneAt State.zoneLimit State.slowPoint State.stopPoint
  simp only [h, if_true]
  cases s.meas.homedA <;> simp

theorem State.zoneAt_eq_of_not_hoist (s : State) (h : s.is .hoist = false) :
    s.zoneAt s.prm.dSlow s.prm.dStop s.meas.payout = s.zoneLimit := by
  unfold State.zoneAt State.zoneLimit State.slowPoint State.stopPoint
  simp only [h, Bool.false_eq_true, if_false]
  cases s.meas.homedA <;> simp

/-- A clamp whose bounds stand in order. -/
theorem clamp_eq_max_min (lo hi x : Int) (h : lo ≤ hi) : clamp lo hi x = max lo (min hi x) := by
  unfold clamp
  (repeat' split) <;> omega

theorem State.commandAt_eq (s : State) : s.commandAt s.meas.master = s.command := by
  unfold State.commandAt State.command State.leadCommand masterCommand fieldClamped PeerEntry.present
  split
  · cases s.leadStation with
    | none => rfl
    | some n =>
      cases h : (s.entry n).status <;> simp [clamp_eq_max_min (-1000) 1000 _ (by decide), h]
  · dsimp only
    split
    · rfl
    · split <;> simp

/-- The reference, trim and duty that the regulator's values leave, at a target, a rate and a boom excess. -/
theorem State.folded_eq (s : State) (r eb : Int) :
    s.folded r eb =
      stepToward r 0 (256 * ((max (s.currentExcess : Int) eb).toNat * s.prm.clGain / 256)) := by
  unfold State.folded
  rw [foldStep_of_nonneg _ _ (le_max_of_le_left (Int.natCast_nonneg _)), stepToward_eq]
  push_cast
  rfl

/-- The boom excess of an expiry is what the guard finds (R111). -/
theorem State.excessAt_eq (s : State) : s.excessAt = s.boomGuard := by
  unfold State.excessAt State.boomGuard boomShare
  dsimp only
  split <;> split <;> simp_all <;> omega

/-! ### The walk (R132) -/

theorem State.skewOf_eq (s : State) : skewOf s.meas.angleA s.meas.angleB = s.skew := rfl

theorem State.targetIn_eq (s : State) : s.targetIn s.walk.region = s.walkTarget := by
  unfold State.targetIn State.walkTarget phaseSpeedOf
  cases s.walk.state <;> rcases s.walk.phase with _ | _ | _ <;> rcases s.walk.region with _ | _ | _ | _ | _ | _ <;> rfl

/-! ### An arm (R164, Table 11-3) -/

/-- The one element of a list that a test picks is the first one. -/
theorem findIdx?_of_filter_le_one {α : Type} (p : α → Bool) (l : List α) (i : Nat) (h : i < l.length)
    (hp : p l[i] = true) (hl : (l.filter p).length ≤ 1) : l.findIdx? p = some i := by
  induction l generalizing i with
  | nil => simp at h
  | cons x xs ih =>
    cases i with
    | zero => simp_all [List.findIdx?_cons]
    | succ i =>
      simp only [List.getElem_cons_succ] at hp
      have hx : p x = false := by
        cases hx : p x with
        | false => rfl
        | true =>
          have : xs[i]'(by simpa using h) ∈ xs.filter p :=
            List.mem_filter.mpr ⟨List.getElem_mem _, hp⟩
          have := List.length_pos_of_mem this
          simp [hx] at hl
          simp_all
      simp only [List.filter_cons, hx, Bool.false_eq_true, if_false] at hl
      simp [List.findIdx?_cons, hx, ih i (by simpa using h) hp hl]

/-- The write block is the one block that is RECORDING or POST (R160). -/
theorem CaptureStore.writeBlock_of_writes (k : CaptureStore) (i : Nat) (h : i < k.blocks.length)
    (hw : (k.block i).state.writes = true) (hk : k.writers ≤ 1) : k.writeBlock = some i := by
  have : k.block i = k.blocks[i] := by simp [CaptureStore.block, h]
  exact findIdx?_of_filter_le_one _ _ i h (by rw [← this]; exact hw) hk

/-- What the arm of a RECORDING block does to the store (R164). -/
theorem CaptureStore.toPost_eq (k : CaptureStore) (i : Nat) (now : Time) (post : Nat) (id : ArmId)
    (code : Option AlarmCode) (h : i < k.blocks.length) :
    k.toPost i now post id code =
      { k with blocks := k.blocks.set i ((k.block i).posted (2048 / k.blocks.length) now post id code) } := by
  have hb : k.block i = k.blocks[i] := by simp [CaptureStore.block, h]
  have hi (n size : Nat) : (if n < size then n else size - 1) = min n (size - 1) := by
    split <;> omega
  simp only [CaptureStore.toPost, CaptureStore.modBlock, hb, CaptureStore.size, slotCount,
    CaptureBlock.posted, beq_eq_decide, List.modify_eq_set_get _ h, List.get_eq_getElem]
  congr 3
  exact hi _ _

end Sys2Proof.Machine
end

