-- ==== Sys2Proof/Laws/Walk.lean ====
section
/-!
SUPPORT. The step count of the walk sequencer (R124, R125).
-/

namespace Sys2Proof.Machine

/-- What an expiry does to the step count: one more exactly where the left cam crosses home. -/
theorem State.judgeCams_stepCount (s : State) :
    s.judgeCams.walk.stepCount = if s.crossesHome then s.walk.stepCount + 1 else s.walk.stepCount := rfl

/-- The expiry at which a cam first becomes homed counts no step (R124). -/
theorem State.judgeCams_stepCount_of_firstHomes (s : State) (h : s.firstHomes = true) :
    s.judgeCams.walk.stepCount = s.walk.stepCount := by
  simp [State.judgeCams_stepCount, State.crossesHome, h]

/-- After an expiry no cam counts as newly homed until a home event. -/
theorem State.judgeCams_firstHomes (s : State) : s.judgeCams.firstHomes = false := by
  simp [State.firstHomes, State.judgeCams, State.modWalk]

end Sys2Proof.Machine
end

