-- ==== Sys2Proof/WellFormed.lean ====
section
/-!
DEFINITION. Well-formed commands: operands with which the command is the event that its row names.
A command whose operands spell no such event leaves the station unchanged or is judged by the
reception checks, as its meaning says.
-/

namespace Sys2Proof

/-- A received frame carries 0 to 24 payload bytes (Table 2-1). -/
def payloadFits (payload : List Byte) : Bool := decide (payload.length ≤ Machine.maxLength)

/-- A request's code byte and its arguments fit one payload (R173). -/
def argumentsFit (args : List Byte) : Bool := decide (args.length + 1 ≤ Machine.maxLength)

/-- A request code that Table 12-1 lists: 1 to 9. -/
def listedCode (code : Byte) : Bool := decide (1 ≤ code.toNat) && decide (code.toNat ≤ 9)

/-- A command is well formed. -/
def Instr.wellFormed : Instr → Bool
  | .powerOnReset _ => true
  | .localReset _ => true
  | .parameterBlockLoaded _ => true
  | .listenExpiry => true
  | .reportTimerExpiry => true
  | .unconfiguredReportExpiry => true
  | .regulationIntervalExpiry _ => true
  | .neutralTimeElapsed => true
  | .runPermitRise => true
  | .runPermitFall => true
  | .ackRise => true
  | .limitRise => true
  | .limitFall => true
  | .homeLRise => true
  | .homeRRise => true
  | .contactorFbRise => true
  | .contactorFbFall => true
  | .walkCmdRise => true
  | .walkCmdFall => true
  | .walkStopRise => true
  | .walkStopFall => true
  | .walkStopHoldExpiry => true
  | .supplyOkFall => true
  | .supplyOkRise => true
  | .countEdge _ _ _ => true
  | .quadSkip _ => true
  | .transmissionStart => true
  | .contestLost => true
  | .transmitFailure => true
  | .completionEvent => true
  | .quietOutExpiry => true
  | .frameLengthAbandoned length => decide (Machine.maxLength < length.toNat)
  | .frameBad f check endField => payloadFits f.payload && Machine.frameIsBad f check endField
  | .frameOwnAddress f => payloadFits f.payload
  | .addressClashReturnExpiry => true
  | .frameMalformed f => payloadFits f.payload && !Machine.frameFits f
  | .stateReport _ payload => payloadFits payload
  | .propose _ payload => payloadFits payload
  | .object _ payload => payloadFits payload
  | .sendLimitExpiry => true
  | .windowExpiry => true
  | .alarmNotice _ payload => payloadFits payload
  | .keepNotice _ payload => payloadFits payload
  | .serviceReply _ payload => payloadFits payload
  | .readStatus _ args => argumentsFit args
  | .readPeer _ args => argumentsFit args
  | .readCounters _ args => argumentsFit args
  | .readAlarms _ args => argumentsFit args
  | .ackAlarms _ args => argumentsFit args
  | .readCaptureHeader _ args => argumentsFit args
  | .readCaptureSamples _ args => argumentsFit args
  | .releaseCapture _ args => argumentsFit args
  | .forceDerate _ args => argumentsFit args
  | .serviceRequestUnknownCode _ code args => argumentsFit args && !listedCode code
  | .entryGoesStale _ => true
  | .entryGoesAbsent _ => true
  | .tachExcessExpiry => true
  | .tachRecoveryExpiry => true
  | .brakeSetTimeExpiry => true
  | .brakeDisagreeExpiry => true
  | .brakeAgreeExpiry => true
  | .fieldLossTimeExpiry => true
  | .fieldLossClearExpiry => true
  | .overcurrentClearExpiry _ => true
  | .boomOverloadTimeExpiry => true
  | .swingRestExpiry => true
  | .deratePersistenceExpiry => true
  | .supplyLimitExpiry => true
  | .transferLimitExpiry => true
  | .returnLimitExpiry => true
  | .closedFeedbackLimitExpiry => true
  | .endTimeExpiry => true
  | .postEnd => true
  | .decisionEntryDue => true
  | .keepDeadlineExpiry _ => true
  | .brakeFbEdge _ => true

end Sys2Proof
end

