-- ==== Sys2Proof/Tests/Slice0.lean ====
section
/-!
SUPPORT. Tests: ill-formed commands that the well-formedness check refuses, the manual's worked
examples, and a witness for the hypotheses of every statement.
-/

namespace Sys2Proof.Tests
open Sys2Proof.Machine

set_option Elab.async false

/-! ### A station for the tests -/

/-- The next state of an outcome. -/
def nx (o : Host.Outcome State Fault Refusal) : State :=
  match o with
  | .next t => t
  | .fault _ | .refused _ => State.reset

/-- A serial memory with a good block for station 1, a solo hoist. -/
def goodMemory : List Byte :=
  ([1, 5, 1, 20, 0, 60, 1, 144, 0, 60, 2, 2, 88, 1, 244, 20, 3, 8, 0, 8, 0, 8, 0, 8, 0, 1, 4, 226, 5,
    180, 7, 208, 0, 0, 0, 200, 1, 144, 2, 88, 3, 32, 3, 232, 4, 176, 5, 120, 6, 64, 7, 8, 7, 208, 8,
    152, 9, 96, 10, 40, 10, 240, 11, 184, 12, 128, 13, 72, 14, 16, 14, 216, 15, 160, 16, 104, 17, 48,
    17, 248, 18, 192, 19, 136, 20, 80, 21, 24, 21, 224, 22, 168, 23, 112, 24, 56, 25, 0, 0, 0, 234,
    96, 80, 1, 44, 15, 160, 0, 150, 48, 7, 56, 10, 240, 0, 200, 10, 240, 0, 200, 0, 100, 1, 244, 3,
    232, 7, 208, 5, 220, 0, 64, 1, 144, 50, 1, 44, 0, 50, 0, 150, 5, 20, 7, 108, 35, 40, 3, 232, 3,
    182, 3, 132, 3, 82, 3, 32, 2, 248, 2, 208, 2, 168, 2, 128, 31, 64, 0, 64, 0, 50, 1, 244, 1, 3,
    132, 5, 220, 1, 144, 0, 20, 2, 88, 4, 76, 9, 196, 11, 184, 50, 2, 88, 1, 244, 2, 188, 1, 244, 3,
    132, 19, 136, 19, 136, 0, 150, 0, 50, 40, 0, 100, 7, 208, 12, 0, 21, 249, 0, 0, 15, 66, 64, 0, 30,
    132, 128, 0, 0, 0, 0, 1, 7, 255, 255, 255, 4, 0, 16, 0, 5, 0, 5, 0, 5, 0, 5, 1, 0, 100, 4, 1, 1,
    3, 2, 5, 3, 7, 4, 253, 136] : List Nat).map (BitVec.ofNat 8)

/-- The check value of a stream continues from that of its front. -/
theorem crc_append (l m : List Byte) (c : BitVec 16) :
    (bitsOfBytes (l ++ m)).foldl crcBit c =
      (bitsOfBytes m).foldl crcBit ((bitsOfBytes l).foldl crcBit c) := by
  simp [bitsOfBytes, List.flatMap_append, List.foldl_append]

/-- Bytes 37 i to 37 i + 36 of the good block. -/
def goodPart (i : Nat) : List Byte := (goodMemory.drop (37 * i)).take 37

theorem goodPart_crc0 : (bitsOfBytes (goodPart 0)).foldl crcBit 65535#16 = 7577#16 := by decide +kernel
theorem goodPart_crc1 : (bitsOfBytes (goodPart 1)).foldl crcBit 7577#16 = 32336#16 := by decide +kernel
theorem goodPart_crc2 : (bitsOfBytes (goodPart 2)).foldl crcBit 32336#16 = 15960#16 := by decide +kernel
theorem goodPart_crc3 : (bitsOfBytes (goodPart 3)).foldl crcBit 15960#16 = 64290#16 := by decide +kernel
theorem goodPart_crc4 : (bitsOfBytes (goodPart 4)).foldl crcBit 64290#16 = 36760#16 := by decide +kernel
theorem goodPart_crc5 : (bitsOfBytes (goodPart 5)).foldl crcBit 36760#16 = 9718#16 := by decide +kernel
theorem goodPart_crc6 : (bitsOfBytes (goodPart 6)).foldl crcBit 9718#16 = 64904#16 := by decide +kernel

/-- The check value over the 259 bytes before the check of the good block (R3). -/
theorem test_good_block_check : checkGood (blockOf goodMemory) = true := by
  have h : (blockOf goodMemory).take 259 = goodPart 0 ++ (goodPart 1 ++ (goodPart 2 ++ (goodPart 3 ++ (goodPart 4 ++ (goodPart 5 ++ (goodPart 6)))))) := by
    decide +kernel
  have c : (crc (bitsOfBytes ((blockOf goodMemory).take 259))).toNat = 64904 := by
    rw [h, crc]
    simp only [crc_append, goodPart_crc0, goodPart_crc1, goodPart_crc2, goodPart_crc3, goodPart_crc4,
      goodPart_crc5, goodPart_crc6]
    rfl
  have n : u16 (blockOf goodMemory) 0 - 2 = 259 := by decide +kernel
  have e : u16 (blockOf goodMemory) 259 = 64904 := by decide +kernel
  simp only [checkGood, n, c, e]
  rfl

/-- Station 1 strapped as a hoist passes every load check with the good block (Table 1-2). -/
theorem test_good_block_loads : loadChecks (blockOf goodMemory) 1 1 = 0 := by
  simp only [loadChecks, test_good_block_check]
  decide +kernel

/-- Parameters of the worked examples, as far as the tests read them. -/
def prm : Params :=
  { Params.blank with
    reportInterval := 20, staleLimit := 60, lostLimit := 400, objectionWindow := 60, regInterval := 2
    digTension := 600, groundTension := 500, zeroBand := 20, walkDerateMax := 3
    msCentre := 2048, armIPed := 2048, armVPed := 2048, fieldIPed := 2048, vbEnable := 1
    iScale := 1250, vScale := 1460, fScale := 2000, tensionTable := List.replicate 33 700
    speedK := 60000, countsPerM := 80, homePayout := 300, countsPerTurn := 4000, tachTol := 150
    msDead := 48, msSpan := 1848, pSlow := 2800, pStop := 800, dSlow := 2800, dStop := 200, creep := 100
    accRate := 500, decRate := 1000, holdDecRate := 2000, ratedLimit := 1500, clGain := 64
    shareGain := 400, shareMax := 50, soloSpeed := 300, brakeSetDelay := 250
    fieldMin := 150, fieldMax := 1300, armVMax := 1900, boomLimit := 9000
    boomTable := [1000, 950, 900, 850, 800, 760, 720, 680, 640], dMax := 8000, boomGain := 64
    staleCreep := 50, swingSetDelay := 500, sectorEnable := 1, sLo := 900, sHi := 1500, dFull := 400
    sectorMargin := 20, shoeDown := 600, liftOff := 1100, tubDown := 2500, shoeUp := 3000
    homeBand := 50, walkEndDelay := 2000, heatShift := 16, hTrip := 1440000, hReset := 1000000
    hStop := 2000000, noticeWarn := 1, armMask := 0x7FFFFFF, blocks := 4, postSamples := 16
    glitch := 1, keepWindow := 100 }

/-- The roster of a small machine: stations 1, 3, 5 and 7, each alone in its role. -/
def smallRoster : List RosterEntry := [⟨0, .hoist⟩, ⟨2, .drag⟩, ⟨4, .swing⟩, ⟨6, .walk⟩]

/-- Station 1 of the small machine in HOLD with an idle link. -/
def stn : State :=
  { State.reset with
    now := 50000
    ctl := { StationControl.reset with
      mode := .hold, straps := some ⟨1, 1⟩, params := some prm, roster := smallRoster
      place := some .solo }
    peers := PeerTable.reset.enlist smallRoster
    capture := CaptureStore.reset.divide 4 }

/-! ### Small states -/

/-- The station in another mode, nothing else touched. -/
def inMode (m : Mode) (s : State) : State := { s with ctl := { s.ctl with mode := m } }
/-- The station with these straps read. -/
def strapped (r : BitVec 3) (n : BitVec 4) (s : State) : State :=
  { s with ctl := { s.ctl with straps := some ⟨r, n⟩ } }
/-- The station in this place of its role. -/
def placed (p : Place) (s : State) : State := { s with ctl := { s.ctl with place := some p } }
/-- The station with an idle link and a free request slot. -/
def freeLink (s : State) : State :=
  { s with link := { s.link with queue := [], sending := none, quietOut := none }, slotFull := false }
/-- The station with no hold cause. -/
def noCauses (s : State) : State := { s with ctl := { s.ctl with causes := HoldCauses.empty } }
/-- The station with every code NORMAL. -/
def quietAlarms (s : State) : State :=
  { s with alarm := { s.alarm with table := Vector.replicate 27 .normal, list := [] } }
/-- The station with LOCAL_TRIP as its TRIP codes ask for, out of RUN unless it has no cause. -/
def coherent (s : State) : State :=
  let c := s.ctl.causes.put .localTrip (!s.alarm.tripsNormal)
  { s with ctl := { s.ctl with
      causes := c
      mode := if s.ctl.mode = .run ∧ c.isEmpty = false then .hold else s.ctl.mode } }
/-- The reading of the millisecond timer `d` ms ago. -/
def ago (d : Nat) (s : State) : Time := s.now - BitVec.ofNat 32 d
/-- The station with LOCAL_TRIP, its trips and its swing in order, and these straps. -/
def unit (r : BitVec 3) (n : BitVec 4) (s : State) : State := coherent (strapped r n s)
/-- The station with its own proposal at a status. -/
def own (x : ProposalStatus) (k : ProposalKind) (s : State) : State :=
  { s with consent := { s.consent with own := { s.consent.own with
      status := x, kind := some k, number := 3 } } }
/-- The station with nothing held. -/
def holdsNone (s : State) : State := { s with consent := { s.consent with held := none } }
/-- A sending station: the head of its queue in transmission. -/
def sends (f : OutFrame) (s : State) : State :=
  { s with link := { s.link with
      queue := [⟨f, s.now, true, false⟩, ⟨.keepNotice 2 4, s.now, false, false⟩]
      sending := some ⟨f, []⟩ } }
/-- The station whose walk stands in a state. -/
def walks (x : WalkState) (s : State) : State := { s with walk := { s.walk with state := x } }
/-- The station whose drag supply stands in a state. -/
def supplies (x : SupplyState) (s : State) : State :=
  { s with role := { s.role with supply := x } }
/-- The station whose swing stands in a state. -/
def swings (x : SwingState) (s : State) : State := { s with role := { s.role with swing := x } }
/-- The station with entry `n` changed. -/
def entryIs (n : Station) (f : PeerEntry → PeerEntry) (s : State) : State := s.modEntry n f
/-- The station with every peer FRESH in walk supply. -/
def allSupply (s : State) : State :=
  { s with peers := { s.peers with entries := s.peers.entries.map fun e =>
      { e with status := .fresh, fields := { e.fields with supply := 2 } } } }
/-- A state report of a station at rest. -/
def plainReport : ReportFields := { ReportFields.zero with mode := 2, brakeSet := true }
/-- A full queue in class order. -/
def fullQueue : List Queued :=
  [⟨.alarmNotice .fieldLoss 0 false 0, 0, false, false⟩, ⟨.stateReport 1 1 plainReport, 0, false, false⟩,
   ⟨.keepNotice 1 1, 0, false, false⟩, ⟨.keepNotice 1 2, 0, false, false⟩,
   ⟨.keepNotice 1 3, 0, false, false⟩, ⟨.keepNotice 1 4, 0, false, false⟩,
   ⟨.serviceReply 1 1 [], 0, false, false⟩, ⟨.serviceReply 2 0 [], 0, false, false⟩]

/-! ### Witnesses for the hypotheses of the statements -/

def wstepRunsFrontCommand0 : State :=
  let s := stn
  { s with pending := (.postEnd : Instr) :: ([.postEnd] : List Instr) }

def widleTick0 : State :=
  let s := stn
  { s with pending := [], meas := { s.meas with limit := ⟨!s.pins.limit, 15⟩ } }

def wresetsStartAfresh0 : State :=
  stn

def wresetsStartAfresh1 : State :=
  stn

def wstrapFaultStays0 : State :=
  stn

def wstrapFaultStays1 : State :=
  let s := stn
  nx (exec (.powerOnReset ⟨0, 1⟩) s)

def wloadJudged0 : State :=
  let s := stn
  inMode .loading (strapped 1 1 s)

def wloadJudged1 : State :=
  let s := stn
  nx (exec (.powerOnReset ⟨1, 1⟩) s)

def wlistenEnds0 : State :=
  let s := stn
  let s := freeLink (inMode .listen (strapped 1 1 s))
  { s with ctl := { s.ctl with listenTimer := some (47000 : BitVec 32) } }

def wreportEvents0 : State :=
  let s := stn
  let s := freeLink (strapped 1 1 s)
  { s with ctl := { s.ctl with reportTimer := some (47000 : BitVec 32) } }

def wreportEvents1 : State :=
  let s := stn
  let s := freeLink (inMode .stop (strapped 1 1 s))
  { s with ctl := { s.ctl with params := none, reportTimer := some (49950 : BitVec 32) } }

def wreportEvents2 : State :=
  let s := stn
  let s := (holdsNone (freeLink (strapped 1 1 s))).joinQueue (.stateReport 2 1 plainReport)
  { s with ctl := { s.ctl with reportTimer := some (47000 : BitVec 32) } }

def wrunEntered0 : State :=
  let s := stn
  let s := noCauses (inMode .hold s)
  { s with ctl := { s.ctl with neutralSince := some (ago 200 s) }, meas := { s.meas with runPermit := ⟨true, 0⟩ } }

def wrunEntered1 : State :=
  stn

def wrunEntered2 : State :=
  let s := stn
  let s := noCauses (inMode .hold s)
  { s with ctl := { s.ctl with neutralSince := some (ago 200 s), causes := { s.ctl.causes with restart := true } } }

def wrunEntered3 : State :=
  let s := stn
  (inMode .hold s).putCause (.peerStop : HoldCause) true

def wpermitFalls0 : State :=
  let s := stn
  inMode .run s

def wpermitFalls1 : State :=
  let s := stn
  walks .stepping (inMode .run (strapped 4 1 s))

def wpermitFalls2 : State :=
  let s := stn
  walks .transfer (own .active .walkStart (inMode .run (strapped 4 1 s)))

def wpermitFalls3 : State :=
  let s := stn
  walks .halted (inMode .run (strapped 4 1 s))

def wpermitFalls4 : State :=
  stn

def wsupplyEdges0 : State :=
  stn

def wsupplyEdges1 : State :=
  let s := stn
  inMode .stop s

def wsupplyEdges2 : State :=
  let s := stn
  inMode .stop s

def wmodeMoves0 : State :=
  stn

def wacknowledgeMoves0 : State :=
  stn

def wacknowledgeMoves1 : State :=
  let s := stn
  strapped 0 1 s

def wacknowledgeMoves2 : State :=
  let s := stn
  freeLink (strapped 1 1 s)

def wraiseLatches0 : State :=
  let s := stn
  coherent s

def wraiseLatches1 : State :=
  let s := stn
  strapped 0 1 s

def wraiseLatches2 : State :=
  let s := stn
  freeLink (inMode .hold (unit 1 1 s))

def wraiseLatches3 : State :=
  let s := stn
  inMode .hold (unit 1 1 s)

def wreturnMoves0 : State :=
  stn

def wnoticeTaken0 : State :=
  let s := stn
  let s := quietAlarms (strapped 1 1 s)
  s.putCause .peerStop (s.peers.someMark fun e => e.stopMark)

def wnoticeTaken1 : State :=
  let s := stn
  strapped 1 1 s

def wnoticeTaken2 : State :=
  let s := stn
  strapped 1 1 s

def wstartAndContest0 : State :=
  let s := stn
  (freeLink (strapped 1 1 s)).joinQueue (.keepNotice 2 4)

def wstartAndContest1 : State :=
  let s := stn
  sends (.keepNotice 2 4) s

def wfailureAndLinkFault0 : State :=
  let s := stn
  let s := sends (.keepNotice 2 4) s
  { s with link := { s.link with failCount := 14 } }

def wfailureAndLinkFault1 : State :=
  let s := stn
  let s := coherent (sends (.serviceReply 1 0 []) (strapped 1 1 s))
  { s with link := { s.link with failCount := 15 } }

def wcompletionTakesTheFrame0 : State :=
  let s := stn
  sends (.keepNotice 2 4) s

def wcompletionTakesTheFrame1 : State :=
  let s := stn
  let s := sends (.stateReport 3 1 plainReport) s
  { s with link := { s.link with queue := s.link.queue.map fun y => { y with replaced := y.inTx } } }

def wcompletionTakesTheFrame2 : State :=
  let s := stn
  sends (.stateReport (5 : BitVec 4) (1 : BitVec 3) (plainReport : ReportFields)) (s.putCause .linkFault true)

def wcompletionTakesTheFrame3 : State :=
  let s := stn
  let s := sends (.propose (3 : Byte) (.swingRelease : ProposalKind)) (own .pending (.swingRelease : ProposalKind) s)
  { s with consent := { s.consent with own := { s.consent.own with windowStart := none, number := (3 : Byte) } } }

def wcompletionTakesTheFrame4 : State :=
  let s := stn
  sends (.serviceReply 4 0 []) s

def wquietOut0 : State :=
  let s := stn
  let s := strapped 1 1 s
  { s with link := { s.link with quietOut := some s.now } }

def wquietOut1 : State :=
  let s := stn
  let s := freeLink (strapped 1 1 s)
  { s with link := { s.link with quietOut := some (47000 : BitVec 32) } }

def wquietOut2 : State :=
  let s := stn
  { s with link := { s.link with quietOut := some s.now } }

def wdiscardedFrames0 : State :=
  stn

def wdiscardedFrames1 : State :=
  stn

def wdiscardedFrames2 : State :=
  stn

def wdiscardedFrames3 : State :=
  stn

def wdiscardedFrames4 : State :=
  let s := stn
  inMode .loading s

def waddressClash0 : State :=
  let s := stn
  let s := strapped 1 1 s
  { s with link := { s.link with clashTimer := none } }

def waddressClash1 : State :=
  let s := stn
  let s := strapped 1 1 s
  { s with link := { s.link with clashTimer := some (47000 : BitVec 32) } }

def waddressClash2 : State :=
  let s := stn
  let s := inMode .stop s
  { s with link := { s.link with clashTimer := some (49000 : BitVec 32) } }

def wfullQueue0 : State :=
  let s := stn
  let s := freeLink (strapped 1 1 s)
  { s with link := { s.link with queue := fullQueue } }

def wfullQueue1 : State :=
  let s := stn
  let s := freeLink (strapped 1 1 s)
  { s with link := { s.link with queue := fullQueue } }

def wreportTaken0 : State :=
  let s := stn
  strapped 1 1 s

def wreportTaken1 : State :=
  let s := stn
  let s := own .pending .walkStart (strapped 4 1 s)
  { s with consent := { s.consent with own := { s.consent.own with windowStart := some 7 } } }

def wreportTaken2 : State :=
  let s := stn
  strapped 1 1 s

def wreportTaken3 : State :=
  let s := stn
  unit 1 1 s

def wreportTaken4 : State :=
  let s := stn
  let s := strapped 1 1 s
  { s with consent := { s.consent with held := some ⟨(2 : Station), 2, .walkStart, .pending, true, false⟩ } }

def wreportTaken5 : State :=
  let s := stn
  (fun s => s.modEntry (2 : Station) fun e => { e with expected := some .drag }) (walks .transfer (allSupply (inMode .hold (strapped 4 1 s))))

def wreportTaken6 : State :=
  let s := stn
  supplies .walkSupply (strapped 2 3 s)

def wreportDiscarded0 : State :=
  let s := stn
  strapped 1 1 s

def wreportDiscarded1 : State :=
  let s := stn
  entryIs (2 : Station) (fun e => { e with status := .fresh }) (strapped 1 1 s)

def wreportDiscarded2 : State :=
  let s := stn
  strapped 1 1 s

def wentriesAge0 : State :=
  let s := stn
  entryIs (2 : Station) (fun e => { e with status := .fresh, arrival := ago 3000 s }) (strapped 1 1 s)

def wentriesAge1 : State :=
  let s := stn
  coherent (entryIs (2 : Station) (fun e => { e with status := .stale, arrival := ago 4000 s }) (strapped 1 1 s))

def wentriesAge2 : State :=
  let s := stn
  strapped 1 1 s

def wentriesAge3 : State :=
  let s := stn
  strapped 1 1 s

def wproposeTaken0 : State :=
  let s := stn
  entryIs (2 : Station) (fun e => { e with status := .fresh }) (holdsNone (own .idle (.swingRelease : ProposalKind) (freeLink (strapped 1 1 s))))

def wproposeTaken1 : State :=
  let s := stn
  let s := holdsNone (own .idle .swingRelease (freeLink (inMode .hold (strapped (4 : BitVec 3) 1 s))))
  entryIs 2 (fun e => { e with status := .fresh }) s

def wproposeTaken2 : State :=
  let s := stn
  entryIs (2 : Station) (fun e => { e with status := .fresh }) (holdsNone (own .pending (.swingRelease : ProposalKind) (freeLink (strapped 4 7 s))))

def wproposeTaken3 : State :=
  let s := stn
  holdsNone (own .pending (.swingRelease : ProposalKind) (freeLink (strapped 1 1 s)))

def wproposeTaken4 : State :=
  let s := stn
  let s := freeLink (inMode .stop (strapped 1 1 s))
  { s with ctl := { s.ctl with params := none } }

def wproposeTaken5 : State :=
  let s := stn
  strapped 1 1 s

def wobjectionMarks0 : State :=
  let s := stn
  own .pending .swingRelease (strapped 1 1 s)

def wobjectWithdraws0 : State :=
  let s := stn
  swings .free (placed .solo (own .active .swingRelease (strapped 3 1 s)))

def wobjectWithdraws1 : State :=
  let s := stn
  walks .stepping (own .active .walkStart (strapped 4 1 s))

def wobjectWithdraws2 : State :=
  let s := stn
  strapped 1 1 s

def wobjectWithdraws3 : State :=
  let s := stn
  strapped 1 1 s

def wobjectWithdraws4 : State :=
  let s := stn
  strapped 1 1 s

def wsendLimitCancels0 : State :=
  let s := stn
  let s := own .pending (.swingRelease : ProposalKind) (strapped 1 1 s)
  { s with consent := { s.consent with own := { s.consent.own with sendLimit := some (47000 : BitVec 32) } } }

def wwindowJudged0 : State :=
  let s := stn
  let s := own .pending (.swingRelease : ProposalKind) (strapped 3 1 s)
  { s with ctl := { s.ctl with mode := .run }, consent := { s.consent with own := { s.consent.own with windowTimer := some (47000 : BitVec 32), objected := some ((1 : Station), (.walking : Reason)), echoSeen := Vector.replicate 8 true } } }

def wwindowJudged1 : State :=
  let s := stn
  let s := own .pending (.swingRelease : ProposalKind) (strapped 3 1 s)
  { s with ctl := { s.ctl with mode := .run }, consent := { s.consent with own := { s.consent.own with windowTimer := some (47000 : BitVec 32), objected := none, echoSeen := Vector.replicate 8 true } } }

def wwindowJudged2 : State :=
  let s := stn
  let s := { s with peers := { s.peers with entries := s.peers.entries.map fun (e : PeerEntry) => { e with status := .fresh } } }
  let s := own .pending (.swingRelease : ProposalKind) (strapped 3 1 s)
  { s with ctl := { s.ctl with mode := .run }, consent := { s.consent with own := { s.consent.own with windowTimer := some (47000 : BitVec 32), objected := none, echoSeen := (Vector.replicate 8 true).set 2 false } } }

def wwindowJudged3 : State :=
  let s := stn
  let s := { s with peers := { s.peers with entries := s.peers.entries.map fun (e : PeerEntry) => { e with status := .fresh } } }
  inMode .hold (let s := own .pending (.swingRelease : ProposalKind) (strapped 3 1 s)
  { s with ctl := { s.ctl with mode := .run }, consent := { s.consent with own := { s.consent.own with windowTimer := some (47000 : BitVec 32), objected := none, echoSeen := Vector.replicate 8 true } } })

def wwindowJudged4 : State :=
  let s := stn
  let s := { s with peers := { s.peers with entries := s.peers.entries.map fun (e : PeerEntry) => { e with status := .fresh } } }
  let s := { s with out := { s.out with brakeSet := true }, meas := { s.meas with walkCmd := ⟨true, 0⟩ } }
  let s := own .pending (.swingRelease : ProposalKind) (strapped 3 1 s)
  { s with ctl := { s.ctl with mode := .run }, consent := { s.consent with own := { s.consent.own with windowTimer := some (47000 : BitVec 32), objected := none, echoSeen := Vector.replicate 8 true } } }

def wwindowJudged5 : State :=
  let s := stn
  let s := { s with peers := { s.peers with entries := s.peers.entries.map fun (e : PeerEntry) => { e with status := .fresh } } }
  let k := ProposalKind.swingRelease
  let a := ago 2000 s
  let s := { s with out := { s.out with brakeSet := true } }
  let s := own .pending k (strapped 3 1 s)
  { s with ctl := { s.ctl with mode := .run }, consent := { s.consent with own := { s.consent.own with windowTimer := some a, objected := none, echoSeen := Vector.replicate 8 true } } }

def wpulseEdges0 : State :=
  let s := stn
  strapped 1 1 s

def wpulseEdges1 : State :=
  let s := stn
  strapped 3 1 s

def wpulseEdges2 : State :=
  let s := stn
  strapped 4 1 s

def wpulseEdges3 : State :=
  let s := stn
  strapped 4 1 s

def wpulseEdges4 : State :=
  let s := stn
  inMode .loading s

def wcontactEvents0 : State :=
  let s := stn
  strapped 1 1 s

def wcontactEvents1 : State :=
  let s := stn
  strapped 2 1 s

def wcontactEvents2 : State :=
  let s := stn
  strapped 1 1 s

def wcontactEvents3 : State :=
  let s := stn
  strapped 2 1 s

def wcontactEvents4 : State :=
  let s := stn
  strapped 3 1 s

def wcontactEvents5 : State :=
  let s := stn
  strapped 4 1 s

def wmeasuredValues0 : State :=
  let s := stn
  (fun s => { s with meas := { s.meas with regTimer := some (49990 : BitVec 32) } }) (strapped 1 1 s)

def wmeasuredValues1 : State :=
  let s := stn
  (fun s => { s with meas := { s.meas with regTimer := some (49990 : BitVec 32) } }) (strapped 4 1 s)

def wmeasuredValues2 : State :=
  let s := stn
  (fun s => { s with meas := { s.meas with regTimer := some (49990 : BitVec 32) } }) (strapped 2 1 s)

def wregulatorStep0 : State :=
  let s := stn
  (fun s => { s with meas := { s.meas with regTimer := some (49990 : BitVec 32) } }) (inMode .hold (strapped 1 1 s))

def wregulatorStep1 : State :=
  let s := stn
  let s := (fun s => { s with meas := { s.meas with regTimer := some (49990 : BitVec 32) } }) (inMode .run (strapped 1 1 s))
  { s with meas := { s.meas with limit := ⟨true, 0⟩ } }

def wregulatorStep3 : State :=
  stn

def wregulatorStep5 : State :=
  let s := stn
  supplies .normal ((fun s => { s with meas := { s.meas with regTimer := some (49990 : BitVec 32) } }) (coherent (inMode .run (strapped 1 1 s))))

def wregulatorStep6 : State :=
  let s := stn
  supplies .normal ((fun s => { s with meas := { s.meas with regTimer := some (49990 : BitVec 32) } }) (coherent (inMode .run (strapped 2 1 s))))

def wregulatorStep7 : State :=
  let s := stn
  supplies .walkSupply ((fun s => { s with meas := { s.meas with regTimer := some (49990 : BitVec 32) } }) (coherent (inMode .run (strapped 2 1 s))))

def wregulatorStep8 : State :=
  let s := stn
  own .active .swingRelease (swings .free (placed .solo (supplies .normal ((fun s => { s with meas := { s.meas with regTimer := some (49990 : BitVec 32) } }) (coherent (inMode .run (strapped 3 1 s)))))))

def wregulatorStep9 : State :=
  let s := stn
  entryIs 4 (fun e => { e with expected := some .swing, place := some .lead }) (supplies .normal (placed .follow ((fun s => { s with meas := { s.meas with regTimer := some (49990 : BitVec 32) } }) (coherent (inMode .run (strapped 3 6 s))))))

def wpersistenceRaises0 : State :=
  let s := stn
  let s := unit 1 1 s
  { s with meas := { s.meas with tachRaised := false, tachExcess := some (ago 200 s) } }

def wpersistenceRaises1 : State :=
  let s := stn
  let s := unit 1 1 s
  { s with drive := { s.drive with brakeFaultRaised := false, disagreeTime := some (ago 300 s) } }

def wpersistenceRaises2 : State :=
  let s := stn
  let s := unit 1 1 s
  { s with drive := { s.drive with fieldLossRaised := false, lossTime := some (ago 100 s) } }

def wpersistenceRaises3 : State :=
  let s := stn
  let s := placed .solo (unit 1 1 s)
  { s with role := { s.role with overloadRaised := false, overloadTime := some (ago 500 s) } }

def wpersistenceRaises4 : State :=
  let s := stn
  supplies .walkSupply (unit 2 1 s)

def wpersistenceReturns0 : State :=
  let s := stn
  let s := unit 1 1 s
  { s with meas := { s.meas with tachRaised := true, tachRecovery := some (ago 200 s) } }

def wpersistenceReturns1 : State :=
  let s := stn
  let s := unit 1 1 s
  { s with drive := { s.drive with brakeFaultRaised := true, agreeTime := some (ago 300 s) } }

def wpersistenceReturns2 : State :=
  let s := stn
  let s := unit 1 1 s
  { s with drive := { s.drive with fieldLossRaised := true, lossClear := some (ago 100 s) } }

def wpersistenceReturns3 : State :=
  let s := stn
  let s := unit 1 1 s
  { s with drive := { s.drive with overcurrentRaised := true, overcurrentClear := some (ago 100 s) } }

def wpersistenceReturns4 : State :=
  let s := stn
  let s := unit 1 1 s
  { s with drive := { s.drive with overvoltageRaised := true, overvoltageClear := some (ago 100 s) } }

def wbrakeAndSwingRest0 : State :=
  let s := stn
  let s := inMode .hold (strapped 1 1 s)
  { s with out := { s.out with brakeSet := false }, drive := { s.drive with setTime := some (ago 5000 s) } }

def wbrakeAndSwingRest1 : State :=
  let s := stn
  let s := own .active .swingRelease (swings .free (placed .solo (inMode .run (strapped 3 1 s))))
  { s with role := { s.role with restTime := some (ago 10500 s) } }

def wbrakeAndSwingRest2 : State :=
  let s := stn
  noCauses (quietAlarms (swings .locked (holdsNone (own .idle .swingRelease (placed .solo (freeLink ((fun s => { s with meas := { s.meas with regTimer := some (49990 : BitVec 32) } }) (inMode .run (strapped 3 1 s)))))))))

def wbrakeAndSwingRest3 : State :=
  let s := stn
  swings .locked (placed .solo ((fun s => { s with meas := { s.meas with regTimer := some (49990 : BitVec 32) } }) (inMode .hold (strapped 3 1 s))))

def wbrakeAndSwingRest4 : State :=
  let s := stn
  let s := noCauses (quietAlarms (swings .locked (own .idle .swingRelease (placed .solo (freeLink ((fun s => { s with meas := { s.meas with regTimer := some (49990 : BitVec 32) } }) (inMode .run (strapped 3 5 s))))))))
  { s with consent := { s.consent with held := some (⟨2, 4, .walkStart, .pending, false, false⟩ : HeldRecord) }, role := { s.role with prevCommand := 0 } }

def wbrakeAndSwingRest5 : State :=
  let s := stn
  own .withdrawing .swingRelease (swings .withdrawing (placed .solo ((fun s => { s with meas := { s.meas with regTimer := some (49990 : BitVec 32) } }) (inMode .run (strapped 3 1 s)))))

def wbrakeAndSwingRest6 : State :=
  let s := stn
  own .active .swingRelease (swings .free (placed .solo ((fun s => { s with meas := { s.meas with regTimer := some (49990 : BitVec 32) } }) (inMode .run (strapped 3 1 s)))))

def wcontactorEdges0 : State :=
  let s := stn
  supplies .transferring (unit 2 1 s)

def wcontactorEdges1 : State :=
  let s := stn
  supplies .normal (unit 2 1 s)

def wcontactorEdges2 : State :=
  let s := stn
  supplies .returning (unit 2 1 s)

def wcontactorEdges3 : State :=
  let s := stn
  supplies .walkSupply (unit 2 1 s)

def wcontactorEdges4 : State :=
  let s := stn
  supplies .transferring (unit 2 1 s)

def wcontactorEdges5 : State :=
  let s := stn
  let s := supplies .returning (unit 2 1 s)
  { s with out := { s.out with transferClosed := false } }

def wcontactorEdges6 : State :=
  let s := stn
  supplies .normal (unit 2 1 s)

def wcontactorEdges7 : State :=
  let s := stn
  let s := supplies .normal (noCauses (quietAlarms ((fun s => { s with meas := { s.meas with regTimer := some (49990 : BitVec 32) } }) (inMode .hold (strapped 2 1 s)))))
  let s := { s with out := { s.out with brakeSet := true }, drive := { s.drive with reference := 0 }, meas := { s.meas with contactorFb := ⟨false, 0⟩ } }
  s.modEntry (s.walkStation.getD 6) fun e => { e with status := .fresh, fields := { e.fields with phase := 2 } }

def wcontactorEdges8 : State :=
  let s := stn
  let s := supplies .returning ((fun s => { s with meas := { s.meas with regTimer := some (49990 : BitVec 32) } }) (inMode .hold (strapped 2 1 s)))
  { s with out := { s.out with transferClosed := true } }

def wsupplyLimits0 : State :=
  let s := stn
  let s := supplies .transferring (unit 2 1 s)
  { s with role := { s.role with transferLimit := some (ago 500 s) } }

def wsupplyLimits1 : State :=
  let s := stn
  let s := supplies .returning (unit 2 1 s)
  { s with role := { s.role with returnLimit := some (ago 500 s) } }

def wsupplyLimits2 : State :=
  let s := stn
  let s := supplies .normal (unit 2 1 s)
  { s with role := { s.role with closedLimit := some (ago 500 s) } }

def wwalkCommanded0 : State :=
  let s := stn
  noCauses (walks .idle (holdsNone (own .idle .walkStart (freeLink (inMode .run (strapped 4 1 s))))))

def wwalkCommanded1 : State :=
  let s := stn
  walks .halted (allSupply (inMode .run (strapped 4 1 s)))

def wwalkCommanded2 : State :=
  let s := stn
  let s := walks .forced (allSupply (inMode .run (strapped 4 1 s)))
  { s with walk := { s.walk with forced := ⟨false, false, false⟩ } }

def wwalkCommanded3 : State :=
  stn

def wwalkStops0 : State :=
  let s := stn
  walks .stepping (strapped 4 1 s)

def wwalkStops1 : State :=
  let s := stn
  walks .transfer (own .active .walkStart (strapped 4 1 s))

def wwalkStops2 : State :=
  let s := stn
  walks .transfer (own .withdrawing .walkStart (strapped 4 1 s))

def wwalkStops3 : State :=
  let s := stn
  walks .stepping (strapped 4 1 s)

def wwalkStops4 : State :=
  let s := stn
  walks .halted (strapped 4 1 s)

def wwalkStops5 : State :=
  let s := stn
  walks .forced (strapped 4 1 s)

def wwalkStops6 : State :=
  let s := stn
  (fun s => { s with meas := { s.meas with regTimer := some (49990 : BitVec 32) } }) (strapped 4 1 s)

def wwalkStops7 : State :=
  let s := stn
  let s := walks .stepping ((fun s => { s with meas := { s.meas with regTimer := some (49990 : BitVec 32) } }) (inMode .hold (strapped 4 1 s)))
  { s with drive := { s.drive with disagreeTime := none } }

def wwalkStops8 : State :=
  let s := stn
  let s := noCauses (quietAlarms (walks .stepping ((fun s => { s with meas := { s.meas with regTimer := some (49990 : BitVec 32) } }) (inMode .run (strapped 4 1 s)))))
  { s with drive := { s.drive with brakeFaultRaised := false, disagreeTime := some (ago 300 s) }, out := { s.out with brakeSet := !s.meas.brakeFb.value } }

def wwalkStops9 : State :=
  let s := stn
  let s := walks .idle ((fun s => { s with meas := { s.meas with regTimer := some (49990 : BitVec 32) } }) (inMode .stop (strapped 4 1 s)))
  { s with walk := { s.walk with skewRaised := true } }

def wwalkStops10 : State :=
  let s := stn
  walks .halted ((fun s => { s with meas := { s.meas with regTimer := some (49990 : BitVec 32) } }) (strapped 4 1 s))

def wwalkTimes0 : State :=
  let s := stn
  let s := walks .stepping (unit 4 1 s)
  { s with walk := { s.walk with stopHold := some (ago 2000 s) } }

def wwalkTimes1 : State :=
  let s := stn
  let s := walks .forced (unit 4 1 s)
  { s with walk := { s.walk with stopHold := some (ago 2000 s) } }

def wwalkTimes2 : State :=
  let s := stn
  let s := walks .transfer (own .active .walkStart (unit 4 1 s))
  { s with walk := { s.walk with supplyLimit := some (ago 1000 s) } }

def wwalkTimes3 : State :=
  let s := stn
  let s := walks .halted (own .active .walkStart (unit 4 1 s))
  { s with walk := { s.walk with endTime := some (ago 30000 s) } }

def wderateLevels0 : State :=
  let s := stn
  let s := strapped 1 1 s
  { s with heat := { s.heat with persistence := .rising (48000 : BitVec 32) } }

def wderateLevels1 : State :=
  let s := stn
  let s := strapped 1 1 s
  { s with heat := { s.heat with level := s.heat.level + 1, persistence := .falling (48000 : BitVec 32) } }

def wderateLevels2 : State :=
  let s := stn
  freeLink (strapped 1 1 s)

def wderateLevels3 : State :=
  let s := stn
  freeLink (strapped 1 1 s)

def wderateLevels4 : State :=
  let s := stn
  (fun s => { s with meas := { s.meas with regTimer := some (49990 : BitVec 32) } }) (strapped 1 1 s)

def wkeepAndRelease0 : State :=
  let s := stn
  let s := strapped 1 1 s
  { s with capture := { s.capture with blocks := s.capture.blocks.modify 1 fun b => { b with state := .awaitKeep, armId := some ⟨3, 9⟩ } } }

def wkeepAndRelease1 : State :=
  let s := stn
  strapped 1 1 s

def wkeepAndRelease2 : State :=
  let s := stn
  strapped 1 1 s

def wkeepAndRelease3 : State :=
  let s := stn
  { s with capture := { s.capture with blocks := s.capture.blocks.modify 1 fun b => { b with state := .awaitKeep, keepDeadline := some (ago 6000 s) } } }

def wkeepAndRelease4 : State :=
  let s := stn
  let s := freeLink (strapped 1 1 s)
  { s with capture := { s.capture with blocks := List.replicate 4 { CaptureBlock.blank with state := .kept }, kept := [2, 0, 1, 3] } }

def wkeepAndRelease5 : State :=
  let s := stn
  let s := freeLink (strapped 1 1 s)
  { s with capture := { s.capture with kept := [] } }

def wpostAndDecision0 : State :=
  let s := stn
  let s := inMode .hold (strapped 1 1 s)
  { s with meas := { s.meas with regTimer := some (47000 : BitVec 32) }, capture := { s.capture with decisions := [], kept := [], blocks := [{ CaptureBlock.blank with state := .free }, { CaptureBlock.blank with oldest := 512, state := .post, armId := some ⟨0, 5⟩, armCode := some .fieldLoss, stored := 512, armIndex := 511, post := 12 }, { CaptureBlock.blank with state := .free }, { CaptureBlock.blank with state := .free }] } }

def wpostAndDecision1 : State :=
  let s := stn
  let s := inMode .hold (strapped 1 1 s)
  { s with meas := { s.meas with regTimer := some (47000 : BitVec 32) }, capture := { s.capture with decisions := [], kept := [], blocks := [{ CaptureBlock.blank with state := .free }, { CaptureBlock.blank with oldest := 512, state := .recording, stored := 300 }, { CaptureBlock.blank with state := .free }, { CaptureBlock.blank with state := .free }], last := some ⟨1, 0, 0, 0, 0, true, false, 0⟩, sinceLast := 5 } }

def wpostAndDecision2 : State :=
  let s := stn
  (let s := freeLink (strapped 1 1 s)
  { s with capture := { s.capture with kept := [], blocks := [{ CaptureBlock.blank with state := .awaitKeep, armId := some ⟨3, 9⟩ }, { CaptureBlock.blank with state := .post, armId := some ⟨0, 5⟩, armCode := some .fieldLoss }, { CaptureBlock.blank with state := .free }, { CaptureBlock.blank with state := .kept }] } }).setAnn .fieldLoss .activeAck

def wpostAndDecision3 : State :=
  let s := stn
  (let s := freeLink (strapped 1 1 s)
  { s with capture := { s.capture with kept := [], blocks := [{ CaptureBlock.blank with state := .awaitKeep, armId := some ⟨3, 9⟩ }, { CaptureBlock.blank with state := .post, armId := some ⟨0, 5⟩, armCode := some .fieldLoss }, { CaptureBlock.blank with state := .free }, { CaptureBlock.blank with state := .kept }] } }).setAnn .fieldLoss .normal

def wpostAndDecision4 : State :=
  let s := stn
  let s := freeLink (strapped 1 1 s)
  { s with capture := { s.capture with kept := [], blocks := [{ CaptureBlock.blank with state := .awaitKeep, armId := some ⟨3, 9⟩ }, { CaptureBlock.blank with state := .post, armId := some ⟨4, 5⟩, armCode := none }, { CaptureBlock.blank with state := .free }, { CaptureBlock.blank with state := .kept }] } }

def wpostAndDecision5 : State :=
  let s := stn
  let s := freeLink (strapped 1 1 s)
  { s with capture := { s.capture with kept := [], blocks := [{ CaptureBlock.blank with state := .awaitKeep, armId := some ⟨3, 9⟩ }, { CaptureBlock.blank with state := .post, armId := some ⟨4, 5⟩, keepMark := true, armCode := none }, { CaptureBlock.blank with state := .free }, { CaptureBlock.blank with state := .kept }] } }

def wpostAndDecision6 : State :=
  let s := stn
  let s := (freeLink (strapped 1 1 s)).setAnn .fieldLoss .activeAck
  { s with capture := { s.capture with decisions := [⟨⟨2, 7⟩, .fieldLoss, none, 0⟩] } }

def wreadsAnswer0 : State :=
  let s := stn
  freeLink (strapped 1 1 s)

def wreadsAnswer1 : State :=
  let s := stn
  freeLink (strapped 1 1 s)

def wreadsAnswer2 : State :=
  let s := stn
  freeLink (strapped 1 1 s)

def wreadsAnswer3 : State :=
  let s := stn
  freeLink (strapped 1 1 s)

def wreadsAnswer4 : State :=
  let s := stn
  let s := freeLink (strapped 1 1 s)
  { s with capture := { s.capture with kept := [2, 0] } }

def wreadsAnswer5 : State :=
  let s := stn
  let s := freeLink (strapped 1 1 s)
  { s with capture := { s.capture with kept := [2, 0], blocks := s.capture.blocks.modify 2 fun b => { b with stored := 9 } } }

def wreadsAnswer6 : State :=
  let s := stn
  let s := freeLink (strapped 1 1 s)
  { s with capture := { s.capture with kept := [] } }

def wreadsAnswer7 : State :=
  let s := stn
  freeLink (strapped 1 1 s)

def wreadsAnswer8 : State :=
  let s := stn
  freeLink (strapped 1 1 s)

def wreadsAnswer9 : State :=
  let s := stn
  freeLink (strapped 1 1 s)

def wreadsAnswer10 : State :=
  let s := stn
  let s := freeLink (strapped 1 1 s)
  { s with capture := { s.capture with kept := [2, 0], blocks := s.capture.blocks.modify 2 fun b => { b with stored := 9 } } }

def wreadsAnswer11 : State :=
  let s := stn
  let s := freeLink (strapped 1 1 s)
  { s with slotFull := true }

def wsafeModesKept0 : State :=
  let s := stn
  { s with pending := [.postEnd] }

def wcausesKept0 : State :=
  let s := stn
  { s.putCause .pictureIncomplete true with pending := [.postEnd] }

def wqueueAndTableKept0 : State :=
  let s := stn
  { s with pending := [.postEnd] }

def wconsentKept0 : State :=
  let s := stn
  { s with pending := [.postEnd] }

def wdriveKept0 : State :=
  let s := stn
  { s with pending := [.postEnd] }

def wsupplyAndWalkKept0 : State :=
  let s := stn
  { s with pending := [.postEnd] }

def wlampsKept0 : State :=
  let s := stn
  { s with pending := [.postEnd] }

def wcaptureKept0 : State :=
  let s := stn
  { s with pending := [.postEnd] }

/-- States and operands that meet the hypotheses of each clause of `Obligations.StepRunsFrontCommand`. -/
theorem witness_step_runs_front_command :
    (∃ (s : State) (c : Instr) (rest : List Instr),
      s.pending = c :: rest) :=
  ⟨wstepRunsFrontCommand0, (.postEnd : Instr), ([.postEnd] : List Instr),
      by decide +kernel⟩

/-- States and operands that meet the hypotheses of each clause of `Obligations.IdleTick`. -/
theorem witness_idle_tick :
    (∃ (s : State) (t : State),
      s.pending = [] ∧
      step s = .next t) :=
  ⟨widleTick0, (nx (step widleTick0) : State),
      by decide +kernel,
      rfl⟩

/-- States and operands that meet the hypotheses of each clause of `Obligations.ResetsStartAfresh`. -/
theorem witness_resets_start_afresh :
    (∃ (x : Straps),
      strapsValid x = true)
    ∧ (∃ (x : Straps),
      strapsValid x = true) :=
  ⟨⟨(⟨1, 1⟩ : Straps),
      by decide +kernel⟩,
    ⟨(⟨1, 1⟩ : Straps),
      by decide +kernel⟩⟩

/-- States and operands that meet the hypotheses of each clause of `Obligations.StrapFaultStays`. -/
theorem witness_strap_fault_stays :
    (∃ (x : Straps),
      strapsValid x = false)
    ∧ (∃ (c : Instr) (s : State),
      s.StrapStopped ∧
      c.isReset = false) :=
  ⟨⟨(⟨0, 1⟩ : Straps),
      by decide +kernel⟩,
    ⟨(.ackRise : Instr), wstrapFaultStays1,
      by decide +kernel⟩⟩

/-- States and operands that meet the hypotheses of each clause of `Obligations.LoadJudged`. -/
theorem witness_load_judged :
    (∃ (s : State) (memory : List Byte) (n : Station) (r : Role),
      s.ctl.mode = .loading ∧
      s.self = some n ∧
      s.ownRole = some r ∧
      loadChecks (blockOf memory) (stationNumber n) r.code = 0)
    ∧ (∃ (s : State) (memory : List Byte) (n : Station) (r : Role) (k : Nat),
      s.ctl.mode = .loading ∧
      s.self = some n ∧
      s.ownRole = some r ∧
      loadChecks (blockOf memory) (stationNumber n) r.code = k ∧
      k ≠ 0 ∧
      s.ctl.params = none ∧
      s.ctl.causes.isEmpty = true ∧
      s.consent.held = none ∧
      s.link.queue = [] ∧
      s.link.quietOut = none ∧
      s.SafeModes ∧
      s.SwingSound) :=
  ⟨⟨wloadJudged0, (goodMemory : List Byte), (0 : Station), (.hoist : Role),
      by decide +kernel,
      by decide +kernel,
      by decide +kernel,
      test_good_block_loads⟩,
    ⟨wloadJudged1, ([] : List Byte), (0 : Station), (.hoist : Role), (loadChecks (blockOf ([])) 1 1 : Nat),
      by unfold State.SafeModes State.SwingSound; decide +kernel⟩⟩

/-- States and operands that meet the hypotheses of each clause of `Obligations.ListenEnds`. -/
theorem witness_listen_ends :
    (∃ (s : State) (n : Station) (r : Role) (a : Time) (i : Nat),
      s.ctl.mode = .listen ∧
      s.configured = true ∧
      s.self = some n ∧
      s.ownRole = some r ∧
      s.ctl.listenTimer = some a ∧
      s.prm.lostLimit ≤ s.since a ∧
      s.capture.firstFree = some i ∧
      s.link.quietOut = none ∧
      s.link.queue.length ≤ 6) :=
  ⟨wlistenEnds0, (0 : Station), (.hoist : Role), ((47000 : BitVec 32) : Time), (wlistenEnds0.capture.firstFree.getD 99),
      by decide +kernel⟩

/-- States and operands that meet the hypotheses of each clause of `Obligations.ReportEvents`. -/
theorem witness_report_events :
    (∃ (s : State) (n : Station) (a : Time),
      s.inService = true ∧
      s.self = some n ∧
      s.ctl.reportTimer = some a ∧
      s.prm.reportInterval ≤ s.since a ∧
      s.link.quietOut = none ∧
      s.link.queue.length ≤ 6)
    ∧ (∃ (s : State) (a : Time),
      s.unconfigured = true ∧
      s.ctl.reportTimer = some a ∧
      50 ≤ s.since a ∧
      s.link.quietOut = none ∧
      s.link.queue.length ≤ 6)
    ∧ (∃ (s : State) (n : Station) (a : Time),
      s.inService = true ∧
      s.self = some n ∧
      s.ctl.reportTimer = some a ∧
      s.prm.reportInterval ≤ s.since a ∧
      s.link.quietOut = none ∧
      s.consent.held = none ∧
      s.QueueSound ∧
      (∃ q ∈ s.link.queue, q.frame.isReport = true)) :=
  ⟨⟨wreportEvents0, (0 : Station), ((47000 : BitVec 32) : Time),
      by decide +kernel⟩,
    ⟨wreportEvents1, ((49950 : BitVec 32) : Time),
      by decide +kernel⟩,
    ⟨wreportEvents2, (0 : Station), ((47000 : BitVec 32) : Time),
      by unfold State.QueueSound; decide +kernel⟩⟩

/-- States and operands that meet the hypotheses of each clause of `Obligations.RunEntered`. -/
theorem witness_run_entered :
    (∃ (s : State),
      s.ctl.mode = .hold ∧
      s.ctl.causes.isEmpty = true ∧
      s.meas.runPermit.value = true ∧
      s.ran s.ctl.neutralSince 200 = true)
    ∧ (∃ (s : State),
      (s.ctl.mode ≠ .hold ∨ s.ctl.causes.isEmpty = false ∨ s.meas.runPermit.value = false
      ∨ s.ran s.ctl.neutralSince 200 = false))
    ∧ (∃ (s : State),
      s.ctl.mode = .hold ∧
      (∀ k : HoldCause, k ≠ .restart → s.hasCause k = false) ∧
      s.ran s.ctl.neutralSince 200 = true)
    ∧ (∃ (s : State) (k : HoldCause),
      s.ctl.mode = .hold ∧
      k ≠ .restart ∧
      s.hasCause k = true) :=
  ⟨⟨wrunEntered0,
      by decide +kernel⟩,
    ⟨wrunEntered1,
      by decide +kernel⟩,
    ⟨wrunEntered2,
      by decide +kernel,
      by intro k; cases k <;> decide +kernel,
      by decide +kernel⟩,
    ⟨wrunEntered3, (.peerStop : HoldCause),
      by decide +kernel⟩⟩

/-- States and operands that meet the hypotheses of each clause of `Obligations.PermitFalls`. -/
theorem witness_permit_falls :
    (∃ (s : State),
      s.ctl.mode = .run ∧
      s.is .walk = false)
    ∧ (∃ (s : State),
      s.ctl.mode = .run ∧
      s.is .walk = true ∧
      s.walk.state = .stepping)
    ∧ (∃ (s : State),
      s.ctl.mode = .run ∧
      s.is .walk = true ∧
      s.walk.state = .transfer)
    ∧ (∃ (s : State),
      s.ctl.mode = .run ∧
      s.is .walk = true ∧
      s.walk.state ≠ .stepping ∧
      s.walk.state ≠ .transfer)
    ∧ (∃ (s : State),
      s.ctl.mode ≠ .run) :=
  ⟨⟨wpermitFalls0,
      by decide +kernel⟩,
    ⟨wpermitFalls1,
      by decide +kernel⟩,
    ⟨wpermitFalls2,
      by decide +kernel⟩,
    ⟨wpermitFalls3,
      by decide +kernel⟩,
    ⟨wpermitFalls4,
      by decide +kernel⟩⟩

/-- States and operands that meet the hypotheses of each clause of `Obligations.SupplyEdges`. -/
theorem witness_supply_edges :
    (∃ (s : State),
      s.alarmInUse = true ∧
      s.ctl.mode ≠ .stop)
    ∧ (∃ (s : State),
      s.alarmInUse = true ∧
      s.ctl.mode = .stop)
    ∧ (∃ (s : State),
      s.alarmInUse = true ∧
      s.ctl.mode = .stop) :=
  ⟨⟨wsupplyEdges0,
      by decide +kernel⟩,
    ⟨wsupplyEdges1,
      by decide +kernel⟩,
    ⟨wsupplyEdges2,
      by decide +kernel⟩⟩

/-- States and operands that meet the hypotheses of each clause of `Obligations.ModeMoves`. -/
theorem witness_mode_moves :
    (∃ (c : Instr),
      c.isReset = false) :=
  ⟨(.supplyOkFall : Instr),
      by decide +kernel⟩

/-- States and operands that meet the hypotheses of each clause of `Obligations.AcknowledgeMoves`. -/
theorem witness_acknowledge_moves :
    (∃ (s : State),
      s.strapFault = false)
    ∧ (∃ (s : State),
      s.strapFault = true)
    ∧ (∃ (s : State) (h : Header),
      s.isAsked h ∧
      s.hasRoom 1) :=
  ⟨⟨wacknowledgeMoves0,
      by decide +kernel⟩,
    ⟨wacknowledgeMoves1,
      by decide +kernel⟩,
    ⟨wacknowledgeMoves2, (⟨6, 14, 1⟩ : Header),
      by decide +kernel⟩⟩

/-- States and operands that meet the hypotheses of each clause of `Obligations.RaiseLatches`. -/
theorem witness_raise_latches :
    (∃ (s : State) (c : AlarmCode),
      s.raises c ∧
      c ≠ .transferFail ∧
      s.RunIsFree ∧
      s.hasCause .localTrip = !s.alarm.tripsNormal)
    ∧ (∃ (s : State) (c : AlarmCode),
      (s.alarmInUse = false ∨ s.masked c = true))
    ∧ (∃ (s : State) (c : AlarmCode) (n : Station),
      s.raises c ∧
      c ≠ .transferFail ∧
      c.severity = .trip ∧
      s.ctl.mode = .hold ∧
      s.self = some n ∧
      s.hasRoom 2)
    ∧ (∃ (s : State) (c : AlarmCode) (n : Station),
      s.raises c ∧
      c ≠ .transferFail ∧
      (c.severity ≠ .stop ∨ s.ctl.mode = .stop
      ∨ (s.walk.state.live = false ∧ (s.swingLead = false ∨ s.role.swing ≠ .withdrawing))) ∧
      s.inService = true ∧
      s.self = some n ∧
      s.capture.writers ≤ 1) :=
  ⟨⟨wraiseLatches0, (.fieldLoss : AlarmCode),
      by unfold State.RunIsFree; decide +kernel⟩,
    ⟨wraiseLatches1, (.fieldLoss : AlarmCode),
      by decide +kernel⟩,
    ⟨wraiseLatches2, (.fieldLoss : AlarmCode), (0 : Station),
      by decide +kernel⟩,
    ⟨wraiseLatches3, (.fieldLoss : AlarmCode), (wraiseLatches3.self.getD 0),
      by decide +kernel⟩⟩

/-- States and operands that meet the hypotheses of each clause of `Obligations.ReturnMoves`. -/
theorem witness_return_moves :
    (∃ (s : State) (c : AlarmCode),
      s.raises c) :=
  ⟨wreturnMoves0, (.fieldLoss : AlarmCode),
      by decide +kernel⟩

/-- States and operands that meet the hypotheses of each clause of `Obligations.NoticeTaken`. -/
theorem witness_notice_taken :
    (∃ (s : State) (n : Station),
      s.hears n ∧
      s.alarm.list.length < 32 ∧
      s.hasCause .peerStop = (s.peers.someMark fun e => e.stopMark))
    ∧ (∃ (s : State) (n : Station) (cls : BitVec 3) (c : AlarmCode) (x : Byte),
      s.hears n ∧
      (cls = 0 ∨ cls = 2) ∧
      x.toNat ≠ (match c.severity with | .warn => 1 | .trip => 2 | .stop => 3))
    ∧ (∃ (s : State) (n : Station) (cls : BitVec 3) (a : Byte),
      s.hears n ∧
      (cls = 0 ∨ cls = 2) ∧
      (a.toNat < 1 ∨ 27 < a.toNat)) :=
  ⟨⟨wnoticeTaken0, (1 : Station),
      by decide +kernel⟩,
    ⟨wnoticeTaken1, (1 : Station), (2 : BitVec 3), (.twoBlock : AlarmCode), (3 : Byte),
      by decide +kernel⟩,
    ⟨wnoticeTaken2, (1 : Station), (2 : BitVec 3), (28 : Byte),
      by decide +kernel⟩⟩

/-- States and operands that meet the hypotheses of each clause of `Obligations.StartAndContest`. -/
theorem witness_start_and_contest :
    (∃ (s : State) (q : Queued) (l : List Queued),
      s.onLink = true ∧
      s.link.quietOut = none ∧
      s.link.sending = none ∧
      s.link.queue = q :: l)
    ∧ (∃ (s : State) (x : Transmission),
      s.link.sending = some x) :=
  ⟨⟨wstartAndContest0, (wstartAndContest0.link.queue.headD ⟨.keepNotice 2 4, 0, false, false⟩), (wstartAndContest0.link.queue.tail : List Queued),
      by decide +kernel⟩,
    ⟨wstartAndContest1, (⟨.keepNotice 2 4, []⟩ : Transmission),
      by decide +kernel⟩⟩

/-- States and operands that meet the hypotheses of each clause of `Obligations.FailureAndLinkFault`. -/
theorem witness_failure_and_link_fault :
    (∃ (s : State) (x : Transmission),
      s.link.sending = some x ∧
      s.link.failCount < 15)
    ∧ (∃ (s : State) (x : Transmission),
      s.link.sending = some x ∧
      s.link.failCount = 15 ∧
      s.onLink = true ∧
      s.alarmInUse = true ∧
      s.RunIsFree ∧
      s.hasCause .localTrip = !s.alarm.tripsNormal) :=
  ⟨⟨wfailureAndLinkFault0, (⟨.keepNotice 2 4, []⟩ : Transmission),
      by decide +kernel⟩,
    ⟨wfailureAndLinkFault1, (⟨.serviceReply 1 0 [], []⟩ : Transmission),
      by unfold State.RunIsFree; decide +kernel⟩⟩

/-- States and operands that meet the hypotheses of each clause of `Obligations.CompletionTakesTheFrame`. -/
theorem witness_completion_takes_the_frame :
    (∃ (s : State) (x : Transmission) (q : Queued) (l : List Queued),
      s.link.sending = some x ∧
      s.link.queue = q :: l ∧
      q.inTx = true ∧
      (∀ y ∈ l, y.inTx = false) ∧
      q.replaced = false)
    ∧ (∃ (s : State) (x : Transmission) (q : Queued) (l : List Queued),
      s.link.sending = some x ∧
      s.link.queue = q :: l ∧
      q.inTx = true ∧
      (∀ y ∈ l, y.inTx = false) ∧
      q.replaced = true)
    ∧ (∃ (s : State) (seq : BitVec 4) (role : BitVec 3) (f : ReportFields) (bits : List Bool),
      s.link.sending = some ⟨.stateReport seq role f, bits⟩ ∧
      s.hasCause .linkFault = true ∧
      s.alarmInUse = true)
    ∧ (∃ (s : State) (n : Byte) (k : ProposalKind) (bits : List Bool),
      s.link.sending = some ⟨.propose n k, bits⟩ ∧
      s.consent.own.status = .pending ∧
      s.consent.own.number = n ∧
      s.consent.own.windowStart = none)
    ∧ (∃ (s : State) (x : Transmission),
      s.link.sending = some x ∧
      x.frame.holdsSlot = true) :=
  ⟨⟨wcompletionTakesTheFrame0, (wcompletionTakesTheFrame0.link.sending.getD ⟨.keepNotice 2 4, []⟩), (wcompletionTakesTheFrame0.link.queue.headD ⟨.keepNotice 2 4, 0, false, false⟩), (wcompletionTakesTheFrame0.link.queue.tail : List Queued),
      by decide +kernel⟩,
    ⟨wcompletionTakesTheFrame1, (wcompletionTakesTheFrame1.link.sending.getD ⟨.keepNotice 2 4, []⟩), (wcompletionTakesTheFrame1.link.queue.headD ⟨.keepNotice 2 4, 0, false, false⟩), (wcompletionTakesTheFrame1.link.queue.tail : List Queued),
      by decide +kernel⟩,
    ⟨wcompletionTakesTheFrame2, (5 : BitVec 4), (1 : BitVec 3), (plainReport : ReportFields), ([] : List Bool),
      by decide +kernel⟩,
    ⟨wcompletionTakesTheFrame3, (3 : Byte), (.swingRelease : ProposalKind), ([] : List Bool),
      by decide +kernel⟩,
    ⟨wcompletionTakesTheFrame4, (⟨.serviceReply 4 0 [], []⟩ : Transmission),
      by decide +kernel⟩⟩

/-- States and operands that meet the hypotheses of each clause of `Obligations.QuietOut`. -/
theorem witness_quiet_out :
    (∃ (s : State),
      s.onLink = true ∧
      s.link.quietOut.isSome = true)
    ∧ (∃ (s : State) (a : Time) (n : Station),
      s.onLink = true ∧
      s.self = some n ∧
      s.link.quietOut = some a ∧
      4 * (if s.configured then s.prm.reportInterval else 50) ≤ s.since a ∧
      s.link.queue.length ≤ 6)
    ∧ (∃ (s : State),
      s.link.quietOut.isSome = true) :=
  ⟨⟨wquietOut0,
      by decide +kernel⟩,
    ⟨wquietOut1, ((47000 : BitVec 32) : Time), (0 : Station),
      by decide +kernel⟩,
    ⟨wquietOut2,
      by decide +kernel⟩⟩

/-- States and operands that meet the hypotheses of each clause of `Obligations.DiscardedFrames`. -/
theorem witness_discarded_frames :
    (∃ (s : State) (length : BitVec 5),
      s.receives = true ∧
      24 < length.toNat)
    ∧ (∃ (s : State) (f : Frame) (check : BitVec 16) (endField : BitVec 4),
      s.receives = true ∧
      (check ≠ frameCheck f ∨ endField ≠ 15))
    ∧ (∃ (s : State) (f : Frame),
      s.receives = true ∧
      s.offends f = false ∧
      frameFits f = false)
    ∧ (∃ (s : State) (h : Header) (payload : List Byte),
      s.receives = true ∧
      s.offends (headerFrame h 7 payload) = false ∧
      frameFits (headerFrame h 7 payload) = true)
    ∧ (∃ (s : State),
      s.receives = false) :=
  ⟨⟨wdiscardedFrames0, (25 : BitVec 5),
      by decide +kernel⟩,
    ⟨wdiscardedFrames1, (⟨4, 3, 9, 15, []⟩ : Frame), (0 : BitVec 16), (14 : BitVec 4),
      by decide +kernel⟩,
    ⟨wdiscardedFrames2, (⟨4, 3, 9, 15, []⟩ : Frame),
      by decide +kernel⟩,
    ⟨wdiscardedFrames3, (⟨6, 3, 14⟩ : Header), ([1, 0] : List Byte),
      by decide +kernel⟩,
    ⟨wdiscardedFrames4,
      by decide +kernel⟩⟩

/-- States and operands that meet the hypotheses of each clause of `Obligations.AddressClash`. -/
theorem witness_address_clash :
    (∃ (s : State) (f : Frame) (n : Station),
      s.receives = true ∧
      s.self = some n ∧
      s.alarmInUse = true ∧
      (f.src = 0 ∨ f.src = stationAddress n) ∧
      s.link.clashTimer = none)
    ∧ (∃ (s : State) (f : Frame) (n : Station) (a : Time),
      s.receives = true ∧
      s.self = some n ∧
      (f.src = 0 ∨ f.src = stationAddress n) ∧
      s.link.clashTimer = some a)
    ∧ (∃ (s : State) (a : Time),
      s.link.clashTimer = some a ∧
      1000 ≤ s.since a ∧
      s.alarmInUse = true ∧
      s.ctl.mode = .stop) :=
  ⟨⟨waddressClash0, (⟨4, 1, 1, 15, []⟩ : Frame), (0 : Station),
      by decide +kernel⟩,
    ⟨waddressClash1, (⟨4, 1, 1, 15, []⟩ : Frame), (0 : Station), ((47000 : BitVec 32) : Time),
      by decide +kernel⟩,
    ⟨waddressClash2, ((49000 : BitVec 32) : Time),
      by decide +kernel⟩⟩

/-- States and operands that meet the hypotheses of each clause of `Obligations.FullQueue`. -/
theorem witness_full_queue :
    (∃ (s : State) (f : OutFrame) (front : List Queued) (q : Queued) (back : List Queued),
      s.onLink = true ∧
      s.link.quietOut = none ∧
      s.link.queue.length = 8 ∧
      (∀ x ∈ s.link.queue, x.frame.sameObject f = false) ∧
      (f.isReport = false ∨ ∀ x ∈ s.link.queue, x.frame.isReport = false) ∧
      s.link.queue = front ++ q :: back ∧
      q.inTx = false ∧
      f.cls < q.cls ∧
      (∀ x ∈ s.link.queue, x.inTx = false → x.cls ≤ q.cls) ∧
      (∀ x ∈ back, x.inTx = true ∨ x.cls ≠ q.cls))
    ∧ (∃ (s : State) (f : OutFrame),
      s.onLink = true ∧
      s.link.quietOut = none ∧
      s.link.queue.length = 8 ∧
      (∀ x ∈ s.link.queue, x.frame.sameObject f = false) ∧
      (f.isReport = false ∨ ∀ x ∈ s.link.queue, x.frame.isReport = false) ∧
      (∀ x ∈ s.link.queue, x.inTx = false → x.cls ≤ f.cls)) :=
  ⟨⟨wfullQueue0, (.propose 3 .walkStart : OutFrame), (wfullQueue0.link.queue.dropLast : List Queued), (wfullQueue0.link.queue.getLastD ⟨.keepNotice 2 4, 0, false, false⟩), ([] : List Queued),
      by decide +kernel⟩,
    ⟨wfullQueue1, (.serviceReply 2 0 [] : OutFrame),
      by decide +kernel⟩⟩

/-- States and operands that meet the hypotheses of each clause of `Obligations.SentFramesFit`. -/
theorem witness_sent_frames_fit :
    (∃ (f : OutFrame),
      f.payload.length ≤ 24) :=
  ⟨(.keepNotice 2 4 : OutFrame),
      by decide +kernel⟩

/-- States and operands that meet the hypotheses of each clause of `Obligations.ReportTaken`. -/
theorem witness_report_taken :
    (∃ (s : State) (n : Station) (seq : BitVec 4) (role : BitVec 3) (f : ReportFields),
      s.loaded = true ∧
      s.hears n ∧
      reportUsable role f = true ∧
      ¬((s.entry n).status = .fresh ∧ seq = (s.entry n).lastSeq))
    ∧ (∃ (s : State) (n : Station) (me : Station) (seq : BitVec 4) (role : BitVec 3) (f : ReportFields),
      s.loaded = true ∧
      s.self = some me ∧
      n ≠ me ∧
      reportUsable role f = true ∧
      ¬((s.entry n).status = .fresh ∧ seq = (s.entry n).lastSeq) ∧
      s.consent.own.status = .pending ∧
      s.consent.own.windowStart.isSome = true ∧
      (s.entry n).expected.isSome = true ∧
      n ∈ allStations)
    ∧ (∃ (s : State) (n : Station) (seq : BitVec 4) (role : BitVec 3) (f : ReportFields),
      s.loaded = true ∧
      s.hears n ∧
      reportUsable role f = true ∧
      ¬((s.entry n).status = .fresh ∧ seq = (s.entry n).lastSeq) ∧
      (s.is .hoist = true ∨ s.is .swing = true) ∧
      s.walkStation = some n)
    ∧ (∃ (s : State) (n : Station) (seq : BitVec 4) (role : BitVec 3) (f : ReportFields),
      s.loaded = true ∧
      s.hears n ∧
      reportUsable role f = true ∧
      ¬((s.entry n).status = .fresh ∧ seq = (s.entry n).lastSeq) ∧
      s.alarmInUse = true ∧
      s.RunIsFree ∧
      s.hasCause .localTrip = !s.alarm.tripsNormal)
    ∧ (∃ (s : State) (n : Station) (seq : BitVec 4) (role : BitVec 3) (f : ReportFields),
      s.loaded = true ∧
      s.hears n ∧
      reportUsable role f = true ∧
      ¬((s.entry n).status = .fresh ∧ seq = (s.entry n).lastSeq))
    ∧ (∃ (s : State) (n : Station) (seq : BitVec 4) (role : BitVec 3) (f : ReportFields),
      s.loaded = true ∧
      s.hears n ∧
      reportUsable role f = true ∧
      ¬((s.entry n).status = .fresh ∧ seq = (s.entry n).lastSeq) ∧
      s.is .walk = true ∧
      s.inService = true ∧
      (s.entry n).expected = some .drag ∧
      s.alarmInUse = true)
    ∧ (∃ (s : State) (n : Station) (seq : BitVec 4) (role : BitVec 3) (f : ReportFields),
      s.loaded = true ∧
      s.hears n ∧
      reportUsable role f = true ∧
      ¬((s.entry n).status = .fresh ∧ seq = (s.entry n).lastSeq) ∧
      s.is .drag = true ∧
      s.walkStation = some n ∧
      s.alarmInUse = true) :=
  ⟨⟨wreportTaken0, (2 : Station), (5 : BitVec 4), (2 : BitVec 3), (plainReport : ReportFields),
      by decide +kernel⟩,
    ⟨wreportTaken1, (2 : Station), (0 : Station), (5 : BitVec 4), (2 : BitVec 3), (plainReport : ReportFields),
      by decide +kernel⟩,
    ⟨wreportTaken2, (wreportTaken2.walkStation.getD 6), (5 : BitVec 4), (4 : BitVec 3), (plainReport : ReportFields),
      by decide +kernel⟩,
    ⟨wreportTaken3, (2 : Station), (5 : BitVec 4), (2 : BitVec 3), (plainReport : ReportFields),
      by unfold State.RunIsFree; decide +kernel⟩,
    ⟨wreportTaken4, (2 : Station), (5 : BitVec 4), (2 : BitVec 3), (plainReport : ReportFields),
      by decide +kernel⟩,
    ⟨wreportTaken5, (2 : Station), (5 : BitVec 4), (2 : BitVec 3), (plainReport : ReportFields),
      by decide +kernel⟩,
    ⟨wreportTaken6, (wreportTaken6.walkStation.getD 6), (5 : BitVec 4), (4 : BitVec 3), (plainReport : ReportFields),
      by decide +kernel⟩⟩

/-- States and operands that meet the hypotheses of each clause of `Obligations.ReportDiscarded`. -/
theorem witness_report_discarded :
    (∃ (s : State) (n : Station) (role : BitVec 3) (f : ReportFields),
      s.loaded = true ∧
      s.hears n ∧
      (f.mode = 0 ∨ role = 0 ∨ 4 < role.toNat ∨ 7 < f.derate.toNat ∨ 3 < f.supply.toNat
      ∨ 2 < f.propKind.toNat ∨ 3 < f.propStatus.toNat ∨ (f.supply ≠ 0 ∧ role ≠ 2)
      ∨ ((f.refLeft ≠ 0 ∨ f.refRight ≠ 0) ∧ role ≠ 4)))
    ∧ (∃ (s : State) (n : Station) (role : BitVec 3) (f : ReportFields),
      s.loaded = true ∧
      s.hears n ∧
      reportUsable role f = true ∧
      (s.entry n).status = .fresh)
    ∧ (∃ (s : State) (n : Station) (seq : BitVec 4) (role : BitVec 3) (f : ReportFields),
      s.loaded = true ∧
      s.hears n ∧
      (¬(f.mode = 0 ∨ role = 0 ∨ 4 < role.toNat ∨ 7 < f.derate.toNat ∨ 3 < f.supply.toNat
      ∨ 2 < f.propKind.toNat ∨ 3 < f.propStatus.toNat ∨ (f.supply ≠ 0 ∧ role ≠ 2)
      ∨ ((f.refLeft ≠ 0 ∨ f.refRight ≠ 0) ∧ role ≠ 4))) ∧
      ((s.entry n).status ≠ .fresh ∨ seq ≠ (s.entry n).lastSeq)) :=
  ⟨⟨wreportDiscarded0, (2 : Station), (7 : BitVec 3), (plainReport : ReportFields),
      by decide +kernel⟩,
    ⟨wreportDiscarded1, (2 : Station), (2 : BitVec 3), (plainReport : ReportFields),
      by decide +kernel⟩,
    ⟨wreportDiscarded2, (2 : Station), (5 : BitVec 4), (2 : BitVec 3), (plainReport : ReportFields),
      by decide +kernel⟩⟩

/-- States and operands that meet the hypotheses of each clause of `Obligations.EntriesAge`. -/
theorem witness_entries_age :
    (∃ (s : State) (n : Station),
      s.loaded = true ∧
      s.self ≠ some n ∧
      (s.entry n).status = .fresh ∧
      s.prm.staleLimit < s.age n ∧
      s.alarmInUse = true)
    ∧ (∃ (s : State) (n : Station),
      s.loaded = true ∧
      s.self ≠ some n ∧
      (s.entry n).status = .stale ∧
      s.prm.lostLimit < s.age n ∧
      s.alarmInUse = true ∧
      s.RunIsFree ∧
      s.hasCause .localTrip = !s.alarm.tripsNormal)
    ∧ (∃ (s : State) (n : Station),
      (s.self = some n ∨ (s.entry n).status ≠ .fresh))
    ∧ (∃ (s : State) (n : Station),
      (s.self = some n ∨ (s.entry n).status ≠ .stale)) :=
  ⟨⟨wentriesAge0, (2 : Station),
      by decide +kernel⟩,
    ⟨wentriesAge1, (2 : Station),
      by unfold State.RunIsFree; decide +kernel⟩,
    ⟨wentriesAge2, (0 : Station),
      by decide +kernel⟩,
    ⟨wentriesAge3, (0 : Station),
      by decide +kernel⟩⟩

/-- States and operands that meet the hypotheses of each clause of `Obligations.ProposeTaken`. -/
theorem witness_propose_taken :
    (∃ (s : State) (p : Station) (m : Byte),
      s.hears p ∧
      s.inService = true ∧
      m ≠ 0 ∧
      s.consent.own.status = .idle ∧
      s.consent.held = none ∧
      (s.entry p).status ≠ .absent ∧
      s.link.quietOut = none ∧
      s.link.queue = [])
    ∧ (∃ (s : State) (p : Station) (m : Byte),
      s.hears p ∧
      s.inService = true ∧
      s.ctl.mode ≠ .stop ∧
      m ≠ 0 ∧
      s.consent.own.status = .idle ∧
      s.consent.held = none ∧
      (s.entry p).status ≠ .absent ∧
      s.link.quietOut = none ∧
      s.link.queue = [])
    ∧ (∃ (s : State) (p : Station) (me : Station) (m : Byte) (j : ProposalKind),
      s.hears p ∧
      s.self = some me ∧
      p < me ∧
      s.inService = true ∧
      m ≠ 0 ∧
      s.consent.own.status = .pending ∧
      s.consent.own.kind = some j ∧
      (s.entry p).status ≠ .absent ∧
      s.raises .consentRefused)
    ∧ (∃ (s : State) (p : Station) (me : Station) (m : Byte),
      s.hears p ∧
      s.self = some me ∧
      me < p ∧
      s.inService = true ∧
      m ≠ 0 ∧
      s.consent.own.status = .pending ∧
      s.link.quietOut = none ∧
      s.link.queue = [] ∧
      s.consent.held = none)
    ∧ (∃ (s : State) (p : Station) (m : Byte),
      s.hears p ∧
      s.unconfigured = true ∧
      m ≠ 0 ∧
      s.link.quietOut = none ∧
      s.link.queue = [])
    ∧ (∃ (s : State) (p : Station) (m : Byte) (k : Byte),
      s.hears p ∧
      (m = 0 ∨ k.toNat < 1 ∨ 2 < k.toNat)) :=
  ⟨⟨wproposeTaken0, (2 : Station), (7 : Byte),
      by decide +kernel⟩,
    ⟨wproposeTaken1, ((2 : Station) : Station), (3 : Byte),
      by decide +kernel⟩,
    ⟨wproposeTaken2, (2 : Station), (6 : Station), (7 : Byte), (.swingRelease : ProposalKind),
      by decide +kernel⟩,
    ⟨wproposeTaken3, (2 : Station), (0 : Station), (7 : Byte),
      by decide +kernel⟩,
    ⟨wproposeTaken4, (2 : Station), (7 : Byte),
      by decide +kernel⟩,
    ⟨wproposeTaken5, (2 : Station), (1 : Byte), (3 : Byte),
      by decide +kernel⟩⟩

/-- States and operands that meet the hypotheses of each clause of `Obligations.ObjectionMarks`. -/
theorem witness_objection_marks :
    (∃ (s : State) (src : Station) (me : Station),
      s.hears src ∧
      s.self = some me ∧
      s.consent.own.status = .pending ∧
      s.consent.own.number ≠ 0) :=
  ⟨wobjectionMarks0, (2 : Station), (0 : Station),
      by decide +kernel⟩

/-- States and operands that meet the hypotheses of each clause of `Obligations.ObjectWithdraws`. -/
theorem witness_object_withdraws :
    (∃ (s : State) (src : Station) (me : Station),
      s.hears src ∧
      s.self = some me ∧
      s.swingLead = true ∧
      s.consent.own.status = .active ∧
      s.consent.own.kind = some .swingRelease ∧
      s.consent.own.number ≠ 0 ∧
      s.role.swing = .free)
    ∧ (∃ (s : State) (src : Station) (me : Station),
      s.hears src ∧
      s.self = some me ∧
      s.is .walk = true ∧
      s.consent.own.status = .active ∧
      s.consent.own.kind = some .walkStart ∧
      s.consent.own.number ≠ 0 ∧
      s.walk.state = .stepping)
    ∧ (∃ (s : State) (src : Station) (me : Station) (m : Byte),
      s.hears src ∧
      s.self = some me ∧
      m ≠ 0 ∧
      (s.consent.own.status = .idle ∨ m ≠ s.consent.own.number))
    ∧ (∃ (s : State) (src : Station) (p : Station) (m : Byte),
      s.hears src ∧
      s.self ≠ some p ∧
      m ≠ 0)
    ∧ (∃ (s : State) (src : Station) (a : Byte) (m : Byte) (r : Byte),
      s.hears src ∧
      (a.toNat < 1 ∨ 8 < a.toNat ∨ m = 0 ∨ r.toNat < 1 ∨ 8 < r.toNat)) :=
  ⟨⟨wobjectWithdraws0, (2 : Station), (0 : Station),
      by decide +kernel⟩,
    ⟨wobjectWithdraws1, (2 : Station), (0 : Station),
      by decide +kernel⟩,
    ⟨wobjectWithdraws2, (2 : Station), (0 : Station), (77 : Byte),
      by decide +kernel⟩,
    ⟨wobjectWithdraws3, (2 : Station), (4 : Station), (77 : Byte),
      by decide +kernel⟩,
    ⟨wobjectWithdraws4, (2 : Station), (9 : Byte), (1 : Byte), (1 : Byte),
      by decide +kernel⟩⟩

/-- States and operands that meet the hypotheses of each clause of `Obligations.SendLimitCancels`. -/
theorem witness_send_limit_cancels :
    (∃ (s : State) (k : ProposalKind) (a : Time),
      s.consent.own.status = .pending ∧
      s.consent.own.kind = some k ∧
      s.consent.own.sendLimit = some a ∧
      s.prm.objectionWindow ≤ s.since a ∧
      s.alarmInUse = true) :=
  ⟨wsendLimitCancels0, (.swingRelease : ProposalKind), ((47000 : BitVec 32) : Time),
      by decide +kernel⟩

/-- States and operands that meet the hypotheses of each clause of `Obligations.WindowJudged`. -/
theorem witness_window_judged :
    (∃ (s : State) (k : ProposalKind) (a : Time) (x : Station) (r : Reason),
      s.consent.own.status = .pending ∧
      s.consent.own.kind = some k ∧
      s.consent.own.windowTimer = some a ∧
      s.prm.objectionWindow ≤ s.since a ∧
      s.consent.own.objected = some (x, r))
    ∧ (∃ (s : State) (k : ProposalKind) (a : Time) (x : Station),
      s.consent.own.status = .pending ∧
      s.consent.own.kind = some k ∧
      s.consent.own.windowTimer = some a ∧
      s.prm.objectionWindow ≤ s.since a ∧
      s.consent.own.objected = none ∧
      x ∈ s.rosterOthers ∧
      (s.entry x).status ≠ .fresh ∧
      (∀ y ∈ s.rosterOthers, y < x → (s.entry y).status = .fresh))
    ∧ (∃ (s : State) (k : ProposalKind) (a : Time) (x : Station),
      s.consent.own.status = .pending ∧
      s.consent.own.kind = some k ∧
      s.consent.own.windowTimer = some a ∧
      s.prm.objectionWindow ≤ s.since a ∧
      s.consent.own.objected = none ∧
      (∀ y ∈ s.rosterOthers, (s.entry y).status = .fresh) ∧
      x ∈ s.rosterOthers ∧
      s.consent.own.echoSeen[x] = false ∧
      (∀ y ∈ s.rosterOthers, y < x → s.consent.own.echoSeen[y] = true))
    ∧ (∃ (s : State) (k : ProposalKind) (a : Time),
      s.consent.own.status = .pending ∧
      s.consent.own.kind = some k ∧
      s.consent.own.windowTimer = some a ∧
      s.prm.objectionWindow ≤ s.since a ∧
      s.consent.own.objected = none ∧
      (∀ y ∈ s.rosterOthers, (s.entry y).status = .fresh ∧ s.consent.own.echoSeen[y] = true) ∧
      (s.ctl.mode ≠ .run ∨ (k = .swingRelease ∧ s.out.brakeSet = false)
      ∨ (k = .walkStart ∧ s.meas.walkCmd.value = false)))
    ∧ (∃ (s : State) (k : ProposalKind) (a : Time),
      s.consent.own.status = .pending ∧
      s.consent.own.kind = some k ∧
      s.consent.own.windowTimer = some a ∧
      s.prm.objectionWindow ≤ s.since a ∧
      s.consent.own.objected = none ∧
      (∀ y ∈ s.rosterOthers, (s.entry y).status = .fresh ∧ s.consent.own.echoSeen[y] = true) ∧
      s.ctl.mode = .run ∧
      (k = .swingRelease → s.out.brakeSet = true) ∧
      (k = .walkStart → s.meas.walkCmd.value = true))
    ∧ (∃ (c : Instr) (s : State) (t : State),
      exec c s = .next t ∧
      t.consent.own.status = .active ∧
      s.consent.own.status ≠ .active) :=
  ⟨⟨wwindowJudged0, (.swingRelease : ProposalKind), ((47000 : BitVec 32) : Time), (1 : Station), (.walking : Reason),
      by decide +kernel⟩,
    ⟨wwindowJudged1, (.swingRelease : ProposalKind), ((47000 : BitVec 32) : Time), ((wwindowJudged1.rosterOthers.find? fun y => (wwindowJudged1.entry y).status != .fresh).getD 7),
      by decide +kernel⟩,
    ⟨wwindowJudged2, (.swingRelease : ProposalKind), ((47000 : BitVec 32) : Time), (2 : Station),
      by decide +kernel⟩,
    ⟨wwindowJudged3, (.swingRelease : ProposalKind), ((47000 : BitVec 32) : Time),
      by decide +kernel⟩,
    ⟨wwindowJudged4, (.swingRelease : ProposalKind), ((47000 : BitVec 32) : Time),
      by decide +kernel⟩,
    ⟨(.windowExpiry : Instr), wwindowJudged5, (nx (exec (.windowExpiry) wwindowJudged5) : State),
      rfl,
      by decide +kernel⟩⟩

/-- States and operands that meet the hypotheses of each clause of `Obligations.PulseEdges`. -/
theorem witness_pulse_edges :
    (∃ (s : State),
      s.loaded = true ∧
      (s.is .hoist = true ∨ s.is .drag = true))
    ∧ (∃ (s : State),
      s.loaded = true ∧
      (s.is .swing = true ∨ s.is .walk = true) ∧
      0 < s.prm.countsPerTurn ∧
      s.meas.turnA < s.prm.countsPerTurn)
    ∧ (∃ (s : State),
      s.loaded = true ∧
      (s.is .walk = true → 0 < s.prm.countsPerTurn ∧ s.meas.turnB < s.prm.countsPerTurn))
    ∧ (∃ (s : State),
      s.loaded = true)
    ∧ (∃ (s : State),
      s.loaded = false) :=
  ⟨⟨wpulseEdges0,
      by decide +kernel⟩,
    ⟨wpulseEdges1,
      by decide +kernel⟩,
    ⟨wpulseEdges2,
      by decide +kernel⟩,
    ⟨wpulseEdges3,
      by decide +kernel⟩,
    ⟨wpulseEdges4,
      by decide +kernel⟩⟩

/-- States and operands that meet the hypotheses of each clause of `Obligations.ContactEvents`. -/
theorem witness_contact_events :
    (∃ (s : State),
      s.loaded = true ∧
      s.is .hoist = true)
    ∧ (∃ (s : State),
      s.loaded = true ∧
      s.is .drag = true)
    ∧ (∃ (s : State),
      s.loaded = true ∧
      s.is .hoist = true ∧
      s.raises .twoBlock)
    ∧ (∃ (s : State),
      s.is .hoist = false)
    ∧ (∃ (s : State),
      s.loaded = true)
    ∧ (∃ (s : State),
      s.loaded = true) :=
  ⟨⟨wcontactEvents0,
      by decide +kernel⟩,
    ⟨wcontactEvents1,
      by decide +kernel⟩,
    ⟨wcontactEvents2,
      by decide +kernel⟩,
    ⟨wcontactEvents3,
      by decide +kernel⟩,
    ⟨wcontactEvents4,
      by decide +kernel⟩,
    ⟨wcontactEvents5,
      by decide +kernel⟩⟩

/-- States and operands that meet the hypotheses of each clause of `Obligations.MeasuredValues`. -/
theorem witness_measured_values :
    (∃ (s : State) (a : Time),
      s.loaded = true ∧
      s.meas.regTimer = some a ∧
      s.prm.regInterval ≤ s.since a ∧
      s.is .walk = false)
    ∧ (∃ (s : State) (a : Time),
      s.loaded = true ∧
      s.meas.regTimer = some a ∧
      s.prm.regInterval ≤ s.since a ∧
      s.is .walk = true)
    ∧ (∃ (s : State) (a : Time),
      s.loaded = true ∧
      s.meas.regTimer = some a ∧
      s.prm.regInterval ≤ s.since a ∧
      (s.is .hoist = true ∨ s.is .drag = true)) :=
  ⟨⟨wmeasuredValues0, ((49990 : BitVec 32) : Time),
      by decide +kernel⟩,
    ⟨wmeasuredValues1, ((49990 : BitVec 32) : Time),
      by decide +kernel⟩,
    ⟨wmeasuredValues2, ((49990 : BitVec 32) : Time),
      by decide +kernel⟩⟩

/-- States and operands that meet the hypotheses of each clause of `Obligations.RegulatorStep`. -/
theorem witness_regulator_step :
    (∃ (s : State) (a : Time),
      s.loaded = true ∧
      s.meas.regTimer = some a ∧
      s.prm.regInterval ≤ s.since a ∧
      s.ctl.mode = .hold ∧
      (s.is .hoist = true ∨ (s.is .drag = true ∧ s.role.supply = .normal)
      ∨ (s.is .swing = true ∧ s.follows = false)))
    ∧ (∃ (s : State) (a : Time),
      s.loaded = true ∧
      s.meas.regTimer = some a ∧
      s.prm.regInterval ≤ s.since a ∧
      s.ctl.mode = .run ∧
      (s.is .hoist = true ∨ (s.is .drag = true ∧ s.role.supply = .normal)) ∧
      s.meas.limit.value = true)
    ∧ (∃ (eb : Int),
      0 ≤ eb)
    ∧ (∃ (s : State) (a : Time),
      s.loaded = true ∧
      s.meas.regTimer = some a ∧
      s.prm.regInterval ≤ s.since a ∧
      (s.ctl.mode = .hold ∨ s.ctl.mode = .run) ∧
      s.is .hoist = true ∧
      s.role.supply = .normal ∧
      s.alarmInUse = true ∧
      s.RunIsFree ∧
      s.hasCause .localTrip = !s.alarm.tripsNormal)
    ∧ (∃ (s : State) (a : Time),
      s.loaded = true ∧
      s.meas.regTimer = some a ∧
      s.prm.regInterval ≤ s.since a ∧
      (s.ctl.mode = .hold ∨ s.ctl.mode = .run) ∧
      s.is .drag = true ∧
      s.role.supply = .normal ∧
      s.alarmInUse = true ∧
      s.RunIsFree ∧
      s.hasCause .localTrip = !s.alarm.tripsNormal)
    ∧ (∃ (s : State) (a : Time),
      s.loaded = true ∧
      s.meas.regTimer = some a ∧
      s.prm.regInterval ≤ s.since a ∧
      (s.ctl.mode = .hold ∨ s.ctl.mode = .run) ∧
      s.is .drag = true ∧
      s.role.supply ≠ .normal ∧
      s.alarmInUse = true ∧
      s.RunIsFree ∧
      s.hasCause .localTrip = !s.alarm.tripsNormal)
    ∧ (∃ (s : State) (a : Time),
      s.loaded = true ∧
      s.meas.regTimer = some a ∧
      s.prm.regInterval ≤ s.since a ∧
      (s.ctl.mode = .hold ∨ s.ctl.mode = .run) ∧
      s.swingLead = true ∧
      s.role.supply = .normal ∧
      s.alarmInUse = true ∧
      s.RunIsFree ∧
      s.hasCause .localTrip = !s.alarm.tripsNormal)
    ∧ (∃ (s : State) (a : Time) (n : Station),
      s.loaded = true ∧
      s.meas.regTimer = some a ∧
      s.prm.regInterval ≤ s.since a ∧
      (s.ctl.mode = .hold ∨ s.ctl.mode = .run) ∧
      s.is .swing = true ∧
      s.follows = true ∧
      s.role.supply = .normal ∧
      s.leadStation = some n ∧
      s.alarmInUse = true ∧
      s.RunIsFree ∧
      s.hasCause .localTrip = !s.alarm.tripsNormal) :=
  ⟨⟨wregulatorStep0, ((49990 : BitVec 32) : Time),
      by decide +kernel⟩,
    ⟨wregulatorStep1, ((49990 : BitVec 32) : Time),
      by decide +kernel⟩,
    ⟨(5 : Int),
      by decide +kernel⟩,
    ⟨wregulatorStep5, ((49990 : BitVec 32) : Time),
      by unfold State.RunIsFree; decide +kernel⟩,
    ⟨wregulatorStep6, ((49990 : BitVec 32) : Time),
      by unfold State.RunIsFree; decide +kernel⟩,
    ⟨wregulatorStep7, ((49990 : BitVec 32) : Time),
      by unfold State.RunIsFree; decide +kernel⟩,
    ⟨wregulatorStep8, ((49990 : BitVec 32) : Time),
      by unfold State.RunIsFree; decide +kernel⟩,
    ⟨wregulatorStep9, ((49990 : BitVec 32) : Time), (wregulatorStep9.leadStation.getD 4),
      by unfold State.RunIsFree; decide +kernel⟩⟩

/-- States and operands that meet the hypotheses of each clause of `Obligations.PersistenceRaises`. -/
theorem witness_persistence_raises :
    (∃ (s : State),
      s.loaded = true ∧
      (s.is .hoist = true ∨ (s.is .drag = true ∧ s.role.supply = .normal)) ∧
      s.meas.tachRaised = false ∧
      s.ran s.meas.tachExcess 200 = true ∧
      s.alarmInUse = true ∧
      s.RunIsFree ∧
      s.hasCause .localTrip = !s.alarm.tripsNormal)
    ∧ (∃ (s : State),
      s.loaded = true ∧
      s.drive.brakeFaultRaised = false ∧
      s.ran s.drive.disagreeTime 300 = true ∧
      s.alarmInUse = true ∧
      s.RunIsFree ∧
      s.hasCause .localTrip = !s.alarm.tripsNormal)
    ∧ (∃ (s : State),
      s.loaded = true ∧
      s.drive.fieldLossRaised = false ∧
      s.ran s.drive.lossTime 100 = true ∧
      s.alarmInUse = true ∧
      s.RunIsFree ∧
      s.hasCause .localTrip = !s.alarm.tripsNormal)
    ∧ (∃ (s : State),
      s.loaded = true ∧
      s.is .hoist = true ∧
      s.leads = true ∧
      s.role.overloadRaised = false ∧
      s.ran s.role.overloadTime 500 = true ∧
      s.alarmInUse = true ∧
      s.RunIsFree ∧
      s.hasCause .localTrip = !s.alarm.tripsNormal)
    ∧ (∃ (s : State),
      s.is .hoist = false ∧
      (s.is .drag = false ∨ s.role.supply ≠ .normal)) :=
  ⟨⟨wpersistenceRaises0,
      by unfold State.RunIsFree; decide +kernel⟩,
    ⟨wpersistenceRaises1,
      by unfold State.RunIsFree; decide +kernel⟩,
    ⟨wpersistenceRaises2,
      by unfold State.RunIsFree; decide +kernel⟩,
    ⟨wpersistenceRaises3,
      by unfold State.RunIsFree; decide +kernel⟩,
    ⟨wpersistenceRaises4,
      by decide +kernel⟩⟩

/-- States and operands that meet the hypotheses of each clause of `Obligations.PersistenceReturns`. -/
theorem witness_persistence_returns :
    (∃ (s : State),
      s.loaded = true ∧
      s.alarmInUse = true ∧
      (s.is .hoist = true ∨ (s.is .drag = true ∧ s.role.supply = .normal)) ∧
      s.meas.tachRaised = true ∧
      s.ran s.meas.tachRecovery 200 = true)
    ∧ (∃ (s : State),
      s.loaded = true ∧
      s.alarmInUse = true ∧
      s.drive.brakeFaultRaised = true ∧
      s.ran s.drive.agreeTime 300 = true)
    ∧ (∃ (s : State),
      s.loaded = true ∧
      s.alarmInUse = true ∧
      s.drive.fieldLossRaised = true ∧
      s.ran s.drive.lossClear 100 = true)
    ∧ (∃ (s : State),
      s.loaded = true ∧
      s.alarmInUse = true ∧
      s.drive.overcurrentRaised = true ∧
      s.ran s.drive.overcurrentClear 100 = true)
    ∧ (∃ (s : State),
      s.loaded = true ∧
      s.alarmInUse = true ∧
      s.drive.overvoltageRaised = true ∧
      s.ran s.drive.overvoltageClear 100 = true) :=
  ⟨⟨wpersistenceReturns0,
      by decide +kernel⟩,
    ⟨wpersistenceReturns1,
      by decide +kernel⟩,
    ⟨wpersistenceReturns2,
      by decide +kernel⟩,
    ⟨wpersistenceReturns3,
      by decide +kernel⟩,
    ⟨wpersistenceReturns4,
      by decide +kernel⟩⟩

/-- States and operands that meet the hypotheses of each clause of `Obligations.BrakeAndSwingRest`. -/
theorem witness_brake_and_swing_rest :
    (∃ (s : State),
      (s.ctl.mode = .hold ∨ s.ctl.mode = .run) ∧
      (s.is .hoist = true ∨ s.is .drag = true ∨ (s.is .swing = true ∧ s.follows = false)) ∧
      s.out.brakeSet = false ∧
      s.ran s.drive.setTime s.prm.brakeSetDelay = true)
    ∧ (∃ (s : State),
      (s.ctl.mode = .hold ∨ s.ctl.mode = .run) ∧
      s.swingLead = true ∧
      s.role.swing = .free ∧
      s.consent.own.status = .active ∧
      s.ran s.role.restTime s.prm.swingSetDelay = true)
    ∧ (∃ (s : State) (a : Time),
      s.loaded = true ∧
      s.meas.regTimer = some a ∧
      s.prm.regInterval ≤ s.since a ∧
      s.ctl.mode = .run ∧
      s.swingLead = true ∧
      s.role.swing = .locked ∧
      s.consent.own.status = .idle ∧
      s.consent.held = none ∧
      s.hasRoom 3)
    ∧ (∃ (s : State) (a : Time),
      s.loaded = true ∧
      s.meas.regTimer = some a ∧
      s.prm.regInterval ≤ s.since a ∧
      s.swingLead = true ∧
      s.role.swing = .locked ∧
      (s.ctl.mode ≠ .run ∨ s.consent.own.status ≠ .idle))
    ∧ (∃ (s : State) (a : Time) (h : HeldRecord) (me : Station),
      s.loaded = true ∧
      s.meas.regTimer = some a ∧
      s.prm.regInterval ≤ s.since a ∧
      s.ctl.mode = .run ∧
      s.swingLead = true ∧
      s.role.swing = .locked ∧
      s.consent.own.status = .idle ∧
      s.consent.held = some h ∧
      s.self = some me ∧
      s.hasRoom 4 ∧
      s.role.prevCommand = 0)
    ∧ (∃ (s : State) (a : Time),
      s.loaded = true ∧
      s.meas.regTimer = some a ∧
      s.prm.regInterval ≤ s.since a ∧
      (s.ctl.mode = .hold ∨ s.ctl.mode = .run) ∧
      s.swingLead = true ∧
      s.role.swing = .withdrawing ∧
      s.role.supply = .normal ∧
      s.consent.own.status = .withdrawing ∧
      s.alarmInUse = true)
    ∧ (∃ (s : State) (a : Time),
      s.loaded = true ∧
      s.meas.regTimer = some a ∧
      s.prm.regInterval ≤ s.since a ∧
      (s.ctl.mode = .hold ∨ s.ctl.mode = .run) ∧
      s.swingLead = true ∧
      s.role.swing = .free ∧
      s.role.supply = .normal ∧
      s.consent.own.status = .active) :=
  ⟨⟨wbrakeAndSwingRest0,
      by decide +kernel⟩,
    ⟨wbrakeAndSwingRest1,
      by decide +kernel⟩,
    ⟨wbrakeAndSwingRest2, ((49990 : BitVec 32) : Time),
      by decide +kernel⟩,
    ⟨wbrakeAndSwingRest3, ((49990 : BitVec 32) : Time),
      by decide +kernel⟩,
    ⟨wbrakeAndSwingRest4, ((49990 : BitVec 32) : Time), (⟨2, 4, .walkStart, .pending, false, false⟩ : HeldRecord), (wbrakeAndSwingRest4.self.getD 0),
      by decide +kernel⟩,
    ⟨wbrakeAndSwingRest5, ((49990 : BitVec 32) : Time),
      by decide +kernel⟩,
    ⟨wbrakeAndSwingRest6, ((49990 : BitVec 32) : Time),
      by decide +kernel⟩⟩

/-- States and operands that meet the hypotheses of each clause of `Obligations.ContactorEdges`. -/
theorem witness_contactor_edges :
    (∃ (s : State),
      s.loaded = true ∧
      s.is .drag = true ∧
      s.role.supply = .transferring)
    ∧ (∃ (s : State),
      s.loaded = true ∧
      s.is .drag = true ∧
      s.role.supply = .normal)
    ∧ (∃ (s : State),
      (s.loaded = false ∨ s.is .drag = false ∨ s.role.supply = .walkSupply
      ∨ s.role.supply = .returning))
    ∧ (∃ (s : State),
      s.loaded = true ∧
      s.is .drag = true ∧
      s.role.supply = .walkSupply ∧
      s.alarmInUse = true ∧
      s.RunIsFree ∧
      s.hasCause .localTrip = !s.alarm.tripsNormal)
    ∧ (∃ (s : State),
      (s.loaded = false ∨ s.is .drag = false ∨ s.role.supply = .transferring
      ∨ (s.role.supply = .returning ∧ s.out.transferClosed = true)))
    ∧ (∃ (s : State),
      s.loaded = true ∧
      s.is .drag = true ∧
      s.role.supply = .returning ∧
      s.out.transferClosed = false ∧
      s.alarmInUse = true)
    ∧ (∃ (s : State),
      s.loaded = true ∧
      s.is .drag = true ∧
      s.role.supply = .normal)
    ∧ (∃ (s : State) (a : Time) (n : Station),
      s.loaded = true ∧
      s.meas.regTimer = some a ∧
      s.prm.regInterval ≤ s.since a ∧
      (s.ctl.mode = .hold ∨ s.ctl.mode = .run) ∧
      s.is .drag = true ∧
      s.role.supply = .normal ∧
      s.walkStation = some n ∧
      s.alarmInUse = true ∧
      s.hasCause .localTrip = !s.alarm.tripsNormal)
    ∧ (∃ (s : State) (a : Time),
      s.loaded = true ∧
      s.meas.regTimer = some a ∧
      s.prm.regInterval ≤ s.since a ∧
      (s.ctl.mode = .hold ∨ s.ctl.mode = .run) ∧
      s.is .drag = true ∧
      s.role.supply = .returning ∧
      s.out.transferClosed = true ∧
      s.alarmInUse = true) :=
  ⟨⟨wcontactorEdges0,
      by decide +kernel⟩,
    ⟨wcontactorEdges1,
      by decide +kernel⟩,
    ⟨wcontactorEdges2,
      by decide +kernel⟩,
    ⟨wcontactorEdges3,
      by unfold State.RunIsFree; decide +kernel⟩,
    ⟨wcontactorEdges4,
      by decide +kernel⟩,
    ⟨wcontactorEdges5,
      by decide +kernel⟩,
    ⟨wcontactorEdges6,
      by decide +kernel⟩,
    ⟨wcontactorEdges7, ((49990 : BitVec 32) : Time), (wcontactorEdges7.walkStation.getD 6),
      by decide +kernel⟩,
    ⟨wcontactorEdges8, ((49990 : BitVec 32) : Time),
      by decide +kernel⟩⟩

/-- States and operands that meet the hypotheses of each clause of `Obligations.SupplyLimits`. -/
theorem witness_supply_limits :
    (∃ (s : State),
      s.loaded = true ∧
      s.is .drag = true ∧
      s.role.supply = .transferring ∧
      s.ran s.role.transferLimit 500 = true ∧
      s.alarmInUse = true ∧
      s.RunIsFree ∧
      s.hasCause .localTrip = !s.alarm.tripsNormal)
    ∧ (∃ (s : State),
      s.loaded = true ∧
      s.is .drag = true ∧
      s.role.supply = .returning ∧
      s.ran s.role.returnLimit 500 = true ∧
      s.alarmInUse = true ∧
      s.RunIsFree ∧
      s.hasCause .localTrip = !s.alarm.tripsNormal)
    ∧ (∃ (s : State),
      s.loaded = true ∧
      s.is .drag = true ∧
      s.role.supply = .normal ∧
      s.ran s.role.closedLimit 500 = true ∧
      s.alarmInUse = true ∧
      s.RunIsFree ∧
      s.hasCause .localTrip = !s.alarm.tripsNormal) :=
  ⟨⟨wsupplyLimits0,
      by unfold State.RunIsFree; decide +kernel⟩,
    ⟨wsupplyLimits1,
      by unfold State.RunIsFree; decide +kernel⟩,
    ⟨wsupplyLimits2,
      by unfold State.RunIsFree; decide +kernel⟩⟩

/-- States and operands that meet the hypotheses of each clause of `Obligations.WalkCommanded`. -/
theorem witness_walk_commanded :
    (∃ (s : State),
      s.is .walk = true ∧
      s.inService = true ∧
      s.ctl.mode = .run ∧
      s.walk.state = .idle ∧
      0 < (s.rosterOf .drag).length ∧
      s.consent.own.status = .idle ∧
      s.consent.held = none ∧
      s.hasRoom 1 ∧
      s.RunIsFree)
    ∧ (∃ (s : State),
      s.is .walk = true ∧
      s.inService = true ∧
      s.ctl.mode = .run ∧
      s.walk.state = .halted ∧
      (∀ n ∈ s.rosterOf .drag, (s.entry n).status = .fresh ∧ (s.entry n).fields.supply = 2))
    ∧ (∃ (s : State),
      s.is .walk = true ∧
      s.inService = true ∧
      s.ctl.mode = .run ∧
      s.walk.state = .forced ∧
      s.walk.forced.isEmpty = true ∧
      (∀ n ∈ s.rosterOf .drag, (s.entry n).status = .fresh ∧ (s.entry n).fields.supply = 2))
    ∧ (∃ (s : State),
      (s.is .walk = false ∨ s.inService = false ∨ s.ctl.mode ≠ .run
      ∨ (s.walk.state = .idle ∧ s.rosterOf .drag = []) ∨ s.walk.state = .proposing ∨ s.walk.state = .transfer
      ∨ s.walk.state = .stepping ∨ s.walk.state = .stopping ∨ s.walk.state = .returning
      ∨ (s.walk.state = .forced ∧ s.walk.forced.isEmpty = false)
      ∨ ((s.walk.state = .halted ∨ s.walk.state = .forced) ∧ ∃ n ∈ s.rosterOf .drag,
          (s.entry n).status ≠ .fresh ∨ (s.entry n).fields.supply ≠ 2))) :=
  ⟨⟨wwalkCommanded0,
      by unfold State.RunIsFree; decide +kernel⟩,
    ⟨wwalkCommanded1,
      by decide +kernel⟩,
    ⟨wwalkCommanded2,
      by decide +kernel⟩,
    ⟨wwalkCommanded3,
      by decide +kernel⟩⟩

/-- States and operands that meet the hypotheses of each clause of `Obligations.WalkStops`. -/
theorem witness_walk_stops :
    (∃ (s : State),
      s.is .walk = true ∧
      s.inService = true ∧
      s.walk.state = .stepping)
    ∧ (∃ (s : State),
      s.is .walk = true ∧
      s.inService = true ∧
      s.walk.state = .transfer)
    ∧ (∃ (s : State),
      s.is .walk = true ∧
      s.inService = true ∧
      s.walk.state = .transfer)
    ∧ (∃ (s : State),
      s.is .walk = true ∧
      s.inService = true ∧
      s.walk.state = .stepping)
    ∧ (∃ (s : State),
      s.is .walk = true ∧
      s.inService = true ∧
      s.walk.state ≠ .stepping ∧
      s.walk.state ≠ .transfer)
    ∧ (∃ (s : State),
      s.is .walk = true ∧
      s.inService = true)
    ∧ (∃ (s : State) (a : Time),
      s.loaded = true ∧
      s.meas.regTimer = some a ∧
      s.prm.regInterval ≤ s.since a ∧
      s.is .walk = true)
    ∧ (∃ (s : State) (a : Time),
      s.loaded = true ∧
      s.meas.regTimer = some a ∧
      s.prm.regInterval ≤ s.since a ∧
      s.is .walk = true ∧
      (s.ctl.mode = .hold ∨ s.ctl.mode = .run) ∧
      (s.walk.state = .stepping ∨ s.walk.state = .stopping) ∧
      (s.ctl.mode = .hold ∨ s.drive.brakeFaultRaised = true
      ∨ s.ran s.drive.disagreeTime 300 = false) ∧
      s.alarmInUse = true)
    ∧ (∃ (s : State) (a : Time),
      s.loaded = true ∧
      s.meas.regTimer = some a ∧
      s.prm.regInterval ≤ s.since a ∧
      s.is .walk = true ∧
      s.ctl.mode = .run ∧
      s.walk.state = .stepping ∧
      s.drive.brakeFaultRaised = false ∧
      s.out.brakeSet ≠ s.meas.brakeFb.value ∧
      s.ran s.drive.disagreeTime 300 = true ∧
      s.alarmInUse = true ∧
      s.RunIsFree ∧
      s.hasCause .localTrip = !s.alarm.tripsNormal)
    ∧ (∃ (s : State) (a : Time),
      s.loaded = true ∧
      s.meas.regTimer = some a ∧
      s.prm.regInterval ≤ s.since a ∧
      s.is .walk = true ∧
      s.walk.skewRaised = true ∧
      s.alarmInUse = true)
    ∧ (∃ (s : State) (a : Time),
      s.loaded = true ∧
      s.meas.regTimer = some a ∧
      s.prm.regInterval ≤ s.since a ∧
      s.is .walk = true ∧
      s.walk.state ≠ .stepping ∧
      s.walk.state ≠ .stopping) :=
  ⟨⟨wwalkStops0,
      by decide +kernel⟩,
    ⟨wwalkStops1,
      by decide +kernel⟩,
    ⟨wwalkStops2,
      by decide +kernel⟩,
    ⟨wwalkStops3,
      by decide +kernel⟩,
    ⟨wwalkStops4,
      by decide +kernel⟩,
    ⟨wwalkStops5,
      by decide +kernel⟩,
    ⟨wwalkStops6, ((49990 : BitVec 32) : Time),
      by decide +kernel⟩,
    ⟨wwalkStops7, ((49990 : BitVec 32) : Time),
      by decide +kernel⟩,
    ⟨wwalkStops8, ((49990 : BitVec 32) : Time),
      by unfold State.RunIsFree; decide +kernel⟩,
    ⟨wwalkStops9, ((49990 : BitVec 32) : Time),
      by decide +kernel⟩,
    ⟨wwalkStops10, ((49990 : BitVec 32) : Time),
      by decide +kernel⟩⟩

/-- States and operands that meet the hypotheses of each clause of `Obligations.WalkTimes`. -/
theorem witness_walk_times :
    (∃ (s : State),
      s.is .walk = true ∧
      s.inService = true ∧
      s.ran s.walk.stopHold 2000 = true ∧
      (s.walk.state = .stepping ∨ s.walk.state = .stopping) ∧
      s.alarmInUse = true ∧
      s.RunIsFree ∧
      s.hasCause .localTrip = !s.alarm.tripsNormal)
    ∧ (∃ (s : State),
      s.is .walk = true ∧
      s.inService = true ∧
      s.ran s.walk.stopHold 2000 = true ∧
      s.walk.state ≠ .stepping ∧
      s.walk.state ≠ .stopping)
    ∧ (∃ (s : State) (n : Station),
      s.is .walk = true ∧
      s.inService = true ∧
      s.walk.state = .transfer ∧
      s.ran s.walk.supplyLimit 1000 = true ∧
      (s.consent.own.status = .active ∨ s.consent.own.status = .withdrawing) ∧
      n ∈ s.rosterOf .drag ∧
      ((s.entry n).status ≠ .fresh ∨ (s.entry n).fields.supply ≠ 2) ∧
      (∀ m ∈ s.rosterOf .drag, m < n → (s.entry m).status = .fresh ∧ (s.entry m).fields.supply = 2))
    ∧ (∃ (s : State),
      s.is .walk = true ∧
      s.inService = true ∧
      s.walk.state = .halted ∧
      s.ran s.walk.endTime s.prm.walkEndDelay = true ∧
      (s.consent.own.status = .active ∨ s.consent.own.status = .withdrawing)) :=
  ⟨⟨wwalkTimes0,
      by unfold State.RunIsFree; decide +kernel⟩,
    ⟨wwalkTimes1,
      by decide +kernel⟩,
    ⟨wwalkTimes2, (((wwalkTimes2.rosterOf .drag).find? fun m => !(wwalkTimes2.entry m).supplying).getD 7),
      by decide +kernel⟩,
    ⟨wwalkTimes3,
      by decide +kernel⟩⟩

/-- States and operands that meet the hypotheses of each clause of `Obligations.DerateLevels`. -/
theorem witness_derate_levels :
    (∃ (s : State) (a : Time),
      s.heats = true ∧
      s.heat.persistence = .rising a ∧
      2000 ≤ s.since a ∧
      s.heat.level < 7)
    ∧ (∃ (s : State) (a : Time),
      s.heats = true ∧
      s.heat.persistence = .falling a ∧
      2000 ≤ s.since a ∧
      0 < s.heat.level)
    ∧ (∃ (s : State) (h : Header) (x : Byte),
      s.isAsked h ∧
      s.hasRoom 2 ∧
      x.toNat ≤ 7)
    ∧ (∃ (s : State) (h : Header) (x : Byte),
      s.isAsked h ∧
      s.hasRoom 1 ∧
      7 < x.toNat)
    ∧ (∃ (s : State) (a : Time),
      s.loaded = true ∧
      s.meas.regTimer = some a ∧
      s.prm.regInterval ≤ s.since a ∧
      s.is .walk = false ∧
      s.heat.heat ≤ 6250000 ∧
      s.ownRole.isSome = true) :=
  ⟨⟨wderateLevels0, ((48000 : BitVec 32) : Time),
      by decide +kernel⟩,
    ⟨wderateLevels1, ((48000 : BitVec 32) : Time),
      by decide +kernel⟩,
    ⟨wderateLevels2, (⟨6, 14, 1⟩ : Header), (5 : Byte),
      by decide +kernel⟩,
    ⟨wderateLevels3, (⟨6, 14, 1⟩ : Header), (9 : Byte),
      by decide +kernel⟩,
    ⟨wderateLevels4, ((49990 : BitVec 32) : Time),
      by decide +kernel⟩⟩

/-- States and operands that meet the hypotheses of each clause of `Obligations.KeepAndRelease`. -/
theorem witness_keep_and_release :
    (∃ (s : State) (n : Station) (st : Station) (q : Word16) (i : Nat),
      s.hears n ∧
      s.inService = true ∧
      q ≠ 0 ∧
      s.capture.awaiting ⟨st, q⟩ = [i] ∧
      s.capture.postCarries ⟨st, q⟩ = false)
    ∧ (∃ (s : State) (n : Station) (st : Station) (q : Word16),
      s.hears n ∧
      s.inService = true ∧
      q ≠ 0 ∧
      (∀ b ∈ s.capture.blocks,
      b.armId = some ⟨st, q⟩ → b.state = .free ∨ b.state = .recording))
    ∧ (∃ (s : State) (n : Station) (a : Byte) (q : Word16),
      s.hears n ∧
      (a.toNat < 1 ∨ 8 < a.toNat ∨ q = 0))
    ∧ (∃ (s : State) (i : Fin 8),
      i.val < s.capture.blocks.length ∧
      (s.capture.block i.val).state = .awaitKeep ∧
      s.ran (s.capture.block i.val).keepDeadline s.prm.keepWindow = true)
    ∧ (∃ (s : State) (h : Header) (i : Nat) (l : List Nat),
      s.isAsked h ∧
      s.hasRoom 2 ∧
      s.configured = true ∧
      s.CaptureSound ∧
      s.capture.kept = i :: l)
    ∧ (∃ (s : State) (h : Header),
      s.isAsked h ∧
      s.hasRoom 1 ∧
      (s.configured = false ∨ s.capture.kept = [])) :=
  ⟨⟨wkeepAndRelease0, (1 : Station), (3 : Station), (9 : Word16), (1 : Nat),
      by decide +kernel⟩,
    ⟨wkeepAndRelease1, (1 : Station), (1 : Station), (9 : Word16),
      by decide +kernel⟩,
    ⟨wkeepAndRelease2, (1 : Station), (9 : Byte), (9 : Word16),
      by decide +kernel⟩,
    ⟨wkeepAndRelease3, (1 : Fin 8),
      by decide +kernel⟩,
    ⟨wkeepAndRelease4, (⟨6, 14, 1⟩ : Header), (2 : Nat), ([0, 1, 3] : List Nat),
      by unfold State.CaptureSound; decide +kernel⟩,
    ⟨wkeepAndRelease5, (⟨6, 14, 1⟩ : Header),
      by decide +kernel⟩⟩

/-- States and operands that meet the hypotheses of each clause of `Obligations.PostAndDecision`. -/
theorem witness_post_and_decision :
    (∃ (s : State) (a : Time) (i : Nat),
      s.inService = true ∧
      s.meas.regTimer = some a ∧
      s.prm.regInterval ≤ s.since a ∧
      i < s.capture.blocks.length ∧
      s.capture.writeBlock = some i ∧
      s.capture.decisions = [] ∧
      2 ≤ s.prm.postSamples ∧
      (s.capture.block i).state = .post ∧
      1 < (s.capture.block i).post)
    ∧ (∃ (s : State) (a : Time) (i : Nat),
      s.inService = true ∧
      s.meas.regTimer = some a ∧
      s.prm.regInterval ≤ s.since a ∧
      i < s.capture.blocks.length ∧
      s.capture.writeBlock = some i ∧
      s.capture.decisions = [] ∧
      2 ≤ s.prm.postSamples ∧
      (s.capture.block i).state = .recording)
    ∧ (∃ (s : State) (i : Nat) (c : AlarmCode) (x : ArmId),
      s.inService = true ∧
      i < s.capture.blocks.length ∧
      s.capture.writeBlock = some i ∧
      s.capture.writers = 1 ∧
      (s.capture.block i).state = .post ∧
      (s.capture.block i).post = 0 ∧
      (s.capture.block i).armCode = some c ∧
      (s.capture.block i).armId = some x ∧
      ((s.capture.block i).keepMark = true ∨ s.ann c ≠ .normal) ∧
      s.hasRoom 2)
    ∧ (∃ (s : State) (i : Nat) (c : AlarmCode),
      s.inService = true ∧
      i < s.capture.blocks.length ∧
      s.capture.writeBlock = some i ∧
      s.capture.writers = 1 ∧
      (s.capture.block i).state = .post ∧
      (s.capture.block i).post = 0 ∧
      (s.capture.block i).keepMark = false ∧
      (s.capture.block i).armCode = some c ∧
      s.ann c = .normal)
    ∧ (∃ (s : State) (i : Nat),
      s.inService = true ∧
      i < s.capture.blocks.length ∧
      s.capture.writeBlock = some i ∧
      s.capture.writers = 1 ∧
      (s.capture.block i).state = .post ∧
      (s.capture.block i).post = 0 ∧
      (s.capture.block i).keepMark = false ∧
      (s.capture.block i).armCode = none)
    ∧ (∃ (s : State) (i : Nat),
      s.inService = true ∧
      i < s.capture.blocks.length ∧
      s.capture.writeBlock = some i ∧
      s.capture.writers = 1 ∧
      (s.capture.block i).state = .post ∧
      (s.capture.block i).post = 0 ∧
      (s.capture.block i).keepMark = true ∧
      (s.capture.block i).armCode = none)
    ∧ (∃ (s : State) (d : Decision),
      s.inService = true ∧
      s.capture.decisions = [d] ∧
      d.count = 0 ∧
      d.mergedInto = none ∧
      s.hasRoom 1) :=
  ⟨⟨wpostAndDecision0, ((47000 : BitVec 32) : Time), (wpostAndDecision0.capture.writeBlock.getD 9),
      by decide +kernel⟩,
    ⟨wpostAndDecision1, ((47000 : BitVec 32) : Time), (wpostAndDecision1.capture.writeBlock.getD 9),
      by decide +kernel⟩,
    ⟨wpostAndDecision2, (1 : Nat), (.fieldLoss : AlarmCode), (⟨0, 5⟩ : ArmId),
      by decide +kernel⟩,
    ⟨wpostAndDecision3, (1 : Nat), (.fieldLoss : AlarmCode),
      by decide +kernel⟩,
    ⟨wpostAndDecision4, (1 : Nat),
      by decide +kernel⟩,
    ⟨wpostAndDecision5, (1 : Nat),
      by decide +kernel⟩,
    ⟨wpostAndDecision6, (⟨⟨2, 7⟩, .fieldLoss, none, 0⟩ : Decision),
      by decide +kernel⟩⟩

/-- States and operands that meet the hypotheses of each clause of `Obligations.ReadsAnswer`. -/
theorem witness_reads_answer :
    (∃ (s : State) (h : Header),
      s.isAsked h ∧
      s.hasRoom 1)
    ∧ (∃ (s : State) (h : Header) (part : Byte),
      s.isAsked h ∧
      s.hasRoom 1 ∧
      part.toNat ≤ 1)
    ∧ (∃ (s : State) (h : Header),
      s.isAsked h ∧
      s.hasRoom 1)
    ∧ (∃ (s : State) (h : Header),
      s.isAsked h ∧
      s.hasRoom 1)
    ∧ (∃ (s : State) (h : Header) (i : Nat) (l : List Nat),
      s.isAsked h ∧
      s.hasRoom 1 ∧
      s.configured = true ∧
      s.capture.kept = i :: l)
    ∧ (∃ (s : State) (h : Header) (i : Nat) (l : List Nat) (q : Word16),
      s.isAsked h ∧
      s.hasRoom 1 ∧
      s.configured = true ∧
      s.capture.kept = i :: l ∧
      q.toNat < (s.capture.block i).stored)
    ∧ (∃ (s : State) (h : Header),
      s.isAsked h ∧
      s.hasRoom 1 ∧
      (s.configured = false ∨ s.capture.kept = []))
    ∧ (∃ (s : State) (h : Header) (code : Byte) (args : List Byte),
      s.isAsked h ∧
      s.hasRoom 1 ∧
      (code.toNat < 1 ∨ 9 < code.toNat) ∧
      args.length ≤ 2)
    ∧ (∃ (s : State) (h : Header) (args : List Byte),
      s.isAsked h ∧
      s.hasRoom 1 ∧
      args.length ≤ 2)
    ∧ (∃ (s : State) (h : Header),
      s.isAsked h ∧
      s.hasRoom 1)
    ∧ (∃ (s : State) (h : Header) (i : Nat) (l : List Nat) (q : Word16),
      s.isAsked h ∧
      s.hasRoom 1 ∧
      s.configured = true ∧
      s.capture.kept = i :: l ∧
      (s.capture.block i).stored ≤ q.toNat)
    ∧ (∃ (s : State) (h : Header) (st : Station) (code : Byte) (args : List Byte),
      s.onLink = true ∧
      s.slotFull = true ∧
      h.cls = 6 ∧
      h.src = 14 ∧
      s.self = some st ∧
      h.dst = stationAddress st ∧
      s.link.quietOut = none ∧
      s.link.queue.length < 8 ∧
      args.length ≤ 2 ∧
      (code.toNat < 1 ∨ 9 < code.toNat)) :=
  ⟨⟨wreadsAnswer0, (⟨6, 14, 1⟩ : Header),
      by decide +kernel⟩,
    ⟨wreadsAnswer1, (⟨6, 14, 1⟩ : Header), (1 : Byte),
      by decide +kernel⟩,
    ⟨wreadsAnswer2, (⟨6, 14, 1⟩ : Header),
      by decide +kernel⟩,
    ⟨wreadsAnswer3, (⟨6, 14, 1⟩ : Header),
      by decide +kernel⟩,
    ⟨wreadsAnswer4, (⟨6, 14, 1⟩ : Header), (2 : Nat), ([0] : List Nat),
      by decide +kernel⟩,
    ⟨wreadsAnswer5, (⟨6, 14, 1⟩ : Header), (2 : Nat), ([0] : List Nat), (3 : Word16),
      by decide +kernel⟩,
    ⟨wreadsAnswer6, (⟨6, 14, 1⟩ : Header),
      by decide +kernel⟩,
    ⟨wreadsAnswer7, (⟨6, 14, 1⟩ : Header), (10 : Byte), ([] : List Byte),
      by decide +kernel⟩,
    ⟨wreadsAnswer8, (⟨6, 14, 1⟩ : Header), ([1] : List Byte),
      by decide +kernel⟩,
    ⟨wreadsAnswer9, (⟨6, 14, 1⟩ : Header),
      by decide +kernel⟩,
    ⟨wreadsAnswer10, (⟨6, 14, 1⟩ : Header), (2 : Nat), ([0] : List Nat), (9 : Word16),
      by decide +kernel⟩,
    ⟨wreadsAnswer11, (⟨6, 14, 1⟩ : Header), (0 : Station), (10 : Byte), ([1] : List Byte),
      by decide +kernel⟩⟩

/-- States and operands that meet the hypotheses of each clause of `Obligations.SafeModesKept`. -/
theorem witness_safe_modes_kept :
    (∃ (s : State) (t : State),
      step s = .next t ∧
      s.SafeModes ∧
      s.StopCodesStop) :=
  ⟨wsafeModesKept0, (nx (step wsafeModesKept0) : State),
      rfl,
      by unfold State.SafeModes State.StopCodesStop; decide +kernel⟩

/-- States and operands that meet the hypotheses of each clause of `Obligations.CausesKept`. -/
theorem witness_causes_kept :
    (∃ (s : State) (t : State),
      step s = .next t ∧
      s.RunIsFree ∧
      s.CausesAgree) :=
  ⟨wcausesKept0, (nx (step wcausesKept0) : State),
      rfl,
      by unfold State.RunIsFree State.CausesAgree; decide +kernel⟩

/-- States and operands that meet the hypotheses of each clause of `Obligations.QueueAndTableKept`. -/
theorem witness_queue_and_table_kept :
    (∃ (s : State) (t : State),
      step s = .next t ∧
      s.QueueSound ∧
      s.AbsentUnmarked ∧
      s.OwnEntryClean) :=
  ⟨wqueueAndTableKept0, (nx (step wqueueAndTableKept0) : State),
      rfl,
      by unfold State.QueueSound State.AbsentUnmarked State.OwnEntryClean; decide +kernel⟩

/-- States and operands that meet the hypotheses of each clause of `Obligations.ConsentKept`. -/
theorem witness_consent_kept :
    (∃ (s : State) (t : State),
      step s = .next t ∧
      s.ConsentSound ∧
      s.SwingSound) :=
  ⟨wconsentKept0, (nx (step wconsentKept0) : State),
      rfl,
      by unfold State.ConsentSound State.SwingSound; decide +kernel⟩

/-- States and operands that meet the hypotheses of each clause of `Obligations.DriveKept`. -/
theorem witness_drive_kept :
    (∃ (s : State) (t : State),
      step s = .next t ∧
      s.DriveSound ∧
      s.LevelsSound) :=
  ⟨wdriveKept0, (nx (step wdriveKept0) : State),
      rfl,
      by unfold State.DriveSound directionFits State.LevelsSound; decide +kernel⟩

/-- States and operands that meet the hypotheses of each clause of `Obligations.SupplyAndWalkKept`. -/
theorem witness_supply_and_walk_kept :
    (∃ (s : State) (t : State),
      step s = .next t ∧
      s.SupplySound ∧
      s.WalkSound) :=
  ⟨wsupplyAndWalkKept0, (nx (step wsupplyAndWalkKept0) : State),
      rfl,
      by unfold State.SupplySound State.WalkSound; decide +kernel⟩

/-- States and operands that meet the hypotheses of each clause of `Obligations.LampsKept`. -/
theorem witness_lamps_kept :
    (∃ (s : State) (t : State),
      step s = .next t ∧
      s.LampsShow ∧
      s.ListSound) :=
  ⟨wlampsKept0, (nx (step wlampsKept0) : State),
      rfl,
      by unfold State.LampsShow State.ListSound; decide +kernel⟩

/-- States and operands that meet the hypotheses of each clause of `Obligations.CaptureKept`. -/
theorem witness_capture_kept :
    (∃ (s : State) (t : State),
      step s = .next t ∧
      s.CaptureSound) :=
  ⟨wcaptureKept0, (nx (step wcaptureKept0) : State),
      rfl,
      by unfold State.CaptureSound; decide +kernel⟩

/-! ### Ill-formed commands are refused by the check -/

/-- A payload one byte too long. -/
def longPayload : List Byte := List.replicate 25 0
/-- Arguments one byte too many. -/
def longArgs : List Byte := List.replicate 24 0
/-- A header of station 3's broadcast. -/
def head3 : Header := ⟨4, 3, 15⟩

theorem test_length_within_24_is_not_abandoned :
    (Instr.frameLengthAbandoned 24).wellFormed = false := by decide
theorem test_right_check_is_not_bad :
    (Instr.frameBad ⟨5, 3, 5, 15, [3, 0, 1]⟩ (frameCheck ⟨5, 3, 5, 15, [3, 0, 1]⟩) 0xF).wellFormed
      = false := by decide +kernel
theorem test_fitting_frame_is_not_malformed :
    (Instr.frameMalformed ⟨5, 3, 5, 15, [3, 0, 1]⟩).wellFormed = false := by decide
theorem test_long_payloads_refused :
    ([.frameOwnAddress ⟨4, 1, 1, 15, longPayload⟩, .frameMalformed ⟨4, 1, 1, 15, longPayload⟩,
      .stateReport head3 longPayload, .propose head3 longPayload, .object head3 longPayload,
      .alarmNotice head3 longPayload, .keepNotice head3 longPayload,
      .serviceReply head3 longPayload] : List Instr).all (fun c => !c.wellFormed) = true := by decide
theorem test_long_arguments_refused :
    ([.readStatus head3 longArgs, .readPeer head3 longArgs, .readCounters head3 longArgs,
      .readAlarms head3 longArgs, .ackAlarms head3 longArgs, .readCaptureHeader head3 longArgs,
      .readCaptureSamples head3 longArgs, .releaseCapture head3 longArgs, .forceDerate head3 longArgs,
      .serviceRequestUnknownCode head3 10 longArgs] : List Instr).all (fun c => !c.wellFormed)
      = true := by decide
theorem test_listed_code_is_not_unknown :
    (Instr.serviceRequestUnknownCode ⟨6, 14, 1⟩ 9 []).wellFormed = false := by decide

/-! ### The manual's worked examples -/

/-- R3: the check value of the ASCII characters 1 to 9 is 29B1h. -/
theorem test_check_value : crc (bitsOfBytes [49, 50, 51, 52, 53, 54, 55, 56, 57]) = 0x29B1#16 := by
  decide +kernel

/-- R68: pedestal 500, raw 2548 and above give 2047. -/
theorem test_pedestal_saturates :
    lessPedestal 2548 500 = 2047 ∧ lessPedestal 2547 500 = 2047 ∧ lessPedestal 2546 500 = 2046 := by
  decide

/-- Table 5-3: VB settles at 13 for x = 28, at −13 for x = −28, and is clamped at 64 for x = 200. -/
theorem test_baseline_settles :
    (List.replicate 12 28).foldl baselineStep 0 = 12 ∧ (List.replicate 20 28).foldl baselineStep 0 = 13
    ∧ (List.replicate 20 (-28)).foldl baselineStep 0 = -13
    ∧ (List.replicate 6 200).foldl baselineStep 0 = 62
    ∧ (List.replicate 7 200).foldl baselineStep 0 = 64 := by
  decide +kernel

/-- Table 6-3: the reference after stage 4 at the first two steps, and the duty. -/
def derated (current : Int) : State :=
  { stn with
    heat := { stn.heat with effective := 4 }
    meas := { stn.meas with current := current } }

theorem test_foldback :
    (derated 780).folded 153856 0 = 152064 ∧ dutyOf 152064 0 = 594
    ∧ (derated 770).folded 152320 0 = 151040 ∧ (derated 752).folded 151296 0 = 151296 := by
  decide +kernel

/-- Table 7-3: the boom factor, the share, and the lead hoist's drag part. -/
theorem test_boom_guard :
    boomFactor prm 4300 = 788 ∧ boomShare prm 6383 788 2 = 1660 ∧ boomShare prm 6383 788 1 = 3321
    ∧ 6383 + 3390 * boomFactor prm 4300 / 1000 = 9054 ∧ stn.boomTripLevel = 9900 := by
  decide +kernel

/-- 9-8: the steps of the integrator at the five levels. -/
theorem test_heat_steps :
    heatStep 16 810000 = 12 ∧ heatStep 16 269342 = 4 ∧ heatStep 16 (-190377) = -2
    ∧ heatStep 16 (-576033) = -8 ∧ heatStep 16 (-883502) = -13 ∧ currentLimit 1500 1 = 1312
    ∧ currentLimit 1500 3 = 937 := by
  decide +kernel

/-- R132: left angle 5 and right angle 3590 give skew 15, trim 7 and references 693 and 707. -/
def skewedCams : State :=
  { stn with
    ctl := { stn.ctl with
      straps := some ⟨4, 7⟩, params := some { prm with skewGain := 50, skewTrimMax := 40
                                                       phaseSpeed := [700], walkAcc := 500 }
      roster := [⟨2, .drag⟩, ⟨3, .drag⟩, ⟨6, .walk⟩] }
    peers := PeerTable.reset.enlist [⟨2, .drag⟩, ⟨3, .drag⟩, ⟨6, .walk⟩]
    meas := { stn.meas with angleA := 5, angleB := 3590, homedA := true, homedB := true }
    walk := { stn.walk with state := .stepping, region := some .reach, reference := 179200 } }

theorem test_skew_trim :
    skewedCams.skew = 15 ∧ skewedCams.skewTrim = 7 ∧ skewedCams.walkReferences.walk.left = 693
    ∧ skewedCams.walkReferences.walk.right = 707 := by
  decide +kernel

/-- Station 2, the hoist follow of 5-10-1, 6-12 and 9-7, before the expiry. -/
def hoistFollow : State :=
  { stn with
    pins := { stn.pins with brakeFb := false, runPermit := true }
    out := { stn.out with brakeSet := false }
    ctl := { stn.ctl with
      straps := some ⟨1, 2⟩, place := some .follow, mode := .run
      params := some { prm with tensionTable := List.replicate 16 0 ++ 3200 :: List.replicate 16 3380 }
      roster := [⟨0, .hoist⟩, ⟨1, .hoist⟩, ⟨2, .drag⟩, ⟨4, .swing⟩, ⟨6, .walk⟩] }
    peers :=
      { PeerTable.reset.enlist [⟨0, .hoist⟩, ⟨1, .hoist⟩, ⟨2, .drag⟩, ⟨4, .swing⟩, ⟨6, .walk⟩] with
        entries := (PeerTable.reset.enlist
            [⟨0, .hoist⟩, ⟨1, .hoist⟩, ⟨2, .drag⟩, ⟨4, .swing⟩, ⟨6, .walk⟩]).entries.map fun e =>
          { e with
            status := .fresh, arrival := 49990
            fields := { plainReport with mode := 2, speedRef := 392, current := 1060 } } }
    meas := { stn.meas with
      regTimer := some 49998, vb := 12, payCount := 920, homedA := true
      brakeFb := ⟨false, 0⟩
      timerB := { stn.meas.timerB with forward := true, held := some 76, count := 40, since := 0 } }
    drive := { stn.drive with reference := 97280, duty := 380, target := 392, command := 392 }
    heat := { stn.heat with heat := 1200000, level := 2, effective := 2 } }

/-- The station after the expiry with the readings of Table 5-8. -/
def hoistFollowAfter : State :=
  nx (exec (.regulationIntervalExpiry ⟨3248, 2900, 2600, 2400⟩) hoistFollow)

/-- Table 5-8. -/
theorem test_measured_at_hoist_follow :
    hoistFollowAfter.meas.master = 1200 ∧ hoistFollowAfter.meas.current = 1025
    ∧ hoistFollowAfter.meas.tension = 3203 ∧ hoistFollowAfter.meas.armV = 552
    ∧ hoistFollowAfter.meas.voltageSpeed = 787 ∧ hoistFollowAfter.meas.fieldCurrent = 687
    ∧ hoistFollowAfter.meas.speedB = 789 ∧ hoistFollowAfter.meas.payout = 1450
    ∧ hoistFollowAfter.meas.tachExcess = none ∧ hoistFollowAfter.meas.vb = 12 := by
  decide +kernel

/-- Table 6-4 and Table 9-3. -/
theorem test_driven_at_hoist_follow :
    hoistFollowAfter.drive.command = 392 ∧ hoistFollowAfter.drive.target = 392
    ∧ hoistFollowAfter.drive.reference = 97536 ∧ hoistFollowAfter.drive.trim = 14
    ∧ hoistFollowAfter.drive.duty = 395 ∧ hoistFollowAfter.out.brakeSet = false
    ∧ hoistFollowAfter.heat.heat = 1199998 ∧ hoistFollowAfter.heat.level = 2
    ∧ masterCommand prm 1200 = 640 := by
  decide +kernel

/-- Table 2-4: station 3's queue at 104 ms. -/
def fullQueueOf3 : List Queued :=
  [⟨.object 4 12 .walking, 104, false, false⟩, ⟨.alarmNotice .fieldLoss 0 false 0, 100, false, false⟩,
   ⟨.alarmNotice .derateActive 0 false 0, 102, false, false⟩,
   ⟨.alarmNotice .tachFault 0 false 0, 103, false, false⟩,
   ⟨.stateReport 6 2 plainReport, 86, false, false⟩, ⟨.keepNotice 0 1, 90, false, false⟩,
   ⟨.keepNotice 0 2, 95, false, false⟩, ⟨.serviceReply 1 0 [], 97, false, false⟩]

/-- The requests of 2-4-1, each at its time. -/
def after241 : State :=
  let s : State := { stn with link := { stn.link with queue := fullQueueOf3 } }
  let s := { s with now := 106 }.queueFrame (.stateReport 7 2 plainReport)
  let s := { s with now := 107 }.queueFrame (.alarmNotice .brakeFault 0 false 0)
  let s := { s with now := 108 }.queueFrame (.keepNotice 2 1)
  let s := { s with now := 109 }.queueFrame (.object 6 3 .walking)
  { s with now := 110 }.queueFrame (.object 4 12 .walking)

/-- Table 2-5, and TX_DROPPED 3. -/
theorem test_full_queue :
    after241.link.queue.map (fun q => (q.cls, q.joined))
      = [(1, 104), (1, 109), (2, 100), (2, 102), (2, 103), (2, 107), (4, 86), (5, 90)]
    ∧ after241.link.queue.any (fun q => q.frame == .stateReport 7 2 plainReport) = true
    ∧ after241.link.txDropped = 3 := by
  decide +kernel

/-- Station 3's entry 1 in 3-9: FRESH, last sequence 10. -/
def station3 : State :=
  { stn with
    now := 1040
    ctl := { stn.ctl with straps := some ⟨2, 3⟩, params := some prm } }.modEntry 0 fun e =>
    { e with
      status := .fresh, lastSeq := 10, arrival := 1020, heard := true, role := 1
      expected := some .hoist, fields := plainReport }

/-- Sequence 12 arrives from station 1, and arrives again 1 ms later. -/
def report12 (s : State) : State :=
  nx (exec (.stateReport ⟨4, 1, 15⟩ (reportBytes 12 1 plainReport)) s)

/-- Table 3-3: one gap at 1040 ms, a duplicate at 1041 ms that leaves the arrival time. -/
theorem test_gap_and_duplicate :
    (let t := report12 { report12 station3 with now := 1041 }
     ((report12 station3).entry 0).gaps = 1 ∧ (t.entry 0).gaps = 1 ∧ (t.entry 0).dups = 1
     ∧ (t.entry 0).arrival = 1040 ∧ (t.entry 0).lastSeq = 12) := by
  decide +kernel

/-- 10-9: a FIELD_LOSS raised with value 95 at station 3 in RUN. -/
def fieldLost3 : State :=
  { station3 with
    ctl := { station3.ctl with mode := .run }
    alarm := { station3.alarm with nextSeq := 40, armSeq := 6 } }.raiseTrip .fieldLoss 95

theorem test_field_loss_raised :
    fieldLost3.alarm.table[11] = .activeUnack ∧ fieldLost3.hasCause .localTrip = true
    ∧ fieldLost3.ctl.mode = .hold ∧ fieldLost3.alarm.armSeq = 7 ∧ fieldLost3.out.horn = true
    ∧ fieldLost3.out.lampTrip = .flashing
    ∧ fieldLost3.alarm.list.map (fun e => (e.seq, e.event, e.value)) = [(40, .raised, 95)]
    ∧ fieldLost3.link.queue.map (fun q => q.frame) = [.alarmNotice .fieldLoss 95 true 7] := by
  decide +kernel

/-- 11-7: a full block of 512 slots and a block of 300 samples at their arms. -/
theorem test_arm_index :
    (let k := CaptureStore.reset.divide 4
     let k := k.modBlock 1 fun b => { b with state := .recording, stored := 512, oldest := 700 }
     let k := k.modBlock 0 fun b => { b with stored := 300 }
     let t := (k.toPost 1 12400 128 ⟨2, 7⟩ (some .fieldLoss)).toPost 0 12401 128 ⟨2, 7⟩ none
     (t.block 1).armIndex = 511 ∧ (t.block 1).complete = true ∧ (t.block 1).post = 128
     ∧ (t.block 0).armIndex = 300 ∧ (t.block 0).complete = false) := by
  decide +kernel

/-- R85, R90, R91: the step sizes and moves of 5-10-1, 6-13 and 8-5-1. -/
theorem test_ramp :
    rampStep 50 1 = 12 ∧ rampStep 500 2 = 256 ∧ rampStep 1000 2 = 512 ∧ rampStep 2000 2 = 1024
    ∧ rampMove 97280 100352 256 512 = 97536 ∧ rampMove 76800 0 256 1024 = 75776 := by
  decide

/-- The dig of 1-9: the idle tick counts one millisecond. -/
theorem test_idle_tick : (nx (step stn)).now = 50001 := by decide +kernel

/-- R1: station number 0 is invalid, so a power-on reset with it is a strap fault. -/
theorem test_strap_fault : (nx (exec (.powerOnReset ⟨1, 0⟩) stn)).ctl.mode = .stop := by
  decide +kernel

/-- Station 1 with SUPPLY_OK good and seven low samples counted, then one more sample as the pattern of
the millisecond gives it. -/
def supplyDips (run : Nat) (pattern : BitVec 8) : State :=
  nx (step { stn with
    pins := { stn.pins with supplyOk := true, supplyDip := pattern }
    meas := { stn.meas with supplyOk := ⟨true, run⟩ } })

/-- R80: eight low samples in a row are a fall, in one millisecond or across two; seven are none.  The samples
after the fall count, and the command of the fall leaves them. -/
theorem test_supply_filter :
    (supplyDips 0 0xFF).pending.contains .supplyOkFall = true
    ∧ (supplyDips 7 0x01).pending.contains .supplyOkFall = true
    ∧ (supplyDips 0 0x7F).pending.contains .supplyOkFall = false
    ∧ (supplyDips 0 0xFE).meas.supplyOk = ⟨true, 7⟩
    ∧ (supplyDips 3 0x1F).meas.supplyOk = ⟨false, 3⟩
    ∧ (nx (step (supplyDips 3 0x1F))).meas.supplyOk = ⟨false, 3⟩ := by
  decide +kernel

/-- A drag in TRANSFERRING at the end of its transfer limit, the expiry taken before the feedback's rise of
the same millisecond. -/
def expiryBeforeRise : State :=
  { supplies .transferring (strapped 2 3 stn) with
    role := { (supplies .transferring (strapped 2 3 stn)).role with
      transferLimit := some (ago 500 stn) }
    pending := [.transferLimitExpiry, .contactorFbRise] }

/-- R128: the drag is RETURNING with its output open when the edge arrives, and stays there. -/
theorem test_expiry_before_rise :
    (nx (step expiryBeforeRise)).role.supply = .returning
    ∧ (nx (step expiryBeforeRise)).out.transferClosed = false
    ∧ (nx (step (nx (step expiryBeforeRise)))).role.supply = .returning
    ∧ (nx (step (nx (step expiryBeforeRise)))).role.closedLimit = none := by
  decide +kernel

/-- R94: an expiry in STOP takes no step and leaves the trim. -/
theorem test_trim_held :
    (inMode .stop { stn with drive := { stn.drive with trim := 14, target := 20 } }).noStep.drive.trim = 14
    ∧ (inMode .stop { stn with drive := { stn.drive with trim := 14, target := 20 } }).noStep.drive.target
      = 0 := by
  decide +kernel

/-- The hoist of Table 5-8 with a full write block, and a field current above FIELD_MAX and an armature
voltage above ARM_V_MAX at one expiry. -/
def armedInExpiry : State :=
  nx (exec (.regulationIntervalExpiry ⟨3248, 2900, 4095, 4095⟩)
    { hoistFollow with
      capture := hoistFollow.capture.modBlock 0 fun b =>
        { b with state := .recording, stored := 512, oldest := 188 } })

/-- 11-7, R164, R166: the arms raised in an expiry find it over: the candidate of the next one is the arm
sample, and neither the post counter nor the merged arm's count has gone down. -/
theorem test_arms_within_expiry :
    (armedInExpiry.capture.block 0).state = .post ∧ (armedInExpiry.capture.block 0).armIndex = 511
    ∧ (armedInExpiry.capture.block 0).post = 16
    ∧ (armedInExpiry.capture.block 0).armCode = some .fieldOvercurrent
    ∧ armedInExpiry.capture.decisions.map (fun d => (d.code, d.mergedInto, d.count))
      = [(.armatureOvervoltage, (armedInExpiry.capture.block 0).armId, 16)] := by
  decide +kernel

/-- The walk station with both cams homed and the left cam just past home, the right cam homed or not at
the expiry before. -/
def pastHome (right : Bool) : State :=
  { skewedCams with
    walk := { skewedCams.walk with prevAngle := 3590, prevHomed := true, prevHomedRight := right } }

/-- R125: the left cam's crossing of home is a step.  R124: not at the expiry at which the right cam first
becomes homed, and the next expiry does not make up for it. -/
theorem test_step_count :
    (pastHome true).judgeCams.walk.stepCount = 1 ∧ (pastHome false).judgeCams.walk.stepCount = 0
    ∧ (pastHome false).judgeCams.judgeCams.walk.stepCount = 0 := by
  decide +kernel

/-- A drag with an excess time of 200 ms, in a supply state. -/
def excessOver (x : SupplyState) : State :=
  let s := supplies x (strapped 2 3 stn)
  { s with meas := { s.meas with tachRaised := false, tachExcess := some (ago 200 s) } }

/-- R81: the excess time raises TACH_FAULT in normal supply, and is stopped while the speeds are not
compared. -/
theorem test_tach_stopped_in_supply :
    (nx (exec .tachExcessExpiry (excessOver .normal))).meas.tachRaised = true
    ∧ nx (exec .tachExcessExpiry (excessOver .walkSupply)) = excessOver .walkSupply := by
  decide +kernel

/-- A hoist that pays out from its expiry on. -/
def drivenOff : State :=
  nx (exec (.regulationIntervalExpiry ⟨896, 2048, 2048, 2300⟩) wregulatorStep5)

/-- The expiries behind the conditional clauses happen: a hoist drives off and stays in RUN, a swing asks for
its release, a drag begins its transfer. -/
theorem test_expiries_go_on :
    drivenOff.ctl.mode = .run ∧ drivenOff.out.brakeSet = false ∧ drivenOff.drive.target < 0
    ∧ drivenOff.drive.reference < 0
    ∧ (nx (exec (.regulationIntervalExpiry ⟨3200, 2048, 2048, 2300⟩) wbrakeAndSwingRest2)).role.swing
      = .proposing
    ∧ (nx (exec (.regulationIntervalExpiry ⟨2048, 2048, 2048, 2048⟩) wcontactorEdges7)).role.supply
      = .transferring := by
  decide +kernel

end Sys2Proof.Tests
end

/-! The parts below switch asynchronous elaboration off: in a text of this size its threads together reserve more
memory than the check allows. -/

section
/-!
PROOFS. The driving output lines and the annunciator table: what shared operations leave of them.
-/

set_option Elab.async false

namespace Sys2Proof.Machine

/-! ### The output lines beside lamps and horn -/

/-- The output lines that drive: field duty and direction, brake and transfer output. -/
def Outputs.lines (o : Outputs) : Nat × FieldDir × Bool × Bool :=
  (o.fieldPwm, o.fieldDir, o.brakeSet, o.transferClosed)

/-- Outputs with the same driving lines differ in lamps and horn alone. -/
theorem Outputs.eq_of_lines {o o' : Outputs} (h : o'.lines = o.lines) :
    o' = { o with horn := o'.horn, lampWarn := o'.lampWarn, lampTrip := o'.lampTrip } := by
  cases o
  cases o'
  simp_all [Outputs.lines]

@[simp] theorem State.workLamps_lines (s : State) : s.workLamps.out.lines = s.out.lines := rfl

@[simp] theorem State.setMode_lines (s : State) (m : Mode) :
    (s.setMode m).out.lines = s.out.lines := rfl

@[simp] theorem State.setAnn_lines (s : State) (c : AlarmCode) (x : AnnState) :
    (s.setAnn c x).out.lines = s.out.lines := rfl

@[simp] theorem State.latch_lines (s : State) (c : AlarmCode) (v : Int) :
    (s.latch c v).out.lines = s.out.lines := rfl

@[simp] theorem State.tryRun_lines (s : State) : s.tryRun.out.lines = s.out.lines := by
  unfold State.tryRun
  split <;> simp

@[simp] theorem State.removeCause_lines (s : State) (c : HoldCause) :
    (s.removeCause c).out.lines = s.out.lines := by
  unfold State.removeCause
  split <;> simp

@[simp] theorem State.settleTrips_lines (s : State) :
    s.settleTrips.out.lines = s.out.lines := by
  unfold State.settleTrips
  split <;> simp

@[simp] theorem State.returnAlarm_lines (s : State) (c : AlarmCode) :
    (s.returnAlarm c).out.lines = s.out.lines := by
  unfold State.returnAlarm
  (repeat' split) <;> simp

@[simp] theorem State.ackCode_lines (s : State) (c : AlarmCode) :
    (s.ackCode c).out.lines = s.out.lines := by
  unfold State.ackCode
  split <;> simp

@[simp] theorem State.raiseWarn_lines (s : State) (c : AlarmCode) (v : Int) :
    (s.raiseWarn c v).out.lines = s.out.lines := by
  unfold State.raiseWarn
  split <;> simp

@[simp] theorem State.raiseFull_lines (s : State) : s.raiseFull.out.lines = s.out.lines := by
  unfold State.raiseFull
  simp

@[simp] theorem State.firstWriteBlock_lines (s : State) :
    s.firstWriteBlock.out.lines = s.out.lines := by
  unfold State.firstWriteBlock
  (repeat' split) <;> simp

/-! ### The annunciator table -/

/-- The code that stands at a code's place in the list of codes is that code. -/
theorem allCodes_getElem?_index (c : AlarmCode) : allCodes[c.index.val]? = some c := by
  cases c <;> rfl

theorem AlarmCode.index_injective : Function.Injective AlarmCode.index := fun c d h =>
  Option.some.inj ((allCodes_getElem?_index c).symm.trans (h ▸ allCodes_getElem?_index d))

@[simp] theorem State.setAnn_ann_same (s : State) (c : AlarmCode) (x : AnnState) :
    (s.setAnn c x).ann c = x :=
  Vector.getElem_set_self _

theorem State.setAnn_ann_other (s : State) {c d : AlarmCode} (x : AnnState) (h : d ≠ c) :
    (s.setAnn c x).ann d = s.ann d :=
  Vector.getElem_set_ne c.index.isLt d.index.isLt fun e => h (AlarmCode.index_injective (Fin.ext e)).symm

theorem State.ann_congr {s t : State} (h : t.alarm.table = s.alarm.table) (c : AlarmCode) :
    t.ann c = s.ann c := by
  unfold State.ann AlarmUnit.stateOf
  rw [h]

end Sys2Proof.Machine
end

section
/-!
PROOFS. `Orderly`: what a command that is neither a reset, a load nor the end of LISTEN may do to a station.
-/

set_option Elab.async false

namespace Sys2Proof.Machine

/-! ### What a command may do -/

/-- What a peer table has from the roster: expected role, place and unlisted mark of each entry (R31). -/
def PeerTable.listing (t : PeerTable) (n : Station) : Option Role × Option Place × Bool :=
  (t.entries[n].expected, t.entries[n].place, t.entries[n].unlisted)

/-- What only a reset or a load touches. -/
def State.frozen (s : State) :=
  (s.pending, s.now, s.ctl.straps, s.ctl.restart, s.ctl.params, s.ctl.roster, s.ctl.place,
    s.peers.listing)

/-- What the conditions of RUN and the annunciator read, and what is frozen. -/
def State.judged (s : State) :=
  (s.frozen, s.ctl.mode, s.ctl.causes, s.ctl.neutralSince, s.meas.runPermit, s.alarm.table)

/-- What the safe outputs are judged by. -/
def State.driven (s : State) :=
  (s.out.lines, s.drive.duty, s.drive.reference, s.walk.state)

/-- Where a command that is neither a reset, a load nor the end of LISTEN takes the mode: nowhere, between HOLD
and RUN, or to STOP, from LOADING only if `p` (Table 1-3). -/
def Mode.Drifts (p : Prop) (a b : Mode) : Prop :=
  b = a ∨ (a = .hold ∧ b = .run) ∨ (a = .run ∧ b = .hold) ∨ (b = .stop ∧ (a = .loading → p))

/-- A station in RUN meets the three conditions of R9. -/
def State.RunEarned (s : State) : Prop :=
  s.ctl.mode = .run →
    s.ctl.causes.isEmpty = true ∧ s.meas.runPermit.value = true
      ∧ s.ran s.ctl.neutralSince 200 = true

/-- From `s` to `t` nothing has happened that a command may not do which is neither a reset, a load nor the end
of LISTEN: every shared operation leads from a state to such a one. -/
structure Orderly (p : Prop) (s t : State) : Prop where
  frozen : t.frozen = s.frozen
  mode : s.ctl.mode.Drifts p t.ctl.mode
  run : s.RunEarned → t.RunEarned
  safe : s.SafeModes → t.SafeModes
  stops : s.StopCodesStop → t.StopCodesStop

theorem Mode.Drifts.trans {p : Prop} {a b c : Mode} (h : a.Drifts p b) (h' : b.Drifts p c) :
    a.Drifts p c := by
  rcases h with rfl | ⟨rfl, rfl⟩ | ⟨rfl, rfl⟩ | ⟨rfl, hp⟩
  · exact h'
  all_goals
    rcases h' with rfl | ⟨ha, rfl⟩ | ⟨ha, rfl⟩ | ⟨rfl, ha⟩ <;> simp_all [Mode.Drifts]

theorem Mode.Drifts.mayBecome {p : Prop} {a b : Mode} (h : a.Drifts p b) :
    a.mayBecome b = true := by
  rcases h with rfl | ⟨rfl, rfl⟩ | ⟨rfl, rfl⟩ | ⟨rfl, -⟩
  · cases b <;> rfl
  · rfl
  · rfl
  · cases a <;> rfl

/-- LOADING is not entered again. -/
theorem Mode.Drifts.ne_loading {p : Prop} {a b : Mode} (h : a.Drifts p b) (ha : a ≠ .loading) :
    b ≠ .loading := by
  rcases h with rfl | ⟨-, rfl⟩ | ⟨-, rfl⟩ | ⟨rfl, -⟩
  · exact ha
  all_goals decide

/-- STOP is not left. -/
theorem Mode.Drifts.eq_stop {p : Prop} {a b : Mode} (h : a.Drifts p b) (ha : a = .stop) :
    b = .stop := by
  subst ha
  simpa [Mode.Drifts] using h

namespace Orderly

variable {p : Prop} {s t u : State}

@[refl] theorem refl (s : State) : Orderly p s s :=
  ⟨rfl, .inl rfl, id, id, id⟩

@[trans] theorem trans (h : Orderly p s t) (h' : Orderly p t u) : Orderly p s u :=
  ⟨h'.frozen.trans h.frozen, h.mode.trans h'.mode, h'.run ∘ h.run, h'.safe ∘ h.safe,
    h'.stops ∘ h.stops⟩

/-- An operation that leaves what the conditions of RUN and the annunciator read. -/
theorem of_judged (h : t.judged = s.judged) (hs : s.SafeModes → t.SafeModes) : Orderly p s t := by
  simp only [State.judged, Prod.mk.injEq] at h
  obtain ⟨hf, hm, hc, hn, hp, ha⟩ := h
  have hnow : t.now = s.now := by
    simp only [State.frozen, Prod.mk.injEq] at hf
    obtain ⟨-, hnow, -⟩ := hf
    exact hnow
  refine ⟨hf, .inl hm, ?_, hs, ?_⟩
  · unfold State.RunEarned State.ran State.since
    rw [hm, hc, hn, hp, hnow]
    exact id
  · unfold State.StopCodesStop
    simp only [State.ann_congr ha, hm]
    exact id

theorem safeModes_congr (hm : t.ctl.mode = s.ctl.mode) (hd : t.driven = s.driven)
    (h : s.SafeModes) : t.SafeModes := by
  simp only [State.driven, Outputs.lines, Prod.mk.injEq] at hd
  obtain ⟨⟨hf, -, hb, ht⟩, hduty, href, hw⟩ := hd
  unfold State.SafeModes State.outputsOff at *
  rw [hm, hf, hb, ht, hduty, href, hw]
  exact h

/-- An operation that touches nothing that counts here. -/
theorem of_eq (h : t.judged = s.judged) (hd : t.driven = s.driven) : Orderly p s t :=
  of_judged h fun hs => by
    simp only [State.judged, Prod.mk.injEq] at h
    obtain ⟨-, hm, -⟩ := h
    exact safeModes_congr hm hd hs

/-- Both branches are orderly. -/
theorem ite {c : Prop} [Decidable c] (ht : c → Orderly p s t) (hu : ¬c → Orderly p s u) :
    Orderly p s (if c then t else u) := by
  split
  · next h => exact ht h
  · next h => exact hu h

/-- A guarded operation is orderly where its guard holds. -/
theorem guarded {c : Prop} [Decidable c] (ht : c → Orderly p s t) :
    Orderly p s (if c then t else s) :=
  .ite ht fun _ => .refl s

/-- A fold of orderly moves is orderly. -/
theorem foldl {α : Type} {f : State → α → State} (hf : ∀ s x, Orderly p s (f s x))
    (l : List α) (s : State) : Orderly p s (l.foldl f s) := by
  induction l generalizing s with
  | nil => exact .refl _
  | cons x l ih => exact (hf s x).trans (ih _)

end Orderly

@[simp] theorem PeerTable.listing_congr (n : Station) (f : PeerEntry → PeerEntry) (t : PeerTable)
    (hf : ∀ e : PeerEntry, ((f e).expected, (f e).place, (f e).unlisted) = (e.expected, e.place, e.unlisted)) :
    ({ t with entries := t.entries.set n (f t.entries[n]) } : PeerTable).listing = t.listing := by
  funext k
  simp only [PeerTable.listing, Prod.mk.injEq] at *
  by_cases h : n = k
  · subst h
    simp [hf]
  · simp [Vector.getElem_set_ne, h, Fin.val_inj]
end Sys2Proof.Machine
end

section
/-!
PROOFS. Flags, alarms and the first shared operations are orderly.
-/

set_option Elab.async false

namespace Sys2Proof.Machine

section Orderly

variable {p : Prop}

/-! ### Mode, causes and annunciator -/

/-- The condition of R9 is tested at the entry to RUN. -/
theorem State.tryRun_orderly (s : State) : Orderly p s s.tryRun := by
  unfold State.tryRun
  split
  · next h =>
    obtain ⟨hm, hc, hp, hn⟩ := h
    refine ⟨rfl, .inr (.inl ⟨hm, rfl⟩), fun _ _ => ⟨hc, hp, hn⟩, fun _ h => ?_, fun h hc => ?_⟩
    · exact absurd h Bool.false_ne_true
    · exact absurd (hm.symm.trans (h hc)) (by decide)
  · exact .refl _

/-- A cause less leaves RUN earned. -/
theorem HoldCauses.isEmpty_put_false {h : HoldCauses} (c : HoldCause) (he : h.isEmpty = true) :
    (h.put c false).isEmpty = true := by
  cases c <;> simp_all [HoldCauses.put, HoldCauses.isEmpty]

theorem State.putCause_false_orderly (s : State) (c : HoldCause) :
    Orderly p s (s.putCause c false) :=
  ⟨rfl, .inl rfl, fun h hm => ⟨HoldCauses.isEmpty_put_false c (h hm).1, (h hm).2⟩, id, id⟩

theorem State.removeCause_orderly (s : State) (c : HoldCause) :
    Orderly p s (s.removeCause c) :=
  .guarded fun _ => (s.putCause_false_orderly c).trans (State.tryRun_orderly _)

theorem State.settleTrips_orderly (s : State) : Orderly p s s.settleTrips :=
  .guarded fun _ => s.removeCause_orderly _

/-- A move of the annunciator that takes no STOP code away from NORMAL. -/
theorem State.setAnn_orderly (s : State) (c : AlarmCode) (x : AnnState)
    (h : c.severity = .stop → x ≠ .normal → s.ann c ≠ .normal) : Orderly p s (s.setAnn c x) := by
  refine ⟨rfl, .inl rfl, id, id, fun hs ⟨d, hd, hsev, haway⟩ => hs ⟨d, hd, hsev, ?_⟩⟩
  by_cases hdc : d = c
  · subst hdc
    rw [State.setAnn_ann_same] at haway
    exact h hsev haway
  · rwa [State.setAnn_ann_other s x hdc] at haway

theorem State.logOwn_orderly (s : State) (c : AlarmCode) (e : ListEvent) (v : Word16) :
    Orderly p s (s.logOwn c e v) :=
  .of_eq rfl rfl

theorem State.returnAlarm_orderly (s : State) (c : AlarmCode) : Orderly p s (s.returnAlarm c) := by
  unfold State.returnAlarm
  split
  · exact .refl _
  · split
    · next h =>
      exact (s.setAnn_orderly _ _ fun _ _ => by simp [h]).trans (State.logOwn_orderly _ _ _ _)
    · exact ((s.setAnn_orderly _ _ fun _ h => absurd rfl h).trans
        (State.logOwn_orderly _ _ _ _)).trans (State.settleTrips_orderly _)
    all_goals exact .refl _

theorem State.ackCode_orderly (s : State) (c : AlarmCode) : Orderly p s (s.ackCode c) := by
  unfold State.ackCode
  split
  · next h => exact (s.setAnn_orderly _ _ fun _ _ => by simp [h]).trans (State.logOwn_orderly _ _ _ _)
  · exact (s.setAnn_orderly _ _ fun _ h => absurd rfl h).trans (State.logOwn_orderly _ _ _ _)
  all_goals exact .refl _

theorem State.acknowledge_orderly (s : State) : Orderly p s s.acknowledge :=
  (Orderly.foldl State.ackCode_orderly allCodes s).trans (State.settleTrips_orderly _)

/-! ### Raises of WARN codes, the transmit queue and the capture store -/

theorem State.queueFrame_orderly (s : State) (f : OutFrame) : Orderly p s (s.queueFrame f) :=
  .of_eq (by simp [State.judged, State.frozen]) (by simp [State.driven])

theorem State.latch_orderly (s : State) (c : AlarmCode) (v : Int) (h : c.severity ≠ .stop) :
    Orderly p s (s.latch c v) :=
  (s.setAnn_orderly _ _ fun hs _ => absurd hs h).trans (State.logOwn_orderly _ _ _ _)

@[simp] theorem State.localArm_table (s : State) (c : AlarmCode) (m : Mode) :
    (s.localArm c m).alarm.table = s.alarm.table := by
  unfold State.localArm
  (repeat' split) <;> simp

theorem State.armAndNotice_orderly (s : State) (c : AlarmCode) (v : Int) (m : Mode) :
    Orderly p s (s.armAndNotice c v m) := by
  unfold State.armAndNotice
  exact .of_eq (by simp [State.judged, State.frozen]) (by simp [State.driven])

theorem State.raiseWarn_orderly (s : State) (c : AlarmCode) (v : Int)
    (h : c.severity ≠ .stop := by decide) : Orderly p s (s.raiseWarn c v) :=
  .ite (fun _ => .refl _) fun _ => (s.latch_orderly c v h).trans (State.armAndNotice_orderly _ _ _ _)

theorem State.modCapture_orderly (s : State) (f : CaptureStore → CaptureStore) :
    Orderly p s (s.modCapture f) :=
  .of_eq rfl rfl

theorem State.raiseFull_orderly (s : State) : Orderly p s s.raiseFull :=
  (s.modCapture_orderly _).trans (State.raiseWarn_orderly _ _ _)

theorem State.becomeKept_orderly (s : State) (i : Nat) : Orderly p s (s.becomeKept i) :=
  .ite (fun _ => (s.modCapture_orderly _).trans (State.raiseFull_orderly _)) fun _ =>
    s.modCapture_orderly _

theorem State.keepById_orderly (s : State) (id : ArmId) : Orderly p s (s.keepById id) :=
  (s.modCapture_orderly _).trans (.foldl State.becomeKept_orderly _ _)

theorem State.takeKeepNotice_orderly (s : State) (id : ArmId) :
    Orderly p s (s.takeKeepNotice id) :=
  .ite (fun _ => s.modCapture_orderly _) fun _ => s.keepById_orderly id

theorem State.settleDecision_orderly (s : State) (d : Decision) :
    Orderly p s (s.settleDecision d) := by
  unfold State.settleDecision
  split
  · exact .refl _
  · dsimp only
    split
    · exact (s.queueFrame_orderly _).trans (State.keepById_orderly _ _)
    · exact s.queueFrame_orderly _

theorem State.decideDue_orderly (s : State) : Orderly p s s.decideDue :=
  (s.modCapture_orderly _).trans (.foldl State.settleDecision_orderly _ _)

theorem State.settlePost_orderly (s : State) (i : Nat) : Orderly p s (s.settlePost i) := by
  unfold State.settlePost
  refine .ite (fun _ => ?_) fun _ =>
    .ite (fun _ => s.modCapture_orderly _) fun _ => s.modCapture_orderly _
  dsimp only
  split
  · exact (s.becomeKept_orderly i).trans (State.queueFrame_orderly _ _)
  · exact s.becomeKept_orderly i

theorem State.endPost_orderly (s : State) : Orderly p s s.endPost := by
  unfold State.endPost
  split
  · split
    · exact (s.settlePost_orderly _).trans (State.modCapture_orderly _ _)
    · exact .refl _
  · exact .refl _

theorem State.expireKeep_orderly (s : State) (i : Nat) : Orderly p s (s.expireKeep i) :=
  .guarded fun _ => s.modCapture_orderly _

theorem State.releaseHead_orderly (s : State) : Orderly p s s.releaseHead := by
  unfold State.releaseHead
  split
  · exact .refl _
  · dsimp only
    split
    · exact ((s.modCapture_orderly _).trans (State.modCapture_orderly _ _)).trans
        (State.returnAlarm_orderly _ _)
    · exact s.modCapture_orderly _

theorem State.firstWriteBlock_orderly (s : State) : Orderly p s s.firstWriteBlock := by
  unfold State.firstWriteBlock
  split
  · exact s.modCapture_orderly _
  · split
    · exact s.raiseFull_orderly
    · exact .refl _

end Orderly
end Sys2Proof.Machine
end

section
/-!
PROOFS. Regulator, walk, supply, swing, consent and the own report are orderly.
-/

set_option Elab.async false

namespace Sys2Proof.Machine

section Orderly

variable {p : Prop}

/-! ### Outputs, regulator and walk state -/

theorem State.modDrive_orderly (s : State) (f : DriveRegulator → DriveRegulator)
    (h : ((f s.drive).duty, (f s.drive).reference) = (s.drive.duty, s.drive.reference) := by rfl) :
    Orderly p s (s.modDrive f) := by
  rw [Prod.mk.injEq] at h
  exact .of_eq rfl (by simp [State.driven, h])

theorem State.modWalk_orderly (s : State) (f : WalkSequencer → WalkSequencer)
    (h : (f s.walk).state = s.walk.state := by rfl) : Orderly p s (s.modWalk f) :=
  .of_eq rfl (by simp [State.driven, h])

theorem State.modMeas_orderly (s : State) (f : Measurement → Measurement)
    (h : (f s.meas).runPermit = s.meas.runPermit := by rfl) : Orderly p s (s.modMeas f) :=
  .of_eq (by simp [State.judged, State.frozen, h]) rfl

theorem State.modRole_orderly (s : State) (f : RoleLogic → RoleLogic) :
    Orderly p s (s.modRole f) := .of_eq rfl rfl

theorem State.modOwn_orderly (s : State) (f : OwnRecord → OwnRecord) :
    Orderly p s (s.modOwn f) := .of_eq rfl rfl

theorem State.modConsent_orderly (s : State) (f : ConsentEngine → ConsentEngine) :
    Orderly p s (s.modConsent f) := .of_eq rfl rfl

theorem State.modLink_orderly (s : State) (f : LinkController → LinkController) :
    Orderly p s (s.modLink f) := .of_eq rfl rfl

theorem State.modHeat_orderly (s : State) (f : HeatMonitor → HeatMonitor) :
    Orderly p s (s.modHeat f) := .of_eq rfl rfl

theorem State.setSlot_orderly (s : State) (b : Bool) : Orderly p s (s.setSlot b) := .of_eq rfl rfl

theorem State.clearReference_orderly (s : State) : Orderly p s s.clearReference :=
  .of_judged rfl fun h hm => by
    obtain ⟨⟨-, hb, ht⟩, -, -, hw⟩ := h hm
    exact ⟨⟨rfl, hb, ht⟩, rfl, rfl, hw⟩

theorem State.setTransfer_false_orderly (s : State) : Orderly p s (s.setTransfer false) :=
  .of_judged rfl fun h hm => by
    obtain ⟨⟨hf, hb, -⟩, hrest⟩ := h hm
    exact ⟨⟨hf, hb, rfl⟩, hrest⟩

/-- A station with a live walk is in HOLD or RUN, if its safe modes are. -/
theorem State.SafeModes.not_safe {s : State} (h : s.SafeModes) (hw : s.walk.state.live = true) :
    s.ctl.mode.safe ≠ true := fun hm => by
  obtain ⟨-, -, -, hl⟩ := h hm
  exact absurd (hw.symm.trans hl) (by decide)

/-- An operation of a station that is in HOLD or RUN, or whose walk is live. -/
theorem Orderly.of_awake {s t : State} (hj : t.judged = s.judged)
    (h : s.ctl.mode.safe = false ∨ s.walk.state.live = true) : Orderly p s t :=
  .of_judged hj fun hs hm => by
    simp only [State.judged, Prod.mk.injEq] at hj
    obtain ⟨-, hmode, -⟩ := hj
    rw [hmode] at hm
    rcases h with h | h
    · exact absurd (hm.symm.trans h) (by decide)
    · exact absurd hm (hs.not_safe h)

theorem State.setBrake_true_orderly (s : State) : Orderly p s (s.setBrake true) :=
  .of_judged rfl fun h hm => by
    obtain ⟨⟨hf, -, ht⟩, hrest⟩ := h hm
    exact ⟨⟨hf, rfl, ht⟩, hrest⟩

theorem State.setBrake_orderly (s : State) (b : Bool)
    (h : s.ctl.mode.safe = false ∨ s.walk.state.live = true) : Orderly p s (s.setBrake b) :=
  .of_awake rfl h

/-- A walk state that is not live may be entered at any time. -/
theorem State.enterWalk_orderly (s : State) (x : WalkState) (h : x.live = false := by rfl) :
    Orderly p s (s.enterWalk x) :=
  .of_judged rfl fun hs hm => by
    obtain ⟨hout, hd, hr, -⟩ := hs hm
    exact ⟨hout, hd, hr, h⟩

theorem State.enterWalk_live_orderly (s : State) (x : WalkState)
    (h : s.ctl.mode.safe = false ∨ s.walk.state.live = true) : Orderly p s (s.enterWalk x) :=
  .of_awake rfl h

/-! ### Moves that several events share -/

theorem State.withdrawPermission_orderly (s : State) : Orderly p s s.withdrawPermission :=
  .ite (fun _ => .refl _) fun _ => (s.setBrake_true_orderly.trans
    (State.clearReference_orderly _)).trans (State.modDrive_orderly _ _)

theorem State.clearProposal_orderly (s : State) : Orderly p s s.clearProposal := by
  have h : Orderly p s
      (if (s.modOwn fun o => { o with status := .idle }).swingLead then
        (s.modOwn fun o => { o with status := .idle }).withdrawPermission
      else s.modOwn fun o => { o with status := .idle }) :=
    (s.modOwn_orderly _).trans (.guarded fun _ => State.withdrawPermission_orderly _)
  unfold State.clearProposal
  split
  · exact h
  · exact h
  all_goals exact .refl _

theorem State.dropSectorMarks_orderly (s : State) : Orderly p s s.dropSectorMarks :=
  (s.modRole_orderly _).trans (.guarded fun _ => State.returnAlarm_orderly _ _)

theorem State.lockSwing_orderly (s : State) : Orderly p s s.lockSwing :=
  (s.modRole_orderly _).trans (State.dropSectorMarks_orderly _)

theorem State.raiseWithdrawn_orderly (s : State) : Orderly p s s.raiseWithdrawn := by
  unfold State.raiseWithdrawn
  split <;> exact s.raiseWarn_orderly _ _

theorem State.stopSwing_orderly (s : State) : Orderly p s s.stopSwing := by
  refine .guarded fun _ => ?_
  split
  · exact s.lockSwing_orderly.trans (State.clearProposal_orderly _)
  · exact (s.lockSwing_orderly.trans (State.raiseWithdrawn_orderly _)).trans
      (State.clearProposal_orderly _)
  all_goals exact .refl _

theorem State.withdrawSwing_orderly (s : State) (x : Station × Reason) :
    Orderly p s (s.withdrawSwing x) :=
  .guarded fun _ => (s.modRole_orderly _).trans (State.dropSectorMarks_orderly _)

theorem State.enterStopping_orderly (s : State) (x : StopPhase)
    (h : s.ctl.mode.safe = false ∨ s.walk.state.live = true) :
    Orderly p s (s.enterStopping x) :=
  (s.enterWalk_live_orderly _ h).trans (State.modWalk_orderly _ _)

theorem State.stopWalk_orderly (s : State) : Orderly p s s.stopWalk := by
  unfold State.stopWalk
  split
  · next h => exact s.enterStopping_orderly _ (.inr (by rw [h]; rfl))
  · exact (s.enterWalk_orderly _).trans (State.clearProposal_orderly _)
  all_goals exact .refl _

theorem State.abortWalk_orderly (s : State) (v : Int) : Orderly p s (s.abortWalk v) :=
  .ite (fun _ => s.stopWalk_orderly.trans (State.raiseWarn_orderly _ _ _)) fun _ => s.stopWalk_orderly

theorem State.supplyNormal_orderly (s : State) : Orderly p s s.supplyNormal :=
  (s.modRole_orderly _).trans (State.returnAlarm_orderly _ _)

theorem State.openTransfer_orderly (s : State) : Orderly p s s.openTransfer :=
  (s.setTransfer_false_orderly.trans (State.modRole_orderly _ _)).trans
    (.guarded fun _ => State.supplyNormal_orderly _)

theorem State.endSupply_orderly (s : State) : Orderly p s s.endSupply := by
  have h : Orderly p s (((s.clearReference).modRole fun r =>
      { r with supply := .returning, transferLimit := none }).openTransfer) :=
    (s.clearReference_orderly.trans (State.modRole_orderly _ _)).trans
      (State.openTransfer_orderly _)
  unfold State.endSupply
  split
  · exact h
  · exact h
  all_goals exact .refl _

theorem State.returnSupply_orderly (s : State) : Orderly p s s.returnSupply :=
  (s.modRole_orderly _).trans (.guarded fun _ => State.openTransfer_orderly _)

/-! ### The consent engine -/

theorem State.tellCancel_orderly (s : State) (k : ProposalKind) : Orderly p s (s.tellCancel k) := by
  unfold State.tellCancel
  split
  · exact .guarded fun _ => s.modRole_orderly _
  · exact .guarded fun _ => s.enterWalk_orderly _

theorem State.cancelProposal_orderly (s : State) (o : CancelOutcome) :
    Orderly p s (s.cancelProposal o) := by
  unfold State.cancelProposal
  dsimp only
  split
  · exact ((s.modOwn_orderly _).trans (State.tellCancel_orderly _ _)).trans
      (State.raiseWarn_orderly _ _ _)
  · exact (s.modOwn_orderly _).trans (State.raiseWarn_orderly _ _ _)

theorem State.tellProposing_orderly (s : State) (k : ProposalKind) :
    Orderly p s (s.tellProposing k) := by
  unfold State.tellProposing
  split
  · exact s.modRole_orderly _
  · exact s.enterWalk_orderly _

theorem State.beginProposal_orderly (s : State) (k : ProposalKind) :
    Orderly p s (s.beginProposal k) :=
  (s.modOwn_orderly _).trans (State.queueFrame_orderly _ _)

theorem State.objectTo_orderly (s : State) (q : Station) (n : Byte) (r : Reason) :
    Orderly p s (s.objectTo q n r) :=
  s.queueFrame_orderly _

/-- The first four steps of R50: the new number and kind, with the owner told. -/
def State.newProposal (s : State) (k : ProposalKind) : State :=
  ((s.returnAlarm .consentRefused).modOwn fun r =>
    { r with
      number := nextNumber r.number
      kind := some k
      queueTime := s.now
      objected := none
      windowStart := none
      echoSeen := Vector.replicate 8 false }).tellProposing k

theorem State.requestProposal_eq (s : State) (k : ProposalKind) :
    s.requestProposal k =
      if s.consent.own.status ≠ .idle then s
      else
        match (s.newProposal k).consent.held, (s.newProposal k).self with
        | some h, some me =>
          if h.proposer < me then (s.newProposal k).cancelProposal (.yielded h.proposer)
          else
            (((s.newProposal k).modConsent fun c => { c with held := none }).objectTo h.proposer
              h.number .contending).beginProposal k
        | _, _ => (s.newProposal k).beginProposal k := rfl

theorem State.newProposal_orderly (s : State) (k : ProposalKind) :
    Orderly p s (s.newProposal k) :=
  ((s.returnAlarm_orderly _).trans (State.modOwn_orderly _ _)).trans (State.tellProposing_orderly _ k)

theorem State.requestProposal_orderly (s : State) (k : ProposalKind) :
    Orderly p s (s.requestProposal k) := by
  rw [State.requestProposal_eq]
  refine .ite (fun _ => .refl _) fun _ => (s.newProposal_orderly k).trans ?_
  split
  · exact .ite (fun _ => State.cancelProposal_orderly _ _) fun _ =>
      ((State.modConsent_orderly _ _).trans (State.objectTo_orderly _ _ _ _)).trans
        (State.beginProposal_orderly _ _)
  · exact State.beginProposal_orderly _ _

theorem State.removePropose_orderly (s : State) (n : Byte) : Orderly p s (s.removePropose n) :=
  s.modLink_orderly _

theorem State.expireSendLimit_orderly (s : State) : Orderly p s s.expireSendLimit :=
  .guarded fun _ => (s.cancelProposal_orderly _).trans (State.removePropose_orderly _ _)

theorem State.castVote_orderly (s : State) (q : Station) (n : Byte) (k : ProposalKind) :
    Orderly p s (s.castVote q n k) :=
  .of_eq (by simp [State.judged, State.frozen]) (by simp [State.driven])

theorem State.revote_orderly (s : State) : Orderly p s s.revote :=
  .of_eq (by simp [State.judged, State.frozen]) (by simp [State.driven])

theorem State.holdNew_orderly (s : State) (q : Station) (n : Byte) (k : ProposalKind) :
    Orderly p s (s.holdNew q n k) :=
  .ite (fun _ => .refl _) fun _ => s.modConsent_orderly _

theorem State.holdByTable_orderly (s : State) (q : Station) (n : Byte) (k : ProposalKind) :
    Orderly p s (s.holdByTable q n k) :=
  .of_eq (by simp [State.judged, State.frozen]) (by simp [State.driven])

theorem State.yieldTo_orderly (s : State) (q : Station) (n : Byte) (k : ProposalKind) :
    Orderly p s (s.yieldTo q n k) :=
  ((s.cancelProposal_orderly _).trans (State.removePropose_orderly _ _)).trans
    (State.holdNew_orderly _ _ _ _)

theorem State.settlePropose_orderly (s : State) (q : Station) (n : Byte) (k : ProposalKind) :
    Orderly p s (s.settlePropose q n k) := by
  unfold State.settlePropose
  split
  · exact s.holdByTable_orderly _ _ _
  · exact .guarded fun _ => s.yieldTo_orderly _ _ _
  · exact .refl _

theorem State.takePropose_orderly (s : State) (q : Station) (n : Byte) (k : ProposalKind) :
    Orderly p s (s.takePropose q n k) :=
  .ite (fun _ => (s.settlePropose_orderly q n k).trans (State.castVote_orderly _ _ _ _)) fun _ =>
    .guarded fun _ => s.objectTo_orderly _ _ _

theorem State.takeCurrentObject_orderly (s : State) (x : Station × Reason) :
    Orderly p s (s.takeCurrentObject x) := by
  unfold State.takeCurrentObject
  split
  · exact s.modOwn_orderly _
  · split
    · exact s.abortWalk_orderly _
    all_goals exact (s.modOwn_orderly _).trans (State.withdrawSwing_orderly _ _)
  all_goals exact .refl _

theorem State.takeObject_orderly (s : State) (src q : Station) (n : Byte) (r : Reason) :
    Orderly p s (s.takeObject src q n r) :=
  .ite (fun _ => .refl _) fun _ =>
    .ite (fun _ => s.takeCurrentObject_orderly _) fun _ => s.modConsent_orderly _

/-- The walk goes to TRANSFER at a commit, which is made in RUN (Table 4-6). -/
theorem State.tellCommit_orderly (s : State) (k : ProposalKind) (h : s.ctl.mode.safe = false) :
    Orderly p s (s.tellCommit k) := by
  unfold State.tellCommit
  split
  · exact .guarded fun _ => s.modRole_orderly _
  · exact .guarded fun _ => (s.enterWalk_live_orderly _ (.inl h)).trans (State.modWalk_orderly _ _)

theorem State.windowTests_eq_none {s : State} {k : ProposalKind} (h : s.windowTests k = none) :
    s.ctl.mode = .run := by
  unfold State.windowTests at h
  (repeat' split at h) <;> simp_all [State.preconditions]

theorem State.expireWindow_orderly (s : State) : Orderly p s s.expireWindow := by
  refine .guarded fun _ => ?_
  split
  · exact .refl _
  · split
    · exact s.cancelProposal_orderly _
    · next h =>
      exact (s.modOwn_orderly _).trans (State.tellCommit_orderly _ _
        (by rw [State.modOwn_ctl, State.windowTests_eq_none h]; rfl))

/-! ### The peer table and the own report -/

/-- An entry changes, but for what the roster gave it. -/
theorem State.modEntry_orderly (s : State) (n : Station) (f : PeerEntry → PeerEntry)
    (h : ∀ e, ((f e).expected, (f e).place, (f e).unlisted) = (e.expected, e.place, e.unlisted)
      := by intro e; rfl) : Orderly p s (s.modEntry n f) :=
  .of_eq (by
    have hl := PeerTable.listing_congr n f s.peers h
    simp only [State.judged, State.frozen, State.modEntry, State.modPeers_peers, hl]
    rfl) rfl

theorem State.fillOwnEntry_orderly (s : State) (q : BitVec 4) (f : ReportFields) :
    Orderly p s (s.fillOwnEntry q f) := by
  unfold State.fillOwnEntry
  split
  · exact .guarded fun _ => s.modEntry_orderly _ _
  · exact .refl _

theorem State.modCtl_orderly (s : State) (f : StationControl → StationControl)
    (h : ((f s.ctl).mode, (f s.ctl).causes, (f s.ctl).neutralSince, (f s.ctl).straps,
        (f s.ctl).restart, (f s.ctl).params, (f s.ctl).roster, (f s.ctl).place)
      = (s.ctl.mode, s.ctl.causes, s.ctl.neutralSince, s.ctl.straps, s.ctl.restart, s.ctl.params,
        s.ctl.roster, s.ctl.place) := by rfl) : Orderly p s (s.modCtl f) := by
  simp only [Prod.mk.injEq] at h
  exact .of_eq (by simp [State.judged, State.frozen, h]) rfl

theorem State.startReportTimer_orderly (s : State) : Orderly p s s.startReportTimer :=
  s.modCtl_orderly _

theorem State.ownReport_orderly (s : State) : Orderly p s s.ownReport :=
  ((s.revote_orderly.trans (State.modCtl_orderly _ _)).trans (State.fillOwnEntry_orderly _ _ _)).trans
    (State.queueFrame_orderly _ _)

theorem State.reportEvent_orderly (s : State) : Orderly p s s.reportEvent :=
  s.startReportTimer_orderly.trans (State.ownReport_orderly _)

end Orderly
end Sys2Proof.Machine
end

section
/-!
PROOFS. HOLD, the forced stop of a walk and the entry to STOP.
-/

set_option Elab.async false

namespace Sys2Proof.Machine

section Orderly

variable {p : Prop}

/-! ### HOLD -/

/-- RUN is left for HOLD, and the neutral time starts afresh (R10). -/
def State.dropToHold (s : State) : State :=
  (s.setMode .hold).modCtl fun c => { c with neutralSince := none }

/-- A station that was in RUN drops to HOLD, whatever has become of its causes and inputs. -/
theorem State.dropToHold_orderly {s u : State} (hm : s.ctl.mode = .run) (hf : u.frozen = s.frozen)
    (ha : u.alarm.table = s.alarm.table) : Orderly p s u.dropToHold := by
  refine ⟨hf, .inr (.inr (.inl ⟨hm, rfl⟩)), fun _ h => ?_, fun _ h => ?_, fun h ⟨c, hc, hs, hn⟩ => ?_⟩
  · exact absurd (show Mode.hold = .run from h) (by decide)
  · exact absurd h Bool.false_ne_true
  · have haway : s.ann c ≠ .normal := State.ann_congr ha c ▸ hn
    exact absurd (hm.symm.trans (h ⟨c, hc, hs, haway⟩)) (by decide)

/-- What HOLD brings beside the mode: the target and the stop request to the walk (R10). -/
theorem State.dropToHold_enterHold (u : State) : Orderly p u.dropToHold u.enterHold :=
  (Orderly.guarded fun _ => State.modDrive_orderly _ _).trans
    (.guarded fun _ => State.stopWalk_orderly _)

theorem State.enterHold_orderly {s u : State} (hm : s.ctl.mode = .run) (hf : u.frozen = s.frozen)
    (ha : u.alarm.table = s.alarm.table) : Orderly p s u.enterHold :=
  (State.dropToHold_orderly hm hf ha).trans u.dropToHold_enterHold

theorem State.addCause_orderly (s : State) (c : HoldCause) : Orderly p s (s.addCause c) := by
  refine .ite (fun _ => .refl _) fun _ => .ite (fun hm => State.enterHold_orderly hm rfl rfl) fun hm => ?_
  exact ⟨rfl, .inl rfl, fun _ h => absurd h hm, id, id⟩

theorem State.addLocalTrip_orderly (s : State) : Orderly p s s.addLocalTrip :=
  .ite (fun _ => .refl _) fun _ => (s.addCause_orderly _).trans (State.endSupply_orderly _)

theorem State.raiseTrip_orderly (s : State) (c : AlarmCode) (v : Int)
    (h : c.severity ≠ .stop := by decide) : Orderly p s (s.raiseTrip c v) :=
  .ite (fun _ => .refl _) fun _ => ((s.latch_orderly c v h).trans
    (.guarded fun _ => State.addLocalTrip_orderly _)).trans (State.armAndNotice_orderly _ _ _ _)

/-! ### The forced stop of a walk -/

/-- The walk is FORCED with one cause and the cam brake set, before WALK_FORCED_STOP is raised (R136). -/
def State.braked (s : State) (c : ForcedCause) : State :=
  ((s.enterWalk .forced).setBrake true).modWalk fun w =>
    { w with forced := (⟨false, false, false⟩ : ForcedCauses).put c true }

theorem State.enterForced_eq (s : State) (c : ForcedCause) :
    s.enterForced c = (s.braked c).raiseTrip .walkForcedStop s.meas.angleA := rfl

theorem State.braked_orderly (s : State) (c : ForcedCause) : Orderly p s (s.braked c) :=
  ((s.enterWalk_orderly _).trans (State.setBrake_true_orderly _)).trans (State.modWalk_orderly _ _)

theorem State.enterForced_orderly (s : State) (c : ForcedCause) : Orderly p s (s.enterForced c) :=
  (s.braked_orderly c).trans (State.raiseTrip_orderly _ _ _)

theorem State.forceWalk_orderly (s : State) (c : ForcedCause) : Orderly p s (s.forceWalk c) := by
  unfold State.forceWalk
  split
  · exact s.enterForced_orderly c
  · exact s.enterForced_orderly c
  · exact .guarded fun _ => s.enterForced_orderly c
  · exact .guarded fun _ => s.enterForced_orderly c
  · exact s.modWalk_orderly _
  all_goals exact .refl _

theorem State.clearForced_orderly (s : State) (c : ForcedCause) : Orderly p s (s.clearForced c) :=
  .ite (fun _ => .refl _) fun _ => (s.modWalk_orderly _).trans
    (.guarded fun _ => State.returnAlarm_orderly _ _)

/-! ### STOP -/

/-- Safe outputs, with duty and reference cleared (R11, R85). -/
def State.Quenched (s : State) : Prop :=
  s.outputsOff ∧ s.drive.duty = 0 ∧ s.drive.reference = 0

theorem State.Quenched.congr {s t : State} (h : s.Quenched) (ho : t.out.lines = s.out.lines)
    (hd : t.drive = s.drive) : t.Quenched := by
  simp only [Outputs.lines, Prod.mk.injEq] at ho
  obtain ⟨hf, -, hb, ht⟩ := ho
  unfold State.Quenched State.outputsOff at *
  rw [hf, hb, ht, hd]
  exact h

theorem State.makeSafe_quenched (s : State) : s.makeSafe.Quenched := ⟨⟨rfl, rfl, rfl⟩, rfl, rfl⟩

@[simp] theorem State.dropSectorMarks_lines (s : State) :
    s.dropSectorMarks.out.lines = s.out.lines := by
  unfold State.dropSectorMarks
  dsimp only
  split <;> simp

@[simp] theorem State.lockSwing_lines (s : State) : s.lockSwing.out.lines = s.out.lines := by
  unfold State.lockSwing
  simp

@[simp] theorem State.raiseWithdrawn_lines (s : State) :
    s.raiseWithdrawn.out.lines = s.out.lines := by
  unfold State.raiseWithdrawn
  split <;> simp

/-- With the brake set there is no permission to withdraw. -/
theorem State.withdrawPermission_of_set {s : State} (h : s.out.brakeSet = true) :
    s.withdrawPermission = s :=
  if_pos h

/-- Updates of the own record that agree on it. -/
theorem State.modOwn_congr {s : State} {f g : OwnRecord → OwnRecord}
    (h : f s.consent.own = g s.consent.own) : s.modOwn f = s.modOwn g := by
  simp only [State.modOwn, State.modConsent, h]

/-- The clear of a proposal moves its status alone where the brake is set, and on a station that is no swing
lead (R66, R99). -/
theorem State.clearProposal_eq {s : State} (h : s.out.brakeSet = true ∨ s.swingLead = false) :
    s.clearProposal = s.modOwn fun o =>
      { o with status := if o.status = .active ∨ o.status = .withdrawing then .idle else o.status } := by
  have hclear (f : OwnRecord → OwnRecord) :
      (if (s.modOwn f).swingLead then (s.modOwn f).withdrawPermission else s.modOwn f) = s.modOwn f := by
    rcases h with h | h
    · rw [State.withdrawPermission_of_set (s := s.modOwn f) h, ite_self]
    · exact if_neg (show ¬s.swingLead = true by rw [h]; decide)
  have hkeep (hs : ¬(s.consent.own.status = .active ∨ s.consent.own.status = .withdrawing)) :
      s = s.modOwn fun o =>
        { o with status := if o.status = .active ∨ o.status = .withdrawing then .idle else o.status } :=
    (State.modOwn_congr (f := id) (by simp only [if_neg hs, id])).trans rfl
  unfold State.clearProposal
  split
  · next hs => exact (hclear _).trans (State.modOwn_congr (by simp [hs]))
  · next hs => exact (hclear _).trans (State.modOwn_congr (by simp [hs]))
  · next hs => exact hkeep (by simp [hs])
  · next hs => exact hkeep (by simp [hs])

theorem State.Quenched.clearProposal {s : State} (h : s.Quenched) : s.clearProposal.Quenched := by
  obtain ⟨⟨-, hbrake, -⟩, -⟩ := id h
  rw [State.clearProposal_eq (.inl hbrake)]
  exact h.congr rfl rfl

theorem State.Quenched.stopSwing {s : State} (h : s.Quenched) : s.stopSwing.Quenched := by
  unfold State.stopSwing
  split
  · split
    · exact (h.congr (t := s.lockSwing) (by simp) (by simp)).clearProposal
    · exact (h.congr (t := s.lockSwing.raiseWithdrawn) (by simp) (by simp)).clearProposal
    all_goals exact h
  · exact h

/-- A quenched station whose walk is not live is safe. -/
theorem State.Quenched.safeModes {s : State} (h : s.Quenched) (hw : s.walk.state.live = false) :
    s.SafeModes := fun _ => by
  obtain ⟨ho, hd, hr⟩ := h
  exact ⟨ho, hd, hr, hw⟩

/-- A STOP forces every live walk (R136). -/
theorem State.forceWalk_stop_of_live {s : State} (h : s.walk.state.live = true) :
    s.forceWalk .stop = s.enterForced .stop := by
  unfold State.forceWalk
  split <;> simp_all [WalkState.live]

/-- The forced stop leaves a quenched station safe. -/
theorem State.Quenched.forceWalk {s : State} (h : s.Quenched) : (s.forceWalk .stop).SafeModes := by
  cases hw : s.walk.state.live with
  | false => exact (s.forceWalk_orderly (p := True) .stop).safe (h.safeModes hw)
  | true =>
    have hb : (s.braked .stop).SafeModes :=
      State.Quenched.safeModes (h.congr (by
        obtain ⟨⟨-, hb, -⟩, -⟩ := h
        simp [State.braked, State.setBrake, Outputs.lines, hb]) rfl) rfl
    rw [State.forceWalk_stop_of_live hw, State.enterForced_eq]
    exact ((s.braked .stop).raiseTrip_orderly (p := True) _ _).safe hb

theorem State.stopSupply_orderly (s : State) : Orderly p s s.stopSupply := by
  unfold State.stopSupply
  split
  · exact s.endSupply_orderly
  · exact s.endSupply_orderly
  · exact .guarded fun _ => s.clearReference_orderly.trans (State.openTransfer_orderly _)
  · exact .refl _

theorem State.makeSafe_orderly (s : State) : Orderly p s s.makeSafe :=
  ((s.clearReference_orderly.trans (State.setBrake_true_orderly _)).trans
    (State.setTransfer_false_orderly _)).trans (State.modDrive_orderly _ _)

theorem State.startReporting_orderly (s : State) (m : Mode) : Orderly p s (s.startReporting m) := by
  unfold State.startReporting
  split
  · exact (s.firstWriteBlock_orderly.trans (State.startReportTimer_orderly _)).trans
      (State.ownReport_orderly _)
  · exact .guarded fun _ => s.startReportTimer_orderly.trans (State.ownReport_orderly _)
  all_goals exact .refl _

/-- The mode is STOP, with the timers of LISTEN and HOLD stopped, and nothing made safe yet (R11). -/
def State.halted (s : State) : State :=
  (s.setMode .stop).modCtl fun c => { c with listenTimer := none, neutralSince := none }

theorem State.enterStop_of_ne {s : State} (h : s.ctl.mode ≠ .stop) :
    s.enterStop =
      ((s.halted.stopSupply.makeSafe.stopSwing).forceWalk .stop).startReporting s.ctl.mode :=
  if_neg h

theorem State.enterStop_of_stop {s : State} (h : s.ctl.mode = .stop) : s.enterStop = s := if_pos h

/-- What the entry to STOP does once the mode is STOP. -/
theorem State.halted_enterStop {s : State} (h : s.ctl.mode ≠ .stop) :
    Orderly p s.halted s.enterStop := by
  rw [State.enterStop_of_ne h]
  exact (((s.halted.stopSupply_orderly.trans (State.makeSafe_orderly _)).trans
    (State.stopSwing_orderly _)).trans (State.forceWalk_orderly _ _)).trans
      (State.startReporting_orderly _ _)

@[simp] theorem State.enterStop_mode (s : State) : s.enterStop.ctl.mode = .stop := by
  by_cases h : s.ctl.mode = .stop
  · rw [State.enterStop_of_stop h, h]
  · exact (State.halted_enterStop (p := True) h).mode.eq_stop rfl

theorem State.enterStop_frozen (s : State) : s.enterStop.frozen = s.frozen := by
  by_cases h : s.ctl.mode = .stop
  · rw [State.enterStop_of_stop h]
  · exact (State.halted_enterStop (p := True) h).frozen

/-- A station that enters STOP is safe. -/
theorem State.enterStop_safeModes {s : State} (h : s.ctl.mode ≠ .stop) : s.enterStop.SafeModes := by
  rw [State.enterStop_of_ne h]
  exact (State.startReporting_orderly (p := True) _ _).safe
    (State.makeSafe_quenched _).stopSwing.forceWalk

/-- The entry to STOP, from a state that an orderly station differs from in its annunciator alone. -/
theorem State.enterStop_orderly {s u : State} (hf : u.frozen = s.frozen)
    (hm : u.ctl.mode = s.ctl.mode) (hd : u.driven = s.driven) (hp : p ∨ s.ctl.mode ≠ .loading) :
    Orderly p s u.enterStop := by
  refine ⟨u.enterStop_frozen.trans hf, .inr (.inr (.inr ⟨u.enterStop_mode, ?_⟩)), fun _ h => ?_,
    fun hs => ?_, fun _ _ => u.enterStop_mode⟩
  · intro h
    exact hp.resolve_right (not_not_intro h)
  · exact absurd (u.enterStop_mode.symm.trans h) (by decide)
  · by_cases hu : u.ctl.mode = .stop
    · rw [State.enterStop_of_stop hu]
      exact Orderly.safeModes_congr hm hd hs
    · exact State.enterStop_safeModes hu

theorem State.raiseStop_orderly (s : State) (c : AlarmCode) (v : Int)
    (hp : p ∨ s.ctl.mode ≠ .loading) : Orderly p s (s.raiseStop c v) :=
  .ite (fun _ => .refl _) fun _ =>
    (State.enterStop_orderly (s := s) (u := s.latch c v) rfl rfl rfl hp).trans
      (State.armAndNotice_orderly _ _ _ _)

end Orderly
end Sys2Proof.Machine
end

section
/-!
PROOFS. Peer table, role logic and regulation are orderly.
-/

set_option Elab.async false

namespace Sys2Proof.Machine

section Orderly

variable {p : Prop}

/-! ### The peer table (Machine/Peer.lean) -/

theorem State.modPeers_orderly (s : State) (f : PeerTable → PeerTable)
    (h : (f s.peers).listing = s.peers.listing := by rfl) : Orderly p s (s.modPeers f) :=
  .of_eq (by simp [State.judged, State.frozen, h]) rfl

theorem State.findConflict_orderly (s : State) (n : Station) : Orderly p s (s.findConflict n) :=
  .guarded fun _ => ((s.modPeers_orderly _).trans (State.raiseTrip_orderly _ _ _)).trans
    (State.addCause_orderly _ _)

theorem State.endConflict_orderly (s : State) : Orderly p s s.endConflict :=
  .guarded fun _ => ((s.modPeers_orderly _).trans (State.returnAlarm_orderly _ _)).trans
    (State.removeCause_orderly _ _)

theorem State.addPeerStop_orderly (s : State) (b : Bool) : Orderly p s (s.addPeerStop b) :=
  .guarded fun _ => s.addCause_orderly _

theorem State.removePeerStop_orderly (s : State) (b : Bool) : Orderly p s (s.removePeerStop b) :=
  .guarded fun _ => s.removeCause_orderly _

theorem State.returnMismatch_orderly (s : State) (b : Bool) : Orderly p s (s.returnMismatch b) :=
  .guarded fun _ => s.returnAlarm_orderly _

theorem State.returnLost_orderly (s : State) (b : Bool) : Orderly p s (s.returnLost b) :=
  .guarded fun _ => s.returnAlarm_orderly _

theorem State.returnStale_orderly (s : State) : Orderly p s s.returnStale :=
  .guarded fun _ => (s.modPeers_orderly _ (by funext n; simp [PeerTable.listing])).trans
    (State.returnAlarm_orderly _ _)

theorem State.completePicture_orderly (s : State) : Orderly p s s.completePicture :=
  .ite (fun _ => .refl _) fun _ => s.removeCause_orderly _

theorem State.endReturning_orderly (s : State) : Orderly p s s.endReturning :=
  .guarded fun _ => (s.enterWalk_orderly _).trans (State.clearProposal_orderly _)

/-- The walk steps and its cam brake is released, in HOLD or RUN or from a live walk. -/
theorem State.stepWalk_orderly (s : State)
    (h : s.ctl.mode.safe = false ∨ s.walk.state.live = true) : Orderly p s s.stepWalk :=
  (s.enterWalk_live_orderly .stepping h).trans (State.setBrake_orderly _ _ (.inr rfl))

theorem State.takeUpSupply_orderly (s : State) : Orderly p s s.takeUpSupply :=
  .guarded fun h => s.stepWalk_orderly (.inr (by rw [h.1]; rfl))

theorem State.walkTakesDrag_orderly (s : State) (n : Station) : Orderly p s (s.walkTakesDrag n) := by
  have hforced : Orderly p s
      (if (if (s.entry n).shows .walkSupply then s else s.forceWalk .supply).allSupplying then
        (if (s.entry n).shows .walkSupply then s else s.forceWalk .supply).clearForced .supply
      else if (s.entry n).shows .walkSupply then s else s.forceWalk .supply) :=
    (Orderly.ite (fun _ => .refl _) fun _ => s.forceWalk_orderly _).trans
      (.guarded fun _ => State.clearForced_orderly _ _)
  unfold State.walkTakesDrag
  split
  · exact s.takeUpSupply_orderly
  · exact hforced
  · exact hforced
  · exact hforced
  · exact s.endReturning_orderly
  all_goals exact .refl _

theorem State.dragTakesWalk_orderly (s : State) (w : WalkState) :
    Orderly p s (s.dragTakesWalk w) := by
  unfold State.dragTakesWalk
  split
  · exact s.returnSupply_orderly
  · exact s.returnSupply_orderly
  · exact s.returnSupply_orderly
  · exact s.returnSupply_orderly
  · exact s.clearReference_orderly
  · exact .refl _

theorem State.walkActive_orderly (s : State) (w : WalkState) : Orderly p s (s.walkActive w) :=
  .ite (fun _ => s.addCause_orderly _) fun _ => s.removeCause_orderly _

theorem State.dutiesTake_orderly (s : State) (n : Station) (f : ReportFields) :
    Orderly p s (s.dutiesTake n f) :=
  (Orderly.guarded fun _ => s.walkTakesDrag_orderly n).trans
    (.guarded fun _ => (Orderly.guarded fun _ => State.dragTakesWalk_orderly _ _).trans
      (.guarded fun _ => State.walkActive_orderly _ _))

theorem State.partnerTakes_orderly (s : State) (n : Station) : Orderly p s (s.partnerTakes n) :=
  .ite (fun _ => s.removeCause_orderly _) fun _ =>
    .guarded fun _ => (s.modDrive_orderly _).trans (State.returnAlarm_orderly _ _)

theorem State.raiseUnlisted_orderly (s : State) (n : Station) (old : PeerEntry) :
    Orderly p s (s.raiseUnlisted n old) :=
  .guarded fun _ => s.raiseWarn_orderly _ _

theorem State.raiseMismatch_orderly (s : State) (n : Station) (old : PeerEntry) :
    Orderly p s (s.raiseMismatch n old) :=
  .guarded fun _ => s.raiseTrip_orderly _ _

theorem State.noteEcho_orderly (s : State) (n : Station) (f : ReportFields) :
    Orderly p s (s.noteEcho n f) :=
  .guarded fun _ => s.modOwn_orderly _

theorem State.updateHeld_orderly (s : State) (n : Station) (f : ReportFields) :
    Orderly p s (s.updateHeld n f) :=
  s.modConsent_orderly _

theorem State.dropHeldOf_orderly (s : State) (n : Station) : Orderly p s (s.dropHeldOf n) :=
  s.modConsent_orderly _

theorem State.acceptReport_orderly (s : State) (n : Station) (seq : BitVec 4) (role : BitVec 3)
    (f : ReportFields) : Orderly p s (s.acceptReport n seq role f) := by
  have hmarks : ∀ (u : State) (b : Bool), Orderly p u
      (((((u.noteEcho n f).updateHeld n f).dutiesTake n f).returnLost b).returnStale) :=
    fun u b => ((((u.noteEcho_orderly n f).trans (State.updateHeld_orderly _ _ _)).trans
      (State.dutiesTake_orderly _ _ _)).trans (State.returnLost_orderly _ _)).trans
        (State.returnStale_orderly _)
  exact ((((((((((s.modEntry_orderly n _).trans (State.raiseUnlisted_orderly _ _ _)).trans
    (State.raiseMismatch_orderly _ _ _)).trans (State.findConflict_orderly _ _)).trans
    (State.addPeerStop_orderly _ _)).trans (hmarks _ _)).trans
    (State.returnMismatch_orderly _ _)).trans (State.endConflict_orderly _)).trans
    (State.removePeerStop_orderly _ _)).trans (State.partnerTakes_orderly _ _)).trans
    (State.completePicture_orderly _)

theorem State.countMalformed_orderly (s : State) : Orderly p s s.countMalformed :=
  s.modLink_orderly _

theorem State.takeReport_orderly (s : State) (n : Station) (l : List Byte) :
    Orderly p s (s.takeReport n l) :=
  .ite (fun _ => .refl _) fun _ => .ite (fun _ => s.countMalformed_orderly) fun _ =>
    .ite (fun _ => s.modEntry_orderly n _) fun _ => s.acceptReport_orderly n _ _ _

theorem State.partnerStale_orderly (s : State) (n : Station) : Orderly p s (s.partnerStale n) :=
  .guarded fun _ => (s.modDrive_orderly _).trans (State.raiseWarn_orderly _ _ _)

theorem State.walkDragStale_orderly (s : State) (n : Station) : Orderly p s (s.walkDragStale n) :=
  .guarded fun _ => (s.abortWalk_orderly _).trans (State.endReturning_orderly _)

theorem State.goStale_orderly (s : State) (n : Station) : Orderly p s (s.goStale n) :=
  (((((s.modEntry_orderly n _).trans (.guarded fun _ => State.raiseWarn_orderly _ _ _)).trans
    (State.findConflict_orderly _ _)).trans (State.partnerStale_orderly _ _)).trans
    (State.walkDragStale_orderly _ _)).trans (State.endConflict_orderly _)

theorem State.rosterLost_orderly (s : State) (n : Station) : Orderly p s (s.rosterLost n) :=
  .guarded fun _ => (s.raiseTrip_orderly _ _).trans (State.addCause_orderly _ _)

theorem State.leadAbsent_orderly (s : State) (n : Station) : Orderly p s (s.leadAbsent n) :=
  .guarded fun _ => s.addCause_orderly _

theorem State.walkDragAbsent_orderly (s : State) (n : Station) :
    Orderly p s (s.walkDragAbsent n) :=
  .guarded fun _ => (s.forceWalk_orderly _).trans (State.endReturning_orderly _)

theorem State.walkAbsentAtDrag_orderly (s : State) (n : Station) :
    Orderly p s (s.walkAbsentAtDrag n) :=
  .guarded fun _ => s.endSupply_orderly

theorem State.walkAbsentHeld_orderly (s : State) (n : Station) :
    Orderly p s (s.walkAbsentHeld n) :=
  .guarded fun _ => s.removeCause_orderly _

theorem State.returnUnlisted_orderly (s : State) (n : Station) :
    Orderly p s (s.returnUnlisted n) :=
  .guarded fun _ => s.returnAlarm_orderly _

theorem State.goAbsent_orderly (s : State) (n : Station) : Orderly p s (s.goAbsent n) :=
  (((((((((((s.modEntry_orderly n PeerEntry.afterAbsence).trans (State.rosterLost_orderly _ _)).trans
    (State.findConflict_orderly _ _)).trans (State.leadAbsent_orderly _ _)).trans
    (State.walkDragAbsent_orderly _ _)).trans (State.walkAbsentAtDrag_orderly _ _)).trans
    (State.dropHeldOf_orderly _ _)).trans (State.returnMismatch_orderly _ _)).trans
    (State.endConflict_orderly _)).trans (State.removePeerStop_orderly _ _)).trans
    (State.returnUnlisted_orderly _ _)).trans (State.walkAbsentHeld_orderly _ _)

theorem State.stopNotice_orderly (s : State) (n : Station) : Orderly p s (s.stopNotice n) :=
  .guarded fun _ => (s.modEntry_orderly n _).trans (State.addPeerStop_orderly _ _)

/-! ### Measurement and the drive regulator (Machine/Measure.lean, Machine/Drive.lean) -/

theorem State.expireTachExcess_orderly (s : State) : Orderly p s s.expireTachExcess :=
  .guarded fun _ => (s.modMeas_orderly _).trans (State.raiseTrip_orderly _ _ _)

theorem State.expireTachRecovery_orderly (s : State) : Orderly p s s.expireTachRecovery :=
  .guarded fun _ => (s.modMeas_orderly _).trans (State.returnAlarm_orderly _ _)

@[simp] theorem Measurement.formPositions_runPermit (m : Measurement) (q : Params)
    (r : Option Role) : (m.formPositions q r).runPermit = m.runPermit := by
  unfold Measurement.formPositions
  split <;> rfl

theorem State.formValues_orderly (s : State) (raw : Analog) : Orderly p s (s.formValues raw) := by
  unfold State.formValues
  refine s.modMeas_orderly _ ?_
  rw [Measurement.formPositions_runPermit]
  split <;> rfl

theorem State.measure_orderly (s : State) (raw : Analog) : Orderly p s (s.measure raw) :=
  (((s.formValues_orderly raw).trans (State.modMeas_orderly _ _)).trans
    (State.expireTachExcess_orderly _)).trans (State.expireTachRecovery_orderly _)

/-! A request or a removal of a cause leaves a station in HOLD or RUN in one of the two. -/

@[simp] theorem State.tryRun_safe (s : State) : s.tryRun.ctl.mode.safe = s.ctl.mode.safe := by
  unfold State.tryRun
  split
  · next h => rw [h.1]; rfl
  · rfl

@[simp] theorem State.removeCause_safe (s : State) (c : HoldCause) :
    (s.removeCause c).ctl.mode.safe = s.ctl.mode.safe := by
  unfold State.removeCause
  split
  · exact State.tryRun_safe _
  · rfl

@[simp] theorem State.settleTrips_safe (s : State) :
    s.settleTrips.ctl.mode.safe = s.ctl.mode.safe := by
  unfold State.settleTrips
  split <;> simp

@[simp] theorem State.returnAlarm_safe (s : State) (c : AlarmCode) :
    (s.returnAlarm c).ctl.mode.safe = s.ctl.mode.safe := by
  unfold State.returnAlarm
  (repeat' split) <;> simp

@[simp] theorem State.sectorMarks_safe (s : State) (c : Int) :
    (s.sectorMarks c).ctl.mode.safe = s.ctl.mode.safe := by
  unfold State.sectorMarks
  dsimp only
  (repeat' split) <;> simp

theorem State.sectorMarks_orderly (s : State) (c : Int) : Orderly p s (s.sectorMarks c) :=
  .guarded fun _ => (s.modRole_orderly _).trans (.ite (fun _ => State.raiseWarn_orderly _ _ _)
    fun _ => .guarded fun _ => State.returnAlarm_orderly _ _)

/-- The regulator takes steps in HOLD and RUN alone (R84). -/
theorem State.takesStep_safe {s : State} (h : s.takesStep = true) : s.ctl.mode.safe = false := by
  simp only [State.takesStep, Bool.and_eq_true, Bool.or_eq_true, beq_iff_eq] at h
  rcases h.2 with h | h <;> rw [h] <;> rfl

theorem State.followBrake_orderly (s : State) (h : s.ctl.mode.safe = false) :
    Orderly p s s.followBrake := by
  unfold State.followBrake
  split <;> exact s.setBrake_orderly _ (.inl h)

theorem State.expireBrakeSet_orderly (s : State) : Orderly p s s.expireBrakeSet :=
  .guarded fun _ => s.setBrake_true_orderly.trans (State.modDrive_orderly _ _)

theorem State.brakeRule_orderly (s : State) (h : s.ctl.mode.safe = false) :
    Orderly p s s.brakeRule :=
  .ite (fun _ => s.followBrake_orderly h) fun _ =>
    .ite (fun _ => .guarded fun _ => s.setBrake_orderly _ (.inl h)) fun _ =>
      (s.modDrive_orderly _).trans (State.expireBrakeSet_orderly _)

theorem State.regulate_orderly (s : State) (c t eb : Int) (h : s.ctl.mode.safe = false) :
    Orderly p s (s.regulate c t eb) :=
  .of_awake (by simp [State.judged, State.frozen]) (.inl h)

theorem State.driveStep_orderly (s : State) (h : s.ctl.mode.safe = false) :
    Orderly p s s.driveStep := by
  have hm : (s.sectorMarks s.command).ctl.mode.safe = false := by rw [State.sectorMarks_safe, h]
  exact ((s.sectorMarks_orderly _).trans (State.regulate_orderly _ _ _ _ hm)).trans
    (State.brakeRule_orderly _ (by simpa using hm))

theorem State.driveExpiry_orderly (s : State) : Orderly p s s.driveExpiry :=
  .ite (fun h => s.driveStep_orderly (State.takesStep_safe h)) fun _ =>
    (s.modDrive_orderly _).trans (State.modRole_orderly _ _)

theorem State.expireDisagree_orderly (s : State) : Orderly p s s.expireDisagree :=
  .guarded fun _ => (s.modDrive_orderly _).trans (State.raiseTrip_orderly _ _ _)

theorem State.expireAgree_orderly (s : State) : Orderly p s s.expireAgree :=
  .guarded fun _ => (s.modDrive_orderly _).trans (State.returnAlarm_orderly _ _)

theorem State.checkBrake_orderly (s : State) : Orderly p s s.checkBrake :=
  ((s.modDrive_orderly _).trans (State.expireDisagree_orderly _)).trans
    (State.expireAgree_orderly _)

theorem State.expireLoss_orderly (s : State) : Orderly p s s.expireLoss :=
  .guarded fun _ => (s.modDrive_orderly _).trans (State.raiseTrip_orderly _ _ _)

theorem State.expireLossClear_orderly (s : State) : Orderly p s s.expireLossClear :=
  .guarded fun _ => (s.modDrive_orderly _).trans (State.returnAlarm_orderly _ _)

theorem State.watchOvercurrent_orderly (s : State) : Orderly p s s.watchOvercurrent :=
  .ite (fun _ => s.modDrive_orderly _) fun _ =>
    .guarded fun _ => (s.modDrive_orderly _).trans (State.raiseTrip_orderly _ _ _)

theorem State.watchOvervoltage_orderly (s : State) : Orderly p s s.watchOvervoltage :=
  .ite (fun _ => s.modDrive_orderly _) fun _ =>
    .guarded fun _ => (s.modDrive_orderly _).trans (State.raiseTrip_orderly _ _ _)

theorem State.expireClear_orderly (s : State) (x : FieldCheck) : Orderly p s (s.expireClear x) := by
  unfold State.expireClear
  split
  · exact .guarded fun _ => (s.modDrive_orderly _).trans (State.returnAlarm_orderly _ _)
  · exact .guarded fun _ => (s.modDrive_orderly _).trans (State.returnAlarm_orderly _ _)

theorem State.checkField_orderly (s : State) (d : Int) : Orderly p s (s.checkField d) :=
  .guarded fun _ => ((((((s.modDrive_orderly _).trans (State.expireLoss_orderly _)).trans
    (State.expireLossClear_orderly _)).trans (State.watchOvercurrent_orderly _)).trans
    (State.expireClear_orderly _ _)).trans (State.watchOvervoltage_orderly _)).trans
    (State.expireClear_orderly _ _)

/-! ### Role logic (Machine/RoleLogic.lean) -/

theorem State.watchOverload_orderly (s : State) : Orderly p s s.watchOverload :=
  .ite (fun _ => .ite (fun _ => (s.modRole_orderly _).trans (State.returnAlarm_orderly _ _)) fun _ =>
    s.modRole_orderly _) fun _ => s.modRole_orderly _

theorem State.expireOverload_orderly (s : State) : Orderly p s s.expireOverload :=
  .guarded fun _ => (s.modRole_orderly _).trans (State.raiseTrip_orderly _ _ _)

theorem State.checkBoom_orderly (s : State) : Orderly p s s.checkBoom :=
  .guarded fun _ => s.watchOverload_orderly.trans (State.expireOverload_orderly _)

theorem State.requestSwing_orderly (s : State) : Orderly p s s.requestSwing :=
  .guarded fun _ => (s.returnAlarm_orderly _).trans (State.requestProposal_orderly _ _)

theorem State.setSwingBrake_orderly (s : State) : Orderly p s s.setSwingBrake :=
  s.setBrake_true_orderly.trans (State.modDrive_orderly _ _)

theorem State.expireRest_orderly (s : State) : Orderly p s s.expireRest :=
  .guarded fun _ => (s.setSwingBrake_orderly.trans (State.lockSwing_orderly _)).trans
    (State.clearProposal_orderly _)

theorem State.endWithdrawal_orderly (s : State) : Orderly p s s.endWithdrawal :=
  .guarded fun _ => ((s.setSwingBrake_orderly.trans (State.lockSwing_orderly _)).trans
    (State.raiseWithdrawn_orderly _)).trans (State.clearProposal_orderly _)

theorem State.swingStep_orderly (s : State) : Orderly p s s.swingStep := by
  unfold State.swingStep
  refine Orderly.trans ?_ (State.modRole_orderly _ _)
  split
  · exact s.requestSwing_orderly
  · exact .refl _
  · exact (s.modRole_orderly _).trans (State.expireRest_orderly _)
  · exact s.endWithdrawal_orderly

/-- The transfer output closes in HOLD and RUN alone (R128). -/
theorem State.setTransfer_orderly (s : State) (b : Bool) (h : s.ctl.mode.safe = false) :
    Orderly p s (s.setTransfer b) :=
  .of_awake rfl (.inl h)

theorem State.startTransfer_orderly (s : State) : Orderly p s s.startTransfer :=
  .guarded fun h => by
    have hm : s.ctl.mode.safe = false := by
      obtain ⟨-, hmode, -⟩ := h
      rcases hmode with h | h <;> rw [h] <;> rfl
    exact ((s.modRole_orderly _).trans (State.setTransfer_orderly _ _ hm)).trans
      (State.withdrawPermission_orderly _)

theorem State.openWhenStill_orderly (s : State) : Orderly p s s.openWhenStill :=
  .guarded fun _ => s.openTransfer_orderly

theorem State.supplyExpiry_orderly (s : State) : Orderly p s s.supplyExpiry :=
  .guarded fun _ => s.startTransfer_orderly.trans (State.openWhenStill_orderly _)

theorem State.contactorRises_orderly (s : State) : Orderly p s s.contactorRises := by
  unfold State.contactorRises
  split
  · exact s.modRole_orderly _
  · exact s.modRole_orderly _
  all_goals exact .refl _

theorem State.failSupply_orderly (s : State) (v : Int) : Orderly p s (s.failSupply v) :=
  (s.raiseTrip_orderly _ _).trans (State.endSupply_orderly _)

theorem State.feedbackOpens_orderly (s : State) : Orderly p s s.feedbackOpens :=
  (s.modRole_orderly _).trans (.guarded fun _ => State.returnAlarm_orderly _ _)

theorem State.contactorFalls_orderly (s : State) : Orderly p s s.contactorFalls := by
  unfold State.contactorFalls
  split
  · exact s.failSupply_orderly _
  · exact .ite (fun _ => .refl _) fun _ => s.supplyNormal_orderly
  · exact s.feedbackOpens_orderly
  · exact .refl _

theorem State.expireTransfer_orderly (s : State) : Orderly p s s.expireTransfer :=
  .guarded fun _ => (s.modRole_orderly _).trans (State.failSupply_orderly _ _)

theorem State.expireReturn_orderly (s : State) : Orderly p s s.expireReturn :=
  .guarded fun _ => (s.modRole_orderly _).trans (State.raiseTrip_orderly _ _ _)

theorem State.expireClosed_orderly (s : State) : Orderly p s s.expireClosed :=
  .guarded fun _ => (s.modRole_orderly _).trans (State.raiseTrip_orderly _ _ _)

theorem State.notePhase_orderly (s : State) : Orderly p s s.notePhase := .of_eq rfl rfl

theorem State.roleExpiry_orderly (s : State) : Orderly p s s.roleExpiry :=
  ((s.checkBoom_orderly.trans (.guarded fun _ => State.swingStep_orderly _)).trans
    (State.supplyExpiry_orderly _)).trans (State.notePhase_orderly _)

/-! ### The walk sequencer (Machine/Walk.lean) -/

theorem State.checkSkew_orderly (s : State) (hp : p ∨ s.ctl.mode ≠ .loading) :
    Orderly p s s.checkSkew :=
  .ite (fun _ => .guarded fun _ => (s.modWalk_orderly _).trans (State.returnAlarm_orderly _ _))
    fun _ => .guarded fun _ => (s.modWalk_orderly _).trans (State.raiseStop_orderly _ _ _ hp)

theorem State.haltWalk_orderly (s : State)
    (h : s.ctl.mode.safe = false ∨ s.walk.state.live = true) : Orderly p s s.haltWalk :=
  (s.enterWalk_live_orderly _ h).trans (State.setBrake_true_orderly _)

theorem State.stoppingPhase_orderly (s : State) : Orderly p s s.stoppingPhase := by
  unfold State.stoppingPhase
  split
  · exact .guarded fun _ => s.modWalk_orderly _
  · next hw _ =>
    exact .ite (fun _ => s.modWalk_orderly _) fun _ =>
      .guarded fun _ => s.haltWalk_orderly (.inr (by rw [hw]; rfl))
  · exact .refl _

theorem State.expireEnd_orderly (s : State) : Orderly p s s.expireEnd :=
  .guarded fun _ => (s.enterWalk_orderly _).trans (State.endReturning_orderly _)

theorem State.checkEnd_orderly (s : State) : Orderly p s s.checkEnd :=
  .guarded fun _ => (s.modWalk_orderly _).trans (State.expireEnd_orderly _)

/-- LOADING is behind the station, or it may stop from there. -/
theorem Orderly.loaded {s t : State} (h : Orderly p s t) (hp : p ∨ s.ctl.mode ≠ .loading) :
    p ∨ t.ctl.mode ≠ .loading :=
  hp.imp_right h.mode.ne_loading

theorem State.walkReferences_orderly (s : State) : Orderly p s s.walkReferences := .of_eq rfl rfl

theorem State.walkMoves_orderly (s : State) (hp : p ∨ s.ctl.mode ≠ .loading) :
    Orderly p s s.walkMoves := by
  have href : Orderly p s (if s.walk.state.moves then s.walkReferences else s) :=
    .guarded fun _ => s.walkReferences_orderly
  exact (href.trans (State.checkSkew_orderly _ (href.loaded hp))).trans
    (State.stoppingPhase_orderly _)

theorem State.walkExpiry_orderly (s : State) (hp : p ∨ s.ctl.mode ≠ .loading) :
    Orderly p s s.walkExpiry :=
  .guarded fun _ => by
    have hj : Orderly p s s.judgeCams.checkEnd :=
      (s.modWalk_orderly _).trans (State.checkEnd_orderly _)
    exact hj.trans (State.walkMoves_orderly _ (hj.loaded hp))

theorem State.beginWalk_orderly (s : State) : Orderly p s s.beginWalk :=
  .ite (fun _ => .refl _) fun _ =>
    (s.returnAlarm_orderly _).trans (State.requestProposal_orderly _ _)

theorem State.resumeForced_orderly (s : State) (h : s.ctl.mode.safe = false) :
    Orderly p s s.resumeForced :=
  .ite (fun _ => .refl _) fun _ => .ite (fun _ => s.haltWalk_orderly (.inl h)) fun _ =>
    (s.enterStopping_orderly _ (.inl h)).trans (State.setBrake_orderly _ _ (.inr rfl))

theorem State.walkCommanded_orderly (s : State) (h : s.ctl.mode.safe = false) :
    Orderly p s s.walkCommanded := by
  unfold State.walkCommanded
  split
  · exact s.beginWalk_orderly
  · exact .guarded fun _ => s.stepWalk_orderly (.inl h)
  · exact .guarded fun _ => s.resumeForced_orderly h
  all_goals exact .refl _

theorem State.expireStopHold_orderly (s : State) : Orderly p s s.expireStopHold :=
  .guarded fun _ => (s.modWalk_orderly _).trans (State.forceWalk_orderly _ _)

theorem State.expireSupplyLimit_orderly (s : State) : Orderly p s s.expireSupplyLimit :=
  .guarded fun _ => ((s.enterWalk_orderly _).trans (State.clearProposal_orderly _)).trans
    (State.raiseWarn_orderly _ _ _)

/-! ### The heat monitor (Machine/Heat.lean) -/

theorem State.formLevel_orderly (s : State) : Orderly p s s.formLevel :=
  (s.modHeat_orderly _).trans (.ite (fun _ => State.raiseWarn_orderly _ _ _) fun _ =>
    .guarded fun _ => State.returnAlarm_orderly _ _)

theorem State.expireDerate_orderly (s : State) : Orderly p s s.expireDerate := by
  refine .guarded fun _ => ?_
  split
  · exact .guarded fun _ => (s.modHeat_orderly _).trans (State.formLevel_orderly _)
  · exact .guarded fun _ => (s.modHeat_orderly _).trans (State.formLevel_orderly _)
  · exact .refl _

theorem State.checkOverheat_orderly (s : State) : Orderly p s s.checkOverheat :=
  .ite (fun _ => .guarded fun _ => (s.modHeat_orderly _).trans (State.returnAlarm_orderly _ _))
    fun _ => .guarded fun _ => (s.modHeat_orderly _).trans (State.raiseTrip_orderly _ _ _)

theorem State.heatExpiry_orderly (s : State) : Orderly p s s.heatExpiry :=
  .guarded fun _ => (((s.modHeat_orderly _).trans (State.modHeat_orderly _ _)).trans
    (State.expireDerate_orderly _)).trans (State.checkOverheat_orderly _)

theorem State.forceLevel_orderly (s : State) (n : Nat) : Orderly p s (s.forceLevel n) :=
  (s.modHeat_orderly _).trans (State.formLevel_orderly _)

/-! ### The expiry (Machine/Expiry.lean) -/

/-- The neutral time of a station that is not in RUN. -/
theorem State.neutralSince_orderly (s : State) (x : Timer) (h : s.ctl.mode ≠ .run) :
    Orderly p s (s.modCtl fun c => { c with neutralSince := x }) :=
  ⟨rfl, .inl rfl, fun _ hr => absurd hr h, id, id⟩

theorem State.neutralExpiry_orderly (s : State) : Orderly p s s.neutralExpiry :=
  .guarded fun h => (s.neutralSince_orderly _ (by rw [h]; decide)).trans (State.tryRun_orderly _)

theorem State.duties_orderly (s : State) (hp : p ∨ s.ctl.mode ≠ .loading) :
    Orderly p s s.duties :=
  ((s.roleExpiry_orderly.trans (State.walkExpiry_orderly _ (s.roleExpiry_orderly.loaded hp))).trans
    (State.heatExpiry_orderly _)).trans (State.neutralExpiry_orderly _)

theorem State.restartRegulation_orderly (s : State) (raw : Analog) :
    Orderly p s (s.restartRegulation raw) :=
  .of_eq rfl rfl

theorem State.expiryWork_orderly (s : State) (raw : Analog) (hp : p ∨ s.ctl.mode ≠ .loading) :
    Orderly p s (s.expiryWork raw) := by
  have hchecks : Orderly p s ((s.expiryStep raw).checks s.drive.duty) :=
    ((((s.restartRegulation_orderly raw).trans (State.measure_orderly _ _)).trans
      (State.driveExpiry_orderly _)).trans (State.checkBrake_orderly _)).trans
      (State.checkField_orderly _ _)
  exact hchecks.trans (State.duties_orderly _ (hchecks.loaded hp))

theorem State.withStore_orderly (s : State) (k : CaptureStore) : Orderly p s (s.withStore k) :=
  .of_eq rfl rfl

theorem State.captureWork_orderly (s : State) (v : Sample) : Orderly p s (s.captureWork v) :=
  (((s.modCapture_orderly _).trans (State.modCapture_orderly _ _)).trans
    (State.decideDue_orderly _)).trans (State.endPost_orderly _)

theorem State.noteQuiet_orderly (s : State) : Orderly p s s.noteQuiet := .of_eq rfl rfl

theorem State.regulationWork_orderly (s : State) (raw : Analog)
    (hp : p ∨ s.ctl.mode ≠ .loading) : Orderly p s (s.regulationWork raw) :=
  .ite (fun _ => ((((s.expiryWork_orderly raw hp).trans (State.withStore_orderly _ _)).trans
      (State.captureWork_orderly _ _)).trans (State.withStore_orderly _ _)).trans
      (State.noteQuiet_orderly _)) fun _ =>
    (s.expiryWork_orderly raw hp).trans (State.noteQuiet_orderly _)

end Orderly
end Sys2Proof.Machine
end

section
/-!
PROOFS. Link, edges and timers are orderly, and with them every command but resets, load and the end of LISTEN.
-/

set_option Elab.async false

namespace Sys2Proof.Machine

section Orderly

variable {p : Prop}

/-! ### The link controller (Machine/Link.lean, Machine/Receive.lean) -/

/-- A station receives in every mode but LOADING (R14). -/
theorem State.receives_ne_loading {s : State} (h : s.receives = true) : s.ctl.mode ≠ .loading :=
  fun hm => by simp [State.receives, hm] at h

theorem State.loaded_ne_loading {s : State} (h : s.loaded = true) : s.ctl.mode ≠ .loading :=
  State.receives_ne_loading (by simp_all [State.loaded])

theorem State.startTransmission_orderly (s : State) : Orderly p s s.startTransmission :=
  .of_eq (by simp [State.judged, State.frozen]) (by simp [State.driven])

theorem State.discardQueue_orderly (s : State) : Orderly p s s.discardQueue :=
  .of_eq (by simp [State.judged, State.frozen]) (by simp [State.driven])

theorem State.loseContest_orderly (s : State) : Orderly p s s.loseContest :=
  .of_eq (by simp [State.judged, State.frozen]) (by simp [State.driven])

theorem State.declareFault_orderly (s : State) : Orderly p s s.declareFault :=
  ((s.discardQueue_orderly.trans (State.modLink_orderly _ _)).trans
    (State.raiseTrip_orderly _ _ _)).trans (State.addCause_orderly _ _)

theorem State.failTransmission_orderly (s : State) : Orderly p s s.failTransmission := by
  have hstop : Orderly p s s.stopDriving := s.modLink_orderly _
  unfold State.failTransmission
  split
  · exact (hstop.trans (State.modLink_orderly _ _)).trans
      (.guarded fun _ => State.declareFault_orderly _)
  · exact .refl _

theorem State.clearFault_orderly (s : State) : Orderly p s s.clearFault :=
  .guarded fun _ => (s.returnAlarm_orderly _).trans (State.removeCause_orderly _ _)

theorem State.proposeCompleted_orderly (s : State) (n : Byte) :
    Orderly p s (s.proposeCompleted n) :=
  .guarded fun _ => s.modOwn_orderly _

theorem State.useCompletion_orderly (s : State) (f : OutFrame) :
    Orderly p s (s.useCompletion f) := by
  unfold State.useCompletion
  split
  · exact s.clearFault_orderly
  · exact s.proposeCompleted_orderly _
  · exact .guarded fun _ => s.setSlot_orderly _
  all_goals exact .refl _

theorem State.completeTransmission_orderly (s : State) : Orderly p s s.completeTransmission := by
  have htake : Orderly p s s.takeCompleted := s.modLink_orderly _
  unfold State.completeTransmission
  split
  · exact htake.trans (State.useCompletion_orderly _ _)
  · exact .refl _

theorem State.endQuietOut_orderly (s : State) : Orderly p s s.endQuietOut :=
  .guarded fun _ => (s.modLink_orderly _).trans (State.reportEvent_orderly _)

theorem State.clash_orderly (s : State) (src : BitVec 4) (hp : p ∨ s.ctl.mode ≠ .loading) :
    Orderly p s (s.clash src) :=
  (s.modLink_orderly _).trans
    (.ite (fun _ => .refl _) fun _ => State.raiseStop_orderly _ _ _ hp)

theorem State.expireClash_orderly (s : State) : Orderly p s s.expireClash :=
  .guarded fun _ => (s.modLink_orderly _).trans (State.returnAlarm_orderly _ _)

theorem State.freeBuffer_orderly (s : State) : Orderly p s s.freeBuffer := s.modLink_orderly _

theorem State.receive_orderly (s : State) (f : Frame) (hand : State → State)
    (hhand : Orderly p s (hand s)) : Orderly p s (s.receive f hand) :=
  .ite (fun _ => .refl _) fun hr => by
    have hm : s.ctl.mode ≠ .loading :=
      State.receives_ne_loading (by simpa using hr)
    exact (Orderly.ite (fun _ => s.clash_orderly _ (.inr hm)) fun _ =>
      .ite (fun _ => s.countMalformed_orderly) fun _ => hhand).trans (State.freeBuffer_orderly _)

theorem State.handReport_orderly (s : State) (f : Frame) : Orderly p s (s.handReport f) := by
  unfold State.handReport
  split
  · exact s.takeReport_orderly _ _
  · exact .refl _

theorem State.handPropose_orderly (s : State) (f : Frame) : Orderly p s (s.handPropose f) := by
  unfold State.handPropose
  split
  · dsimp only
    split
    · exact .ite (fun _ => s.countMalformed_orderly) fun _ => s.takePropose_orderly _ _ _
    · exact s.countMalformed_orderly
  · exact .refl _

theorem State.handObject_orderly (s : State) (f : Frame) : Orderly p s (s.handObject f) := by
  unfold State.handObject
  split
  · dsimp only
    split
    · exact .ite (fun _ => s.countMalformed_orderly) fun _ => s.takeObject_orderly _ _ _ _
    · exact s.countMalformed_orderly
  · exact .refl _

theorem State.log_orderly (s : State) (c : AlarmCode) (e : ListEvent) (v : Word16) (n : BitVec 4) :
    Orderly p s (s.log c e v n) :=
  .of_eq rfl rfl

theorem State.captureArm_orderly (s : State) (id : ArmId) (code : Option AlarmCode) :
    Orderly p s (s.captureArm id code) :=
  s.modCapture_orderly _

theorem State.takeNotice_orderly (s : State) (src : Station) (c : AlarmCode) (v : Word16) (b : Bool)
    (q : Word16) : Orderly p s (s.takeNotice src c v b q) :=
  ((s.log_orderly c .peerNotice v (stationAddress src)).trans
    (.guarded fun _ => State.stopNotice_orderly _ _)).trans
      (.guarded fun _ => State.captureArm_orderly _ _ _)

theorem State.handNotice_orderly (s : State) (f : Frame) : Orderly p s (s.handNotice f) := by
  unfold State.handNotice
  split
  · split
    · exact .ite (fun _ => s.takeNotice_orderly _ _ _ _ _) fun _ => s.countMalformed_orderly
    · exact s.countMalformed_orderly
  · exact .refl _

theorem State.handKeep_orderly (s : State) (f : Frame) : Orderly p s (s.handKeep f) := by
  unfold State.handKeep
  dsimp only
  split
  · exact .ite (fun _ => s.countMalformed_orderly) fun _ =>
      .guarded fun _ => s.takeKeepNotice_orderly _
  · exact s.countMalformed_orderly

/-! ### The service logic (Machine/Service.lean) -/

theorem State.serve_orderly (s : State) (code : Byte) (work : State → State × Reply)
    (hw : ∀ u, Orderly p u (work u).1) : Orderly p s (s.serve code work) :=
  .ite (fun _ => .refl _) fun _ =>
    .ite (fun _ => .ite (fun _ => .refl _) fun _ => s.queueFrame_orderly _) fun _ =>
      ((s.setSlot_orderly true).trans (hw _)).trans (State.queueFrame_orderly _ _)

theorem State.request_orderly (s : State) (h : Header) (code : Byte) (args : List Byte)
    (work : State → State × Reply) (hw : ∀ u, Orderly p u (work u).1) :
    Orderly p s (s.request h code args work) := by
  refine s.receive_orderly _ _ ?_
  unfold State.handRequest
  split
  · exact .guarded fun _ => s.serve_orderly _ _ hw
  · exact .refl _

theorem workAck_orderly (args : List Byte) (s : State) : Orderly p s (workAck args s).1 := by
  unfold workAck
  split
  · exact .refl _
  · dsimp only
    exact s.acknowledge_orderly

theorem workRelease_orderly (args : List Byte) (s : State) :
    Orderly p s (workRelease args s).1 := by
  unfold workRelease
  split
  · exact .refl _
  · split
    · exact s.releaseHead_orderly
    · exact .refl _

theorem workForce_orderly (args : List Byte) (s : State) : Orderly p s (workForce args s).1 := by
  unfold workForce
  split
  · split
    · exact s.forceLevel_orderly _
    · exact .refl _
  · exact .refl _

/-! ### Edges (Machine/Inputs.lean, Machine/Measure.lean) -/

theorem State.modPins_orderly (s : State) (f : Pins → Pins) : Orderly p s (s.modPins f) :=
  .of_eq rfl rfl

theorem State.settleAck_orderly (s : State) (x : Bool) : Orderly p s (s.settleAck x) :=
  .of_eq rfl rfl

theorem State.settleLimit_orderly (s : State) (x : Bool) : Orderly p s (s.settleLimit x) :=
  .of_eq rfl rfl

theorem State.settleBrakeFb_orderly (s : State) (x : Bool) : Orderly p s (s.settleBrakeFb x) :=
  .of_eq rfl rfl

theorem State.settleContactorFb_orderly (s : State) (x : Bool) : Orderly p s (s.settleContactorFb x) :=
  .of_eq rfl rfl

theorem State.settleWalkCmd_orderly (s : State) (x : Bool) : Orderly p s (s.settleWalkCmd x) :=
  .of_eq rfl rfl

theorem State.settleWalkStop_orderly (s : State) (x : Bool) : Orderly p s (s.settleWalkStop x) :=
  .of_eq rfl rfl

theorem State.settleHomeL_orderly (s : State) (x : Bool) : Orderly p s (s.settleHomeL x) :=
  .of_eq rfl rfl

theorem State.settleHomeR_orderly (s : State) (x : Bool) : Orderly p s (s.settleHomeR x) :=
  .of_eq rfl rfl

theorem State.settleSupplyOk_orderly (s : State) (x : Bool) : Orderly p s (s.settleSupplyOk x) :=
  .ite (fun _ => .refl _) fun _ => .of_eq rfl rfl

/-- A rise of RUN_PERMIT brings the condition of R9 that it is. -/
theorem State.settleRunPermit_true_orderly (s : State) : Orderly p s (s.settleRunPermit true) :=
  ⟨rfl, .inl rfl, fun h hm => by
    obtain ⟨hcauses, -, hneutral⟩ := h hm
    exact ⟨hcauses, rfl, hneutral⟩, id, id⟩

theorem State.runPermitRise_orderly (s : State) :
    Orderly p s (s.settleRunPermit true).permitRises :=
  (s.settleRunPermit_true_orderly.trans (State.removeCause_orderly _ _)).trans
    (State.tryRun_orderly _)

/-- A fall of RUN_PERMIT takes a condition of R9 away, and the station out of RUN (R10). -/
theorem State.runPermitFall_orderly (s : State) :
    Orderly p s (s.settleRunPermit false).permitFalls :=
  .ite (fun hm => State.enterHold_orderly hm rfl rfl) fun hm =>
    ⟨rfl, .inl rfl, fun _ h => absurd h hm, id, id⟩

theorem State.ackRises_orderly (s : State) : Orderly p s s.ackRises :=
  .ite (fun _ => .refl _) fun _ => s.acknowledge_orderly

theorem State.limitRises_orderly (s : State) : Orderly p s s.limitRises := by
  refine .guarded fun _ => ?_
  split
  · exact (s.modMeas_orderly _).trans (State.raiseWarn_orderly _ _ _)
  · exact s.modMeas_orderly _
  all_goals exact .refl _

theorem State.limitFalls_orderly (s : State) : Orderly p s s.limitFalls :=
  .guarded fun _ => s.returnAlarm_orderly _

theorem State.homeLeftRises_orderly (s : State) : Orderly p s s.homeLeftRises :=
  .guarded fun _ => s.modMeas_orderly _

theorem State.homeRightRises_orderly (s : State) : Orderly p s s.homeRightRises :=
  .guarded fun _ => s.modMeas_orderly _

theorem State.feedbackRises_orderly (s : State) : Orderly p s s.feedbackRises :=
  .guarded fun _ => s.contactorRises_orderly

theorem State.feedbackFalls_orderly (s : State) : Orderly p s s.feedbackFalls :=
  .guarded fun _ => s.contactorFalls_orderly

theorem State.walkCmdRises_orderly (s : State) : Orderly p s s.walkCmdRises :=
  .guarded fun h => s.walkCommanded_orderly (by
    have hm : s.ctl.mode = .run := by simp_all
    rw [hm]
    rfl)

theorem State.walkCmdFalls_orderly (s : State) : Orderly p s s.walkCmdFalls :=
  .guarded fun _ => s.stopWalk_orderly

theorem State.walkStopRises_orderly (s : State) : Orderly p s s.walkStopRises :=
  .guarded fun _ => (s.modWalk_orderly _).trans (State.stopWalk_orderly _)

theorem State.walkStopFalls_orderly (s : State) : Orderly p s s.walkStopFalls :=
  .guarded fun _ => (s.modWalk_orderly _).trans (State.clearForced_orderly _ _)

@[simp] theorem Measurement.countA_runPermit (m : Measurement) (r : Option Role) (n : Nat)
    (b : Bool) : (m.countA r n b).runPermit = m.runPermit := by
  unfold Measurement.countA
  split <;> rfl

@[simp] theorem Measurement.countB_runPermit (m : Measurement) (r : Option Role) (n : Nat)
    (b : Bool) : (m.countB r n b).runPermit = m.runPermit := by
  unfold Measurement.countB
  split <;> rfl

theorem State.countEdge_orderly (s : State) (x : PairId) (y : Phase) (us : Nat) :
    Orderly p s (s.countEdge x y us) := by
  unfold State.countEdge
  split
  · exact (s.modPins_orderly _).trans (.guarded fun _ => State.modMeas_orderly _ _ (by simp))
  · exact (s.modPins_orderly _).trans (.guarded fun _ => State.modMeas_orderly _ _ (by simp))

theorem State.skipEdge_orderly (s : State) (x : PairId) : Orderly p s (s.skipEdge x) :=
  (s.modPins_orderly _).trans (.guarded fun _ => State.modMeas_orderly _ _)

theorem State.regulationExpiry_orderly (s : State) (raw : Analog) :
    Orderly p s (s.regulationExpiry raw) :=
  .guarded fun h => s.regulationWork_orderly raw
    (.inr (State.loaded_ne_loading (by simp_all [State.regulationDue])))

/-! ### Every command -/

/-- The end of LISTEN, which alone takes a station to HOLD from LISTEN. -/
def Instr.endsListen : Instr → Bool
  | .listenExpiry => true
  | _ => false

/-- Every command but the resets, the load and the end of LISTEN answers, and its move is orderly; out of
LOADING leads the fall of SUPPLY_OK alone. -/
theorem exec_orderly (c : Instr) (s : State) (hreset : c.isReset = false)
    (hload : c.isLoad = false) (hlisten : Instr.endsListen c = false) :
    Completes c s (Orderly (c = .supplyOkFall) s) := by
  cases c with
  | powerOnReset x => exact absurd hreset (by simp [Instr.isReset])
  | localReset x => exact absurd hreset (by simp [Instr.isReset])
  | parameterBlockLoaded m => exact absurd hload (by simp [Instr.isLoad])
  | listenExpiry => exact absurd hlisten (by decide)
  | reportTimerExpiry => exact ⟨_, rfl, .guarded fun _ => s.reportEvent_orderly⟩
  | unconfiguredReportExpiry => exact ⟨_, rfl, .guarded fun _ => s.reportEvent_orderly⟩
  | regulationIntervalExpiry raw => exact ⟨_, rfl, s.regulationExpiry_orderly raw⟩
  | neutralTimeElapsed => exact ⟨_, rfl, s.tryRun_orderly⟩
  | runPermitRise => exact ⟨_, rfl, s.runPermitRise_orderly⟩
  | runPermitFall => exact ⟨_, rfl, s.runPermitFall_orderly⟩
  | ackRise => exact ⟨_, rfl, (s.settleAck_orderly true).trans (State.ackRises_orderly _)⟩
  | limitRise => exact ⟨_, rfl, (s.settleLimit_orderly true).trans (State.limitRises_orderly _)⟩
  | limitFall => exact ⟨_, rfl, (s.settleLimit_orderly false).trans (State.limitFalls_orderly _)⟩
  | homeLRise => exact ⟨_, rfl, (s.settleHomeL_orderly true).trans (State.homeLeftRises_orderly _)⟩
  | homeRRise => exact ⟨_, rfl, (s.settleHomeR_orderly true).trans (State.homeRightRises_orderly _)⟩
  | contactorFbRise => exact ⟨_, rfl, (s.settleContactorFb_orderly true).trans (State.feedbackRises_orderly _)⟩
  | contactorFbFall => exact ⟨_, rfl, (s.settleContactorFb_orderly false).trans (State.feedbackFalls_orderly _)⟩
  | walkCmdRise => exact ⟨_, rfl, (s.settleWalkCmd_orderly true).trans (State.walkCmdRises_orderly _)⟩
  | walkCmdFall => exact ⟨_, rfl, (s.settleWalkCmd_orderly false).trans (State.walkCmdFalls_orderly _)⟩
  | walkStopRise => exact ⟨_, rfl, (s.settleWalkStop_orderly true).trans (State.walkStopRises_orderly _)⟩
  | walkStopFall => exact ⟨_, rfl, (s.settleWalkStop_orderly false).trans (State.walkStopFalls_orderly _)⟩
  | walkStopHoldExpiry => exact ⟨_, rfl, s.expireStopHold_orderly⟩
  | supplyOkFall =>
    exact ⟨_, rfl, (s.settleSupplyOk_orderly false).trans (State.raiseStop_orderly _ _ _ (.inl rfl))⟩
  | supplyOkRise =>
    exact ⟨_, rfl, (s.settleSupplyOk_orderly true).trans (State.returnAlarm_orderly _ _)⟩
  | countEdge x y us => exact ⟨_, rfl, s.countEdge_orderly x y us⟩
  | quadSkip x => exact ⟨_, rfl, s.skipEdge_orderly x⟩
  | transmissionStart => exact ⟨_, rfl, s.startTransmission_orderly⟩
  | contestLost => exact ⟨_, rfl, s.loseContest_orderly⟩
  | transmitFailure => exact ⟨_, rfl, s.failTransmission_orderly⟩
  | completionEvent => exact ⟨_, rfl, s.completeTransmission_orderly⟩
  | quietOutExpiry => exact ⟨_, rfl, s.endQuietOut_orderly⟩
  | frameLengthAbandoned n => exact ⟨_, rfl, .guarded fun _ => s.countMalformed_orderly⟩
  | frameBad f x y =>
    exact ⟨_, rfl, .guarded fun _ => (s.modLink_orderly _).trans (State.freeBuffer_orderly _)⟩
  | frameOwnAddress f =>
    refine ⟨_, rfl, .guarded fun h => ?_⟩
    have hm : s.ctl.mode ≠ .loading := State.receives_ne_loading (by simp_all)
    exact (s.clash_orderly _ (.inr hm)).trans (State.freeBuffer_orderly _)
  | addressClashReturnExpiry => exact ⟨_, rfl, s.expireClash_orderly⟩
  | frameMalformed f => exact ⟨_, rfl, s.receive_orderly _ _ (.refl _)⟩
  | stateReport h l => exact ⟨_, rfl, s.receive_orderly _ _ (s.handReport_orderly _)⟩
  | propose h l => exact ⟨_, rfl, s.receive_orderly _ _ (s.handPropose_orderly _)⟩
  | object h l => exact ⟨_, rfl, s.receive_orderly _ _ (s.handObject_orderly _)⟩
  | sendLimitExpiry => exact ⟨_, rfl, s.expireSendLimit_orderly⟩
  | windowExpiry => exact ⟨_, rfl, s.expireWindow_orderly⟩
  | alarmNotice h l => exact ⟨_, rfl, s.receive_orderly _ _ (s.handNotice_orderly _)⟩
  | keepNotice h l => exact ⟨_, rfl, s.receive_orderly _ _ (s.handKeep_orderly _)⟩
  | serviceReply h l => exact ⟨_, rfl, s.receive_orderly _ _ (.refl _)⟩
  | readStatus h l => exact ⟨_, rfl, s.request_orderly _ _ _ _ Orderly.refl⟩
  | readPeer h l => exact ⟨_, rfl, s.request_orderly _ _ _ _ Orderly.refl⟩
  | readCounters h l => exact ⟨_, rfl, s.request_orderly _ _ _ _ Orderly.refl⟩
  | readAlarms h l => exact ⟨_, rfl, s.request_orderly _ _ _ _ Orderly.refl⟩
  | ackAlarms h l => exact ⟨_, rfl, s.request_orderly _ _ _ _ (workAck_orderly l)⟩
  | readCaptureHeader h l => exact ⟨_, rfl, s.request_orderly _ _ _ _ Orderly.refl⟩
  | readCaptureSamples h l => exact ⟨_, rfl, s.request_orderly _ _ _ _ Orderly.refl⟩
  | releaseCapture h l => exact ⟨_, rfl, s.request_orderly _ _ _ _ (workRelease_orderly l)⟩
  | forceDerate h l => exact ⟨_, rfl, s.request_orderly _ _ _ _ (workForce_orderly l)⟩
  | serviceRequestUnknownCode h x l =>
    exact ⟨_, rfl, .ite (fun _ => .refl _) fun _ => s.request_orderly _ _ _ _ Orderly.refl⟩
  | entryGoesStale n => exact ⟨_, rfl, .guarded fun _ => s.goStale_orderly n⟩
  | entryGoesAbsent n => exact ⟨_, rfl, .guarded fun _ => s.goAbsent_orderly n⟩
  | tachExcessExpiry => exact ⟨_, rfl, s.expireTachExcess_orderly⟩
  | tachRecoveryExpiry => exact ⟨_, rfl, s.expireTachRecovery_orderly⟩
  | brakeSetTimeExpiry => exact ⟨_, rfl, s.expireBrakeSet_orderly⟩
  | brakeDisagreeExpiry => exact ⟨_, rfl, s.expireDisagree_orderly⟩
  | brakeAgreeExpiry => exact ⟨_, rfl, s.expireAgree_orderly⟩
  | fieldLossTimeExpiry => exact ⟨_, rfl, s.expireLoss_orderly⟩
  | fieldLossClearExpiry => exact ⟨_, rfl, s.expireLossClear_orderly⟩
  | overcurrentClearExpiry x => exact ⟨_, rfl, s.expireClear_orderly x⟩
  | boomOverloadTimeExpiry => exact ⟨_, rfl, s.expireOverload_orderly⟩
  | swingRestExpiry => exact ⟨_, rfl, s.expireRest_orderly⟩
  | deratePersistenceExpiry => exact ⟨_, rfl, s.expireDerate_orderly⟩
  | supplyLimitExpiry => exact ⟨_, rfl, s.expireSupplyLimit_orderly⟩
  | transferLimitExpiry => exact ⟨_, rfl, s.expireTransfer_orderly⟩
  | returnLimitExpiry => exact ⟨_, rfl, s.expireReturn_orderly⟩
  | closedFeedbackLimitExpiry => exact ⟨_, rfl, s.expireClosed_orderly⟩
  | endTimeExpiry => exact ⟨_, rfl, s.expireEnd_orderly⟩
  | postEnd => exact ⟨_, rfl, .guarded fun _ => s.endPost_orderly⟩
  | decisionEntryDue => exact ⟨_, rfl, .guarded fun _ => s.decideDue_orderly⟩
  | keepDeadlineExpiry i => exact ⟨_, rfl, s.expireKeep_orderly i⟩
  | brakeFbEdge level => exact ⟨_, rfl, s.settleBrakeFb_orderly level⟩

end Orderly
end Sys2Proof.Machine
end

section
/-!
PROOFS. Start-up: resets, load and the end of LISTEN; O53, O15 and O4.
-/

set_option Elab.async false

namespace Sys2Proof.Machine

/-! ### The commands that lead from one mode of start-up to the next -/

@[simp] theorem State.ownReport_ctl (s : State) :
    s.ownReport.ctl = { s.ctl with reportSeq := s.ctl.reportSeq + 1 } := by
  unfold State.ownReport
  simp

/-- HOLD with cause RESTART, as LISTEN leaves it (R7). -/
def State.listenDone (s : State) : State :=
  ((s.setMode .hold).modCtl fun c =>
    { c with listenTimer := none, neutralSince := none }).putCause .restart true

theorem State.listenDone_leaveListen {p : Prop} (s : State) :
    Orderly p s.listenDone s.leaveListen :=
  ((s.listenDone.firstWriteBlock_orderly).trans (State.startReportTimer_orderly _)).trans
    (State.ownReport_orderly _)

@[simp] theorem State.leaveListen_mode (s : State) : s.leaveListen.ctl.mode = .hold := by
  unfold State.leaveListen
  simp [State.startReportTimer, State.putCause]

/-- A station away from STOP has no STOP code away from NORMAL, and this is all the invariant asks. -/
theorem State.StopCodesStop.congr {s t : State} (h : s.StopCodesStop) (hm : s.ctl.mode ≠ .stop)
    (ha : t.alarm.table = s.alarm.table) : t.StopCodesStop := fun ⟨c, hc, hs, hn⟩ =>
  absurd (h ⟨c, hc, hs, State.ann_congr ha c ▸ hn⟩) hm

@[simp] theorem State.raiseTwoBlock_ctl (s : State) : s.raiseTwoBlock.ctl = s.ctl := by
  unfold State.raiseTwoBlock
  simp

@[simp] theorem State.homeAtLoad_keeps (s : State) :
    s.homeAtLoad.out = s.out ∧ s.homeAtLoad.ctl = s.ctl ∧ s.homeAtLoad.link = s.link
      ∧ s.homeAtLoad.peers = s.peers ∧ s.homeAtLoad.capture = s.capture
      ∧ s.homeAtLoad.now = s.now := by
  unfold State.homeAtLoad
  dsimp only
  (repeat' split) <;> simp

@[simp] theorem State.dutiesAtLoad_ctl (s : State) : s.dutiesAtLoad.ctl = s.ctl := by
  unfold State.dutiesAtLoad
  (repeat' split) <;> simp

/-- The roster of a block. -/
def rosterIn (b : List Byte) : List RosterEntry := rosterOfFields (rosterFields b (u8 b 250))

/-- The station in LISTEN with its block in force and its store divided, before any input is looked at. -/
def State.admitted (s : State) (b : List Byte) (n : Station) : State :=
  (s.freeze (Params.parse b) (rosterIn b) n).modCapture fun k => k.divide (Params.parse b).blocks

theorem State.goodLoad_eq (s : State) (b : List Byte) (n : Station) :
    s.goodLoad b n = (s.admitted b n).startMeasuring.homeAtLoad.dutiesAtLoad := rfl

@[simp] theorem State.goodLoad_ctl (s : State) (b : List Byte) (n : Station) :
    (s.goodLoad b n).ctl = (s.admitted b n).ctl := by
  simp [State.goodLoad_eq, State.startMeasuring]

section Orderly

variable {p : Prop}

theorem State.homeAtLoad_orderly (s : State) : Orderly p s s.homeAtLoad := by
  unfold State.homeAtLoad
  split
  · exact .guarded fun _ => s.modMeas_orderly _
  · exact .guarded fun _ => s.modMeas_orderly _
  · exact .guarded fun _ => s.modMeas_orderly _
  · exact (Orderly.guarded fun _ => s.modMeas_orderly _).trans
      (.guarded fun _ => State.modMeas_orderly _ _)
  · exact .refl _

theorem State.dutiesAtLoad_orderly (s : State) : Orderly p s s.dutiesAtLoad := by
  unfold State.dutiesAtLoad
  split
  · exact .guarded fun _ => s.raiseWarn_orderly _ _
  · exact .guarded fun _ => s.modRole_orderly _
  all_goals exact .refl _

theorem State.admitted_goodLoad (s : State) (b : List Byte) (n : Station) :
    Orderly p (s.admitted b n) (s.goodLoad b n) :=
  (((s.admitted b n).modMeas_orderly _).trans (State.homeAtLoad_orderly _)).trans
    (State.dutiesAtLoad_orderly _)

end Orderly

/-- The three outcomes of a load: nothing where the station is not in LOADING with its straps read, LISTEN
where the checks pass, and CONFIG_BAD where one fails (R2 to R5). -/
theorem State.loadBlock_cases (s : State) (memory : List Byte) :
    s.loadBlock memory = s
      ∨ s.ctl.mode = .loading ∧ ∃ n r, s.self = some n ∧ s.ownRole = some r
        ∧ s.loadBlock memory =
          if loadChecks (blockOf memory) (stationNumber n) r.code = 0 then
            s.goodLoad (blockOf memory) n
          else s.raiseStop .configBad (loadChecks (blockOf memory) (stationNumber n) r.code : Nat) := by
  unfold State.loadBlock
  split
  · next n r hm hn hr => exact .inr ⟨hm, n, r, hn, hr, rfl⟩
  · exact .inl rfl

/-! ### Resets -/

/-- The state that a power-on reset leaves before the strap read (R13). -/
def State.afterPowerOn (s : State) : State :=
  { State.reset with pins := s.pins, pending := s.pending }

/-- The state that a local reset leaves before the strap read (R13, R171). -/
def State.afterLocalReset (s : State) : State :=
  ({ State.reset with
      pins := s.pins
      capture := s.capture.afterLocalReset
      pending := s.pending } : State).modCtl fun c => { c with restart := .localReset }

theorem State.powerOn_eq (s : State) (x : Straps) : s.powerOn x = s.afterPowerOn.readStraps x := rfl

theorem State.localReset_eq (s : State) (x : Straps) :
    s.localReset x = s.afterLocalReset.readStraps x := rfl

theorem AlarmUnit.reset_stateOf (c : AlarmCode) : AlarmUnit.reset.stateOf c = .normal := by
  cases c <;> rfl

/-- The straps are read. -/
def State.strapped (s : State) (x : Straps) : State := s.modCtl fun c => { c with straps := some x }

theorem State.readStraps_of_valid {x : Straps} (h : strapsValid x = true) (s : State) :
    s.readStraps x = s.strapped x := if_pos h

theorem State.readStraps_of_invalid {x : Straps} (h : strapsValid x = false) (s : State) :
    s.readStraps x = (s.strapped x).enterStop := if_neg (by simp [h])

@[simp] theorem State.readStraps_pending (s : State) (x : Straps) :
    (s.readStraps x).pending = s.pending := by
  unfold State.readStraps
  split <;> simp

/-- The strap read keeps a sound station in LOADING sound. -/
theorem State.readStraps_sound {s : State} (hm : s.ctl.mode = .loading) (hsafe : s.SafeModes)
    (hstops : s.StopCodesStop) (x : Straps) :
    (s.readStraps x).SafeModes ∧ (s.readStraps x).StopCodesStop := by
  have hne : (s.strapped x).ctl.mode ≠ .stop := by
    rw [show (s.strapped x).ctl.mode = .loading from hm]
    decide
  cases h : strapsValid x with
  | true =>
    rw [State.readStraps_of_valid h]
    exact ⟨hsafe, hstops⟩
  | false =>
    rw [State.readStraps_of_invalid h]
    exact ⟨State.enterStop_safeModes hne, fun _ => State.enterStop_mode _⟩

/-- Every alarm NORMAL, nothing has a STOP code away from it. -/
theorem State.stopCodesStop_of_reset {s : State} (h : s.alarm = AlarmUnit.reset) :
    s.StopCodesStop := fun ⟨c, _, _, hn⟩ => by
  unfold State.ann at hn
  rw [h, AlarmUnit.reset_stateOf] at hn
  exact absurd rfl hn

/-! ### O53: safe modes and STOP codes -/

/-- Every command keeps the safe modes safe and STOP codes in STOP. -/
theorem exec_keeps_sound (c : Instr) (s : State) :
    Completes c s fun t => (s.SafeModes → t.SafeModes) ∧ (s.StopCodesStop → t.StopCodesStop) := by
  by_cases hplain : c.isReset = false ∧ c.isLoad = false ∧ Instr.endsListen c = false
  · obtain ⟨hreset, hload, hlisten⟩ := hplain
    obtain ⟨t, ht, ho⟩ := exec_orderly c s hreset hload hlisten
    exact ⟨t, ht, ho.safe, ho.stops⟩
  cases c with
  | powerOnReset x =>
    have h := State.readStraps_sound (s := s.afterPowerOn) rfl
      (fun _ => ⟨⟨rfl, rfl, rfl⟩, rfl, rfl, rfl⟩) (State.stopCodesStop_of_reset rfl) x
    exact ⟨_, rfl, fun _ => h.1, fun _ => h.2⟩
  | localReset x =>
    have h := State.readStraps_sound (s := s.afterLocalReset) rfl
      (fun _ => ⟨⟨rfl, rfl, rfl⟩, rfl, rfl, rfl⟩) (State.stopCodesStop_of_reset rfl) x
    exact ⟨_, rfl, fun _ => h.1, fun _ => h.2⟩
  | parameterBlockLoaded memory =>
    refine ⟨_, rfl, ?_⟩
    rcases s.loadBlock_cases memory with h | ⟨hm, n, r, -, -, h⟩
    · rw [h]
      exact ⟨id, id⟩
    have hsafe : s.ctl.mode.safe = true := by rw [hm]; rfl
    rw [h]
    split
    · have ho := s.admitted_goodLoad (p := True) (blockOf memory) n
      exact ⟨fun hs => ho.safe fun _ => hs hsafe,
        fun hs => ho.stops (hs.congr (by rw [hm]; decide) rfl)⟩
    · have ho := s.raiseStop_orderly (p := True) .configBad
        (loadChecks (blockOf memory) (stationNumber n) r.code : Nat) (.inl trivial)
      exact ⟨ho.safe, ho.stops⟩
  | listenExpiry =>
    refine ⟨_, rfl, ?_⟩
    unfold State.endListen
    split
    · next h =>
      have hm : s.ctl.mode = .listen := by simp_all [State.listenDue]
      refine ⟨fun _ hs => absurd hs ?_, fun hs => ?_⟩
      · rw [State.leaveListen_mode]
        decide
      · exact (s.listenDone_leaveListen (p := True)).stops (hs.congr (by rw [hm]; decide) rfl)
    · exact ⟨id, id⟩
  | _ => exact absurd ⟨rfl, rfl, rfl⟩ hplain

/-- Settles O53: every shared operation is `Orderly`, and the resets, the load and the end of LISTEN are so from
the state that they put in place. -/
theorem safeModesKept : Obligations.SafeModesKept := by
  unfold Obligations.SafeModesKept
  intro s t hstep
  unfold step at hstep
  split at hstep
  · obtain rfl : s.tick = t := by simpa using hstep
    exact ⟨id, id⟩
  · next c rest _ =>
    obtain ⟨t', ht', hkeep⟩ := exec_keeps_sound c { s with pending := rest }
    obtain rfl : t' = t := by simpa [ht'] using hstep
    exact hkeep

/-! ### O15: the moves of the mode -/

theorem Mode.mayBecome_self (m : Mode) : m.mayBecome m = true := by
  cases m <;> rfl

/-- Settles O15: an orderly command moves the mode as Table 1-3 lets it, and the load and the end of LISTEN, which
are left, enter LISTEN and HOLD. -/
theorem modeMoves : Obligations.ModeMoves := by
  unfold Obligations.ModeMoves
  intro c s hreset
  by_cases hplain : c.isLoad = false ∧ Instr.endsListen c = false
  · obtain ⟨hload, hlisten⟩ := hplain
    obtain ⟨t, ht, ho⟩ := exec_orderly c s hreset hload hlisten
    refine ⟨t, ht, ho.mode.mayBecome, fun hl hne => ?_, fun hne => ho.run fun h => absurd h hne⟩
    rcases ho.mode with h | ⟨h, -⟩ | ⟨h, -⟩ | ⟨-, h⟩
    · exact absurd (h.trans hl) hne
    · exact absurd (hl.symm.trans h) (by decide)
    · exact absurd (hl.symm.trans h) (by decide)
    · exact .inr (h hl)
  cases c with
  | powerOnReset x => exact absurd hreset (by simp [Instr.isReset])
  | localReset x => exact absurd hreset (by simp [Instr.isReset])
  | parameterBlockLoaded memory =>
    refine ⟨_, rfl, ?_⟩
    rcases s.loadBlock_cases memory with h | ⟨hm, n, r, -, -, h⟩
    · rw [h]
      exact ⟨Mode.mayBecome_self _, fun hl hne => absurd hl hne, fun hne hr => absurd hr hne⟩
    rw [h]
    split
    · have hlisten : (s.goodLoad (blockOf memory) n).ctl.mode = .listen := by
        rw [State.goodLoad_ctl]
        rfl
      rw [hm, hlisten]
      exact ⟨rfl, fun _ _ => .inl rfl, fun _ h => absurd h (by decide)⟩
    · have ho := s.raiseStop_orderly (p := True) .configBad
        (loadChecks (blockOf memory) (stationNumber n) r.code : Nat) (.inl trivial)
      exact ⟨ho.mode.mayBecome, fun _ _ => .inl rfl, fun hne => ho.run fun hr => absurd hr hne⟩
  | listenExpiry =>
    refine ⟨_, rfl, ?_⟩
    unfold State.endListen
    split
    · next h =>
      have hm : s.ctl.mode = .listen := by simp_all [State.listenDue]
      rw [State.leaveListen_mode, hm]
      exact ⟨rfl, fun h => absurd h (by decide), fun _ h => absurd h (by decide)⟩
    · exact ⟨Mode.mayBecome_self _, fun h hne => absurd h hne, fun hne h => absurd h hne⟩
  | _ => exact absurd ⟨rfl, rfl⟩ hplain

/-! ### O4: what no command touches -/

/-- The load leaves what a reset alone touches (R5). -/
theorem State.loadBlock_keeps_control (s : State) (memory : List Byte) :
    (s.loadBlock memory).pending = s.pending ∧ (s.loadBlock memory).now = s.now
      ∧ (s.loadBlock memory).ctl.straps = s.ctl.straps
      ∧ (s.loadBlock memory).ctl.restart = s.ctl.restart := by
  rcases s.loadBlock_cases memory with h | ⟨-, n, r, -, -, h⟩
  · rw [h]
    exact ⟨rfl, rfl, rfl, rfl⟩
  rw [h]
  split
  · have hf := (s.admitted_goodLoad (p := True) (blockOf memory) n).frozen
    simp only [State.frozen, Prod.mk.injEq] at hf
    obtain ⟨hpend, hnow, hstraps, hrestart, -⟩ := hf
    exact ⟨hpend, hnow, hstraps, hrestart⟩
  · have hf := (s.raiseStop_orderly (p := True) .configBad
      (loadChecks (blockOf memory) (stationNumber n) r.code : Nat) (.inl trivial)).frozen
    simp only [State.frozen, Prod.mk.injEq] at hf
    obtain ⟨hpend, hnow, hstraps, hrestart, -⟩ := hf
    exact ⟨hpend, hnow, hstraps, hrestart⟩

/-- No command but a reset or a load touches what is frozen. -/
theorem exec_frozen (c : Instr) (s : State) (hreset : c.isReset = false) (hload : c.isLoad = false) :
    Completes c s fun t => t.frozen = s.frozen := by
  cases hlisten : Instr.endsListen c with
  | false =>
    obtain ⟨t, ht, ho⟩ := exec_orderly c s hreset hload hlisten
    exact ⟨t, ht, ho.frozen⟩
  | true =>
    obtain rfl : c = .listenExpiry := by
      cases c <;> simp_all [Instr.endsListen]
    refine ⟨_, rfl, ?_⟩
    unfold State.endListen
    split
    · exact (s.listenDone_leaveListen (p := True)).frozen
    · rfl

/-- Settles O4, from what is frozen at every command but a reset or a load. -/
theorem commandsAnswer : Obligations.CommandsAnswer := by
  unfold Obligations.CommandsAnswer
  intro c s
  by_cases hplain : c.isReset = false ∧ c.isLoad = false
  · obtain ⟨t, ht, hf⟩ := exec_frozen c s hplain.1 hplain.2
    simp only [State.frozen, Prod.mk.injEq] at hf
    obtain ⟨hpend, hnow, hstraps, hrestart, hparams, hroster, hplace, hlist⟩ := hf
    refine ⟨t, ht, hpend, fun _ => ⟨hnow, hstraps, hrestart, fun _ =>
      ⟨hparams, hroster, hplace, fun n => ?_⟩⟩⟩
    have hn := congrFun hlist n
    simp only [PeerTable.listing, Prod.mk.injEq] at hn
    exact hn
  cases c with
  | powerOnReset x =>
    exact ⟨_, rfl, State.readStraps_pending _ x, fun h => absurd h (by simp [Instr.isReset])⟩
  | localReset x =>
    exact ⟨_, rfl, State.readStraps_pending _ x, fun h => absurd h (by simp [Instr.isReset])⟩
  | parameterBlockLoaded memory =>
    obtain ⟨hpend, hnow, hstraps, hrestart⟩ := s.loadBlock_keeps_control memory
    exact ⟨_, rfl, hpend, fun _ => ⟨hnow, hstraps, hrestart, fun h =>
      absurd h (by simp [Instr.isLoad])⟩⟩
  | _ => exact absurd ⟨rfl, rfl⟩ hplain
end Sys2Proof.Machine
end

section
/-!
PROOFS. O54 fails: a report in LOADING fills an entry.
-/

set_option Elab.async false

namespace Sys2Proof.Machine

/-! ### O54: the hold causes -/

/-- A hoist, station 1, in LOADING, with parameters in force and a quiet-out that has run: `CausesAgree` holds of it,
since that asks of LOADING for no cause, no transmission and every entry ABSENT, and says nothing of these two.
No run from a reset comes here. -/
def loadingInQuietOut : State :=
  { State.reset with
    ctl := { StationControl.reset with straps := some ⟨1, 1⟩, params := some Params.blank }
    link := { LinkController.reset with quietOut := some 0 }
    pending := [.quietOutExpiry] }

theorem loadingInQuietOut_causesAgree : loadingInQuietOut.CausesAgree := by
  unfold State.CausesAgree
  decide +kernel

theorem step_loadingInQuietOut :
    step loadingInQuietOut = .next { loadingInQuietOut with pending := [] }.endQuietOut := rfl

/-- The end of the quiet-out leaves LOADING as it is. -/
theorem loadingInQuietOut_mode :
    { loadingInQuietOut with pending := [] }.endQuietOut.ctl.mode = .loading := by decide

/-- The end of the quiet-out asks for a report, which makes the own entry FRESH (R25, R38). -/
theorem loadingInQuietOut_status :
    ({ loadingInQuietOut with pending := [] }.endQuietOut.entry 0).status = .fresh := by decide

/-- Refutes O54: QUIET_OUT_EXPIRY is taken in LOADING too, and where parameters are already in force its report
fills the own entry, so that not every entry is ABSENT any more. -/
theorem not_causesKept : ¬ Obligations.CausesKept := by
  unfold Obligations.CausesKept
  intro h
  obtain ⟨-, hagree, -⟩ := h _ _ step_loadingInQuietOut
  obtain ⟨-, -, -, -, hloading⟩ := hagree loadingInQuietOut_causesAgree
  obtain ⟨-, -, habsent⟩ := hloading loadingInQuietOut_mode
  exact absurd (loadingInQuietOut_status.symm.trans (habsent 0)) (by decide)

end Sys2Proof.Machine
end

section
/-!
PROOFS. A station in a strap fault; O8.
-/

set_option Elab.async false

namespace Sys2Proof.Machine

/-! ### O8: a station in a strap fault -/

/-- What a strap fault shows to the world, with the mode and the straps. -/
def State.face (s : State) :=
  (s.out, s.alarm.table, s.link.queue, s.link.sending, s.ctl.mode, s.ctl.straps)

/-- A strap fault's STOP is told by its face. -/
theorem State.StrapStopped.congr {s t : State} (h : s.StrapStopped) (hface : t.face = s.face) :
    t.StrapStopped := by
  simp only [State.face, Prod.mk.injEq] at hface
  obtain ⟨ho, ha, hq, hs, hm, hx⟩ := hface
  unfold State.StrapStopped State.strapFault State.outputsOff at *
  rw [ho, hq, hs, hm, hx]
  simp only [State.ann_congr ha]
  exact h

/-! What a station in a strap fault does not do: it has no address, so it neither receives nor sends, and none of
its blocks works (R1). -/

theorem State.strapFault_congr {s t : State} (h : t.ctl.straps = s.ctl.straps) :
    t.strapFault = s.strapFault := by
  unfold State.strapFault
  rw [h]

/-- A station in the STOP of a strap fault. -/
def State.Mute (s : State) : Prop := s.strapFault = true ∧ s.ctl.mode = .stop

namespace State.Mute

variable {s : State}

theorem addressed (h : s.Mute) : s.addressed = false := by
  have hx := h.1
  unfold State.strapFault at hx
  unfold State.addressed
  split <;> simp_all

theorem alarmInUse (h : s.Mute) : s.alarmInUse = false := by
  simp [State.alarmInUse, h.1]

theorem receives (h : s.Mute) : s.receives = false := by
  simp [State.receives, h.2, h.addressed]

theorem onLink (h : s.Mute) : s.onLink = false := by
  simp [State.onLink, h.2, h.addressed]

theorem loaded (h : s.Mute) : s.loaded = false := by simp [State.loaded, h.receives]

theorem inService (h : s.Mute) : s.inService = false := by simp [State.inService, h.onLink]

theorem walkWorks (h : s.Mute) : s.walkWorks = false := by simp [State.walkWorks, h.inService]

theorem takesStep (h : s.Mute) : s.takesStep = false := by simp [State.takesStep, h.2]

theorem tryRun (h : s.Mute) : s.tryRun = s := if_neg (by simp [h.2])

theorem queueFrame (h : s.Mute) (f : OutFrame) : s.queueFrame f = s := if_pos (by simp [h.onLink])

theorem raiseWarn (h : s.Mute) (c : AlarmCode) (v : Int) : s.raiseWarn c v = s :=
  if_pos (by simp [h.alarmInUse])

theorem raiseStop (h : s.Mute) (c : AlarmCode) (v : Int) : s.raiseStop c v = s :=
  if_pos (by simp [h.alarmInUse])

theorem returnAlarm (h : s.Mute) (c : AlarmCode) : s.returnAlarm c = s :=
  if_pos (by simp [h.alarmInUse])

theorem receive (h : s.Mute) (f : Frame) (hand : State → State) : s.receive f hand = s :=
  if_pos (by simp [h.receives])

theorem request (h : s.Mute) (x : Header) (code : Byte) (args : List Byte)
    (work : State → State × Reply) : s.request x code args work = s :=
  h.receive _ _

/-- The removal of a hold cause is not seen. -/
theorem removeCause_face (h : s.Mute) (c : HoldCause) : (s.removeCause c).face = s.face := by
  have hput : (s.putCause c false).Mute := h
  unfold State.removeCause
  split
  · rw [hput.tryRun]
    rfl
  · rfl

theorem tellCancel_face (s : State) (k : ProposalKind) : (s.tellCancel k).face = s.face := by
  unfold State.tellCancel
  split <;> split <;> rfl

theorem of_ctl {t : State} (h : s.Mute) (hm : t.ctl.mode = s.ctl.mode)
    (hx : t.ctl.straps = s.ctl.straps) : t.Mute := by
  unfold State.Mute State.strapFault
  rw [hm, hx]
  exact h

theorem of_face {t : State} (h : s.Mute) (ht : t.face = s.face) : t.Mute := by
  simp only [State.face, Prod.mk.injEq] at ht
  obtain ⟨-, -, -, -, hm, hx⟩ := ht
  exact h.of_ctl hm hx

theorem cancelProposal_face (h : s.Mute) (o : CancelOutcome) :
    (s.cancelProposal o).face = s.face := by
  have htell : ∀ u : State, u.face = s.face → (u.raiseWarn .consentRefused o.value).face = s.face :=
    fun u hu => by rw [(h.of_face hu).raiseWarn, hu]
  unfold State.cancelProposal
  dsimp only
  split
  · exact htell _ (tellCancel_face _ _)
  · exact htell _ rfl

theorem tellCommit_face (s : State) (k : ProposalKind) : (s.tellCommit k).face = s.face := by
  unfold State.tellCommit
  split <;> split <;> rfl

theorem expireWindow_face (h : s.Mute) : s.expireWindow.face = s.face := by
  unfold State.expireWindow
  dsimp only
  split
  · split
    · rfl
    · split
      · exact h.cancelProposal_face _
      · exact tellCommit_face _ _
  · rfl

/-- A cancelled PROPOSE leaves an empty queue empty. -/
theorem expireSendLimit_face (h : s.Mute) (hq : s.link.queue = []) :
    s.expireSendLimit.face = s.face := by
  unfold State.expireSendLimit
  dsimp only
  split
  · have hf := h.cancelProposal_face .notSent
    have hlink : (s.cancelProposal .notSent).link.queue = [] := by
      simp only [State.face, Prod.mk.injEq] at hf
      obtain ⟨-, -, hqueue, -⟩ := hf
      exact hqueue.trans hq
    rw [← hf]
    simp [State.face, State.removePropose, hlink]
  · rfl

theorem revote_link (h : s.Mute) : s.revote.link = s.link := by
  have hobject : (s.setObjecting true).Mute := h
  unfold State.revote
  (repeat' split) <;> simp [State.objectTo, hobject.queueFrame]

/-- A report that is asked for is not sent. -/
theorem ownReport_face (h : s.Mute) : s.ownReport.face = s.face := by
  have hfill : ((s.revote.modCtl fun c => { c with reportSeq := c.reportSeq + 1 }).fillOwnEntry
      s.revote.ctl.reportSeq s.revote.reportFields).Mute :=
    h.of_ctl (by simp) (by simp)
  unfold State.ownReport
  dsimp only
  rw [hfill.queueFrame]
  simp [State.face, h.revote_link]

theorem endQuietOut_face (h : s.Mute) : s.endQuietOut.face = s.face := by
  have hstart : ((s.modLink fun l => { l with quietOut := none }).startReportTimer).Mute := h
  unfold State.endQuietOut
  split
  · exact hstart.ownReport_face
  · rfl

theorem transmission_stays (hq : s.link.queue = []) (hs : s.link.sending = none) :
    s.startTransmission = s ∧ s.loseContest = s ∧ s.failTransmission = s
      ∧ s.completeTransmission = s := by
  unfold State.startTransmission State.loseContest State.failTransmission State.completeTransmission
  rw [hq, hs]
  exact ⟨rfl, rfl, rfl, rfl⟩

theorem expireClash_face (h : s.Mute) : s.expireClash.face = s.face := by
  have hclock : (s.modLink fun l => { l with clashTimer := none }).Mute := h
  unfold State.expireClash
  split
  · rw [hclock.returnAlarm]
    rfl
  · rfl

theorem expireKeep_face (s : State) (i : Nat) : (s.expireKeep i).face = s.face := by
  unfold State.expireKeep
  dsimp only
  split <;> rfl

theorem countEdge_face (h : s.Mute) (x : PairId) (y : Phase) (us : Nat) :
    (s.countEdge x y us).face = s.face := by
  unfold State.countEdge
  simp only [h.loaded]
  split <;> rfl

theorem skipEdge_face (h : s.Mute) (x : PairId) : (s.skipEdge x).face = s.face := by
  unfold State.skipEdge
  simp only [h.loaded]
  rfl

theorem permitRises_face (h : s.Mute) : s.permitRises.face = s.face := by
  have hf := h.removeCause_face .restart
  unfold State.permitRises
  rw [(h.of_face hf).tryRun, hf]

theorem permitFalls (h : s.Mute) : s.permitFalls = s := if_neg (by simp [h.2])

theorem ackRises (h : s.Mute) : s.ackRises = s := if_pos h.1

theorem limitRises (h : s.Mute) : s.limitRises = s := if_neg (by simp [h.loaded])

theorem limitFalls (h : s.Mute) : s.limitFalls = s := if_neg (by simp [h.loaded])

theorem homeLeftRises (h : s.Mute) : s.homeLeftRises = s := if_neg (by simp [h.loaded])

theorem homeRightRises (h : s.Mute) : s.homeRightRises = s := if_neg (by simp [h.loaded])

theorem feedbackRises (h : s.Mute) : s.feedbackRises = s := if_neg (by simp [h.loaded])

theorem feedbackFalls (h : s.Mute) : s.feedbackFalls = s := if_neg (by simp [h.loaded])

theorem walkCmdRises (h : s.Mute) : s.walkCmdRises = s := if_neg (by simp [h.walkWorks])

theorem walkCmdFalls (h : s.Mute) : s.walkCmdFalls = s := if_neg (by simp [h.walkWorks])

theorem walkStopRises (h : s.Mute) : s.walkStopRises = s := if_neg (by simp [h.walkWorks])

theorem walkStopFalls (h : s.Mute) : s.walkStopFalls = s := if_neg (by simp [h.walkWorks])

theorem settleSupplyOk_face (s : State) (x : Bool) : (s.settleSupplyOk x).face = s.face := by
  unfold State.settleSupplyOk
  split <;> rfl

/-! The times that run out are judged of a loaded station, a regulator that takes steps or a walk that works. -/

theorem expireStopHold (h : s.Mute) : s.expireStopHold = s := if_neg (by simp [h.walkWorks])

theorem expireTachExcess (h : s.Mute) : s.expireTachExcess = s := if_neg (by simp [h.loaded])

theorem expireTachRecovery (h : s.Mute) : s.expireTachRecovery = s := if_neg (by simp [h.loaded])

theorem expireBrakeSet (h : s.Mute) : s.expireBrakeSet = s := if_neg (by simp [h.takesStep])

theorem expireDisagree (h : s.Mute) : s.expireDisagree = s := if_neg (by simp [h.loaded])

theorem expireAgree (h : s.Mute) : s.expireAgree = s := if_neg (by simp [h.loaded])

theorem expireLoss (h : s.Mute) : s.expireLoss = s := if_neg (by simp [h.loaded])

theorem expireLossClear (h : s.Mute) : s.expireLossClear = s := if_neg (by simp [h.loaded])

theorem expireClear (h : s.Mute) (x : FieldCheck) : s.expireClear x = s := by
  cases x <;> exact if_neg (by simp [h.loaded])

theorem expireOverload (h : s.Mute) : s.expireOverload = s := if_neg (by simp [h.loaded])

theorem expireRest (h : s.Mute) : s.expireRest = s := if_neg (by simp [h.takesStep])

theorem expireDerate (h : s.Mute) : s.expireDerate = s :=
  if_neg (by simp [State.heats, h.loaded])

theorem expireSupplyLimit (h : s.Mute) : s.expireSupplyLimit = s :=
  if_neg (by simp [h.walkWorks])

theorem expireTransfer (h : s.Mute) : s.expireTransfer = s := if_neg (by simp [h.loaded])

theorem expireReturn (h : s.Mute) : s.expireReturn = s := if_neg (by simp [h.loaded])

theorem expireClosed (h : s.Mute) : s.expireClosed = s := if_neg (by simp [h.loaded])

theorem expireEnd (h : s.Mute) : s.expireEnd = s := if_neg (by simp [h.walkWorks])

end State.Mute

/-- No command but a reset changes the face of a strap fault (R1). -/
theorem exec_face_of_strapStopped (c : Instr) (s : State) (h : s.StrapStopped)
    (hreset : c.isReset = false) : Completes c s fun t => t.face = s.face := by
  obtain ⟨hfault, hmode, -, -, -, -, hqueue, hsending⟩ := h
  have hmute : s.Mute := ⟨hfault, hmode⟩
  have hsupply (x : Bool) : (s.settleSupplyOk x).Mute :=
    hmute.of_face (State.Mute.settleSupplyOk_face s x)
  obtain ⟨hstart, hlose, hfail, hcomplete⟩ := State.Mute.transmission_stays hqueue hsending
  have hedge {t u : State} (hu : u.face = s.face) (ht : t = u) : t.face = s.face := ht ▸ hu
  have hsame {t : State} (ht : t = s) : t.face = s.face := hedge rfl ht
  cases c with
  | powerOnReset x => exact absurd hreset (by simp [Instr.isReset])
  | localReset x => exact absurd hreset (by simp [Instr.isReset])
  | parameterBlockLoaded m =>
    refine ⟨_, rfl, ?_⟩
    rcases s.loadBlock_cases m with h | ⟨hm, -⟩
    · exact hsame h
    · exact absurd (hmode.symm.trans hm) (by decide)
  | listenExpiry => exact ⟨_, rfl, hsame (if_neg (by simp [State.listenDue, hmode]))⟩
  | reportTimerExpiry => exact ⟨_, rfl, hsame (if_neg (by simp [State.reportDue, hmute.inService]))⟩
  | unconfiguredReportExpiry =>
    exact ⟨_, rfl, hsame (if_neg (by
      simp [State.unconfiguredReportDue, State.unconfigured, hmute.onLink]))⟩
  | regulationIntervalExpiry raw =>
    exact ⟨_, rfl, hsame (if_neg (by simp [State.regulationDue, hmute.loaded]))⟩
  | neutralTimeElapsed => exact ⟨_, rfl, hsame hmute.tryRun⟩
  | runPermitRise =>
    exact ⟨_, rfl, State.Mute.permitRises_face (s := s.settleRunPermit true) hmute⟩
  | runPermitFall =>
    exact ⟨_, rfl, hedge (u := s.settleRunPermit false) rfl (State.Mute.permitFalls hmute)⟩
  | ackRise => exact ⟨_, rfl, hedge (u := s.settleAck true) rfl (State.Mute.ackRises hmute)⟩
  | limitRise =>
    exact ⟨_, rfl, hedge (u := s.settleLimit true) rfl (State.Mute.limitRises hmute)⟩
  | limitFall =>
    exact ⟨_, rfl, hedge (u := s.settleLimit false) rfl (State.Mute.limitFalls hmute)⟩
  | homeLRise =>
    exact ⟨_, rfl, hedge (u := s.settleHomeL true) rfl (State.Mute.homeLeftRises hmute)⟩
  | homeRRise =>
    exact ⟨_, rfl, hedge (u := s.settleHomeR true) rfl (State.Mute.homeRightRises hmute)⟩
  | contactorFbRise =>
    exact ⟨_, rfl, hedge (u := s.settleContactorFb true) rfl (State.Mute.feedbackRises hmute)⟩
  | contactorFbFall =>
    exact ⟨_, rfl, hedge (u := s.settleContactorFb false) rfl (State.Mute.feedbackFalls hmute)⟩
  | walkCmdRise =>
    exact ⟨_, rfl, hedge (u := s.settleWalkCmd true) rfl (State.Mute.walkCmdRises hmute)⟩
  | walkCmdFall =>
    exact ⟨_, rfl, hedge (u := s.settleWalkCmd false) rfl (State.Mute.walkCmdFalls hmute)⟩
  | walkStopRise =>
    exact ⟨_, rfl, hedge (u := s.settleWalkStop true) rfl (State.Mute.walkStopRises hmute)⟩
  | walkStopFall =>
    exact ⟨_, rfl, hedge (u := s.settleWalkStop false) rfl (State.Mute.walkStopFalls hmute)⟩
  | walkStopHoldExpiry => exact ⟨_, rfl, hsame hmute.expireStopHold⟩
  | supplyOkFall =>
    exact ⟨_, rfl, (congrArg State.face ((hsupply false).raiseStop _ _)).trans
      (State.Mute.settleSupplyOk_face s false)⟩
  | supplyOkRise =>
    exact ⟨_, rfl, (congrArg State.face ((hsupply true).returnAlarm _)).trans
      (State.Mute.settleSupplyOk_face s true)⟩
  | countEdge x y us => exact ⟨_, rfl, hmute.countEdge_face x y us⟩
  | quadSkip x => exact ⟨_, rfl, hmute.skipEdge_face x⟩
  | transmissionStart => exact ⟨_, rfl, hsame hstart⟩
  | contestLost => exact ⟨_, rfl, hsame hlose⟩
  | transmitFailure => exact ⟨_, rfl, hsame hfail⟩
  | completionEvent => exact ⟨_, rfl, hsame hcomplete⟩
  | quietOutExpiry => exact ⟨_, rfl, hmute.endQuietOut_face⟩
  | frameLengthAbandoned n => exact ⟨_, rfl, hsame (if_neg (by simp [hmute.receives]))⟩
  | frameBad f x y => exact ⟨_, rfl, hsame (if_neg (by simp [hmute.receives]))⟩
  | frameOwnAddress f => exact ⟨_, rfl, hsame (if_neg (by simp [hmute.receives]))⟩
  | addressClashReturnExpiry => exact ⟨_, rfl, hmute.expireClash_face⟩
  | frameMalformed f => exact ⟨_, rfl, hsame (hmute.receive _ _)⟩
  | stateReport h l => exact ⟨_, rfl, hsame (hmute.receive _ _)⟩
  | propose h l => exact ⟨_, rfl, hsame (hmute.receive _ _)⟩
  | object h l => exact ⟨_, rfl, hsame (hmute.receive _ _)⟩
  | sendLimitExpiry => exact ⟨_, rfl, hmute.expireSendLimit_face hqueue⟩
  | windowExpiry => exact ⟨_, rfl, hmute.expireWindow_face⟩
  | alarmNotice h l => exact ⟨_, rfl, hsame (hmute.receive _ _)⟩
  | keepNotice h l => exact ⟨_, rfl, hsame (hmute.receive _ _)⟩
  | serviceReply h l => exact ⟨_, rfl, hsame (hmute.receive _ _)⟩
  | readStatus h l => exact ⟨_, rfl, hsame (hmute.request _ _ _ _)⟩
  | readPeer h l => exact ⟨_, rfl, hsame (hmute.request _ _ _ _)⟩
  | readCounters h l => exact ⟨_, rfl, hsame (hmute.request _ _ _ _)⟩
  | readAlarms h l => exact ⟨_, rfl, hsame (hmute.request _ _ _ _)⟩
  | ackAlarms h l => exact ⟨_, rfl, hsame (hmute.request _ _ _ _)⟩
  | readCaptureHeader h l => exact ⟨_, rfl, hsame (hmute.request _ _ _ _)⟩
  | readCaptureSamples h l => exact ⟨_, rfl, hsame (hmute.request _ _ _ _)⟩
  | releaseCapture h l => exact ⟨_, rfl, hsame (hmute.request _ _ _ _)⟩
  | forceDerate h l => exact ⟨_, rfl, hsame (hmute.request _ _ _ _)⟩
  | serviceRequestUnknownCode h x l =>
    exact ⟨_, rfl, hsame (by rw [hmute.request, ite_self])⟩
  | entryGoesStale n => exact ⟨_, rfl, hsame (if_neg (by simp [State.staleDue, hmute.loaded]))⟩
  | entryGoesAbsent n => exact ⟨_, rfl, hsame (if_neg (by simp [State.absentDue, hmute.loaded]))⟩
  | tachExcessExpiry => exact ⟨_, rfl, hsame hmute.expireTachExcess⟩
  | tachRecoveryExpiry => exact ⟨_, rfl, hsame hmute.expireTachRecovery⟩
  | brakeSetTimeExpiry => exact ⟨_, rfl, hsame hmute.expireBrakeSet⟩
  | brakeDisagreeExpiry => exact ⟨_, rfl, hsame hmute.expireDisagree⟩
  | brakeAgreeExpiry => exact ⟨_, rfl, hsame hmute.expireAgree⟩
  | fieldLossTimeExpiry => exact ⟨_, rfl, hsame hmute.expireLoss⟩
  | fieldLossClearExpiry => exact ⟨_, rfl, hsame hmute.expireLossClear⟩
  | overcurrentClearExpiry x => exact ⟨_, rfl, hsame (hmute.expireClear x)⟩
  | boomOverloadTimeExpiry => exact ⟨_, rfl, hsame hmute.expireOverload⟩
  | swingRestExpiry => exact ⟨_, rfl, hsame hmute.expireRest⟩
  | deratePersistenceExpiry => exact ⟨_, rfl, hsame hmute.expireDerate⟩
  | supplyLimitExpiry => exact ⟨_, rfl, hsame hmute.expireSupplyLimit⟩
  | transferLimitExpiry => exact ⟨_, rfl, hsame hmute.expireTransfer⟩
  | returnLimitExpiry => exact ⟨_, rfl, hsame hmute.expireReturn⟩
  | closedFeedbackLimitExpiry => exact ⟨_, rfl, hsame hmute.expireClosed⟩
  | endTimeExpiry => exact ⟨_, rfl, hsame hmute.expireEnd⟩
  | postEnd => exact ⟨_, rfl, hsame (if_neg (by simp [hmute.inService]))⟩
  | decisionEntryDue => exact ⟨_, rfl, hsame (if_neg (by simp [hmute.inService]))⟩
  | keepDeadlineExpiry i => exact ⟨_, rfl, State.Mute.expireKeep_face s i⟩
  | brakeFbEdge level => exact ⟨_, rfl, rfl⟩

/-- The entry to STOP where nothing is under way that it would end. -/
theorem State.enterStop_of_idle {s : State} (hm : s.ctl.mode ≠ .stop) (hr : s.role.supply = .normal)
    (hp : s.ctl.place = none) (hw : s.walk.state = .idle) :
    s.enterStop = s.halted.makeSafe.startReporting s.ctl.mode := by
  have hsupply : s.halted.stopSupply = s.halted := by
    unfold State.stopSupply
    rw [show s.halted.role.supply = .normal from hr]
  have hswing : s.halted.makeSafe.stopSwing = s.halted.makeSafe := by
    refine if_neg ?_
    have hplace : s.halted.ctl.place = none := hp
    simp [State.swingLead, State.leads, hplace]
  have hwalk : s.halted.makeSafe.forceWalk .stop = s.halted.makeSafe := by
    unfold State.forceWalk
    rw [show s.halted.makeSafe.walk.state = .idle from hw]
  rw [State.enterStop_of_ne hm, hsupply, hswing, hwalk]

theorem AlarmUnit.reset_lampOf (f : AlarmCode → Bool) : AlarmUnit.reset.lampOf f = .off := by
  simp [AlarmUnit.lampOf, AlarmUnit.someUnack, AlarmUnit.someAway, AlarmUnit.reset_stateOf,
    AnnState.unack]

theorem State.makeSafe_horn (s : State) : s.makeSafe.out.horn = s.out.horn := rfl

theorem State.makeSafe_lampTrip (s : State) : s.makeSafe.out.lampTrip = s.out.lampTrip := rfl

theorem State.halted_horn (s : State) : s.halted.out.horn = s.hornState := rfl

/-- LAMP_TRIP is steady at least while the mode is STOP (R153). -/
theorem State.halted_lampTrip (s : State) :
    s.halted.out.lampTrip =
      match s.alarm.lampOf fun c => !c.isWarn with
      | .off => .steady
      | l => l := rfl

/-- Without an address a station that stops from LOADING starts no reports (R1). -/
theorem State.startReporting_of_offLink {s : State} (h : s.onLink = false) :
    s.startReporting .loading = s :=
  if_neg (by simp [h])

/-- A station that reads invalid straps right after a reset stops in silence (R1). -/
theorem State.readStraps_strapStopped {s : State} {x : Straps} (h : strapsValid x = false)
    (hm : s.ctl.mode = .loading) (hparams : s.ctl.params = none) (hr : s.role.supply = .normal)
    (hplace : s.ctl.place = none) (hw : s.walk.state = .idle) (ha : s.alarm = AlarmUnit.reset)
    (hq : s.link.queue = []) (hs : s.link.sending = none) :
    (s.readStraps x).StrapStopped ∧ (s.readStraps x).ctl.params = none := by
  have hmode : (s.strapped x).ctl.mode = .loading := hm
  have hfault : (s.strapped x).strapFault = true := by
    simp [State.strapFault, State.strapped, h]
  have hann : ∀ c, (s.strapped x).ann c = .normal := fun c => by
    unfold State.ann
    rw [show (s.strapped x).alarm = AlarmUnit.reset from ha, AlarmUnit.reset_stateOf]
  have hmute : (s.strapped x).halted.makeSafe.Mute := by
    have hstraps : (s.strapped x).halted.makeSafe.ctl.straps = (s.strapped x).ctl.straps := rfl
    exact ⟨(State.strapFault_congr hstraps).trans hfault, rfl⟩
  have hquiet := State.startReporting_of_offLink hmute.onLink
  have hlamp : (s.strapped x).alarm.lampOf (fun c => !c.isWarn) = .off := by
    rw [show (s.strapped x).alarm = AlarmUnit.reset from ha]
    exact AlarmUnit.reset_lampOf _
  rw [State.readStraps_of_invalid h,
    State.enterStop_of_idle (s := s.strapped x) (by rw [hmode]; decide) hr hplace hw, hmode, hquiet]
  have hparams' : (s.strapped x).halted.makeSafe.ctl.params = none := by
    simpa [State.halted, State.strapped] using hparams
  refine ⟨⟨hmute.1, hmute.2, ⟨rfl, rfl, rfl⟩, ?_, ?_, fun c _ => ?_, ?_, ?_⟩, hparams'⟩
  · rw [State.makeSafe_horn, State.halted_horn, State.hornState, hfault, Bool.true_or]
  · rw [State.makeSafe_lampTrip, State.halted_lampTrip, hlamp]
  · exact (State.ann_congr (s := s.strapped x) (by simp [State.halted]) c).trans (hann c)
  · simpa [State.halted, State.strapped] using hq
  · simpa [State.halted, State.strapped] using hs

/-- Settles O8: a reset with invalid straps shows the face of a strap fault, and no other command changes it. -/
theorem strapFaultStays : Obligations.StrapFaultStays := by
  unfold Obligations.StrapFaultStays
  refine ⟨fun s x hx => ⟨⟨_, rfl, ?_⟩, ⟨_, rfl, ?_⟩⟩, fun c s hs hreset => ?_⟩
  · exact State.readStraps_strapStopped hx rfl rfl rfl rfl rfl rfl rfl rfl
  · exact State.readStraps_strapStopped hx rfl rfl rfl rfl rfl rfl rfl rfl
  · obtain ⟨t, ht, hface⟩ := exec_face_of_strapStopped c s hs hreset
    exact ⟨t, ht, hs.congr hface⟩

end Sys2Proof.Machine
end

section
/-!
PROOFS. Resets and the entry to RUN; O7 and O12.
-/

set_option Elab.async false

namespace Sys2Proof.Machine

/-! ### O7: resets -/

theorem CaptureStore.afterLocalReset_length (k : CaptureStore) :
    k.afterLocalReset.blocks.length = k.blocks.length := by
  simp [CaptureStore.afterLocalReset]

/-- A local reset keeps the KEPT blocks and frees every other (R171). -/
theorem CaptureStore.afterLocalReset_block (k : CaptureStore) {i : Nat} (h : i < k.blocks.length) :
    if k.isKept i then k.afterLocalReset.block i = k.block i
    else (k.afterLocalReset.block i).state = .free := by
  have hblock : k.block i = k.blocks[i] := by
    simp [CaptureStore.block, h]
  have hafter : k.afterLocalReset.block i =
      if k.blocks[i].state = .kept then k.blocks[i]
      else { k.blocks[i] with state := .free, keepDeadline := none } := by
    simp [CaptureStore.block, CaptureStore.afterLocalReset, h]
  simp only [CaptureStore.isKept, hblock, hafter, h]
  by_cases hk : k.blocks[i].state = .kept <;> simp [hk]

/-- Settles O7: either reset is the reset state with the straps read, and a local reset carries its KEPT blocks
through. -/
theorem resetsStartAfresh : Obligations.ResetsStartAfresh := by
  unfold Obligations.ResetsStartAfresh
  refine ⟨fun s x hx => ⟨_, rfl, ?_⟩, fun s x hx => ⟨_, rfl, ?_⟩⟩
  · rw [State.powerOn_eq, State.readStraps_of_valid hx]
    exact ⟨⟨rfl, rfl, rfl, rfl, rfl, rfl, rfl, rfl, rfl, rfl, rfl, rfl, rfl⟩, rfl⟩
  · rw [State.localReset_eq, State.readStraps_of_valid hx]
    exact ⟨⟨rfl, rfl, rfl, rfl, rfl, rfl, rfl, rfl, rfl, rfl, rfl, rfl, rfl⟩, rfl, rfl,
      s.capture.afterLocalReset_length, fun i hi => s.capture.afterLocalReset_block hi⟩

/-! ### O12: the entry to RUN -/

/-- The three conditions of R9 in HOLD lead to RUN. -/
theorem State.tryRun_of_conditions {s : State} (hm : s.ctl.mode = .hold)
    (hc : s.ctl.causes.isEmpty = true) (hp : s.meas.runPermit.value = true)
    (hn : s.ran s.ctl.neutralSince 200 = true) : s.tryRun = s.setMode .run :=
  if_pos ⟨hm, hc, hp, hn⟩

theorem State.tryRun_of_not {s : State}
    (h : s.ctl.mode ≠ .hold ∨ s.ctl.causes.isEmpty = false ∨ s.meas.runPermit.value = false
      ∨ s.ran s.ctl.neutralSince 200 = false) : s.tryRun = s := by
  refine if_neg fun ⟨hm, hc, hp, hn⟩ => ?_
  rcases h with h | h | h | h
  · exact h hm
  · exact absurd (hc.symm.trans h) (by decide)
  · exact absurd (hp.symm.trans h) (by decide)
  · exact absurd (hn.symm.trans h) (by decide)

/-- A change of the mode changes lamps and horn alone beside. -/
theorem State.setMode_frame (s : State) (m : Mode) :
    s.setMode m = { s with ctl := { s.ctl with mode := m }, out := (s.setMode m).out }
    ∧ (s.setMode m).out = { s.out with
        horn := (s.setMode m).out.horn, lampWarn := (s.setMode m).out.lampWarn
        lampTrip := (s.setMode m).out.lampTrip } := ⟨rfl, rfl⟩

@[simp] theorem HoldCauses.has_put (h : HoldCauses) (c d : HoldCause) (b : Bool) :
    (h.put c b).has d = if d = c then b else h.has d := by
  cases c <;> cases d <;> rfl

/-- A set of causes is empty exactly if it has none. -/
theorem HoldCauses.isEmpty_iff (h : HoldCauses) : h.isEmpty = true ↔ ∀ c, h.has c = false := by
  constructor
  · intro he c
    cases c <;> simp_all [HoldCauses.isEmpty, HoldCauses.has]
  · intro hc
    have hall := And.intro (hc .restart) <| And.intro (hc .pictureIncomplete) <|
      And.intro (hc .peerStop) <| And.intro (hc .localTrip) <| And.intro (hc .linkFault) <|
      And.intro (hc .walkActive) <| And.intro (hc .partnerLost) (hc .roleConflict)
    simp_all [HoldCauses.isEmpty, HoldCauses.has]

theorem HoldCauses.put_false_of_absent {h : HoldCauses} {c : HoldCause} (hc : h.has c = false) :
    h.put c false = h := by
  cases c <;> exact congrArg (fun b => HoldCauses.put h _ b) hc.symm

/-- Whether present or not, the cause is absent after its removal, before R9 is tested. -/
theorem State.removeCause_eq (s : State) (c : HoldCause) :
    s.removeCause c = if s.hasCause c then (s.putCause c false).tryRun else s.putCause c false := by
  unfold State.removeCause
  split
  · rfl
  · next h =>
    have hc : s.ctl.causes.put c false = s.ctl.causes :=
      HoldCauses.put_false_of_absent (by simpa [State.hasCause] using h)
    simp [State.putCause, State.modCtl, hc]

/-- With the other conditions of R9 met, a rise of RUN_PERMIT that leaves no cause leads to RUN. -/
theorem State.permitRises_run {s : State} (hm : s.ctl.mode = .hold)
    (hc : (s.ctl.causes.put .restart false).isEmpty = true) (hp : s.meas.runPermit.value = true)
    (hn : s.ran s.ctl.neutralSince 200 = true) :
    s.permitRises = (s.putCause .restart false).setMode .run := by
  have hrun : (s.putCause .restart false).tryRun = (s.putCause .restart false).setMode .run :=
    State.tryRun_of_conditions hm hc hp hn
  unfold State.permitRises
  rw [State.removeCause_eq, hrun]
  split
  · exact State.tryRun_of_not (.inl (by simp))
  · exact hrun

/-- With a cause left a rise of RUN_PERMIT removes RESTART and no more. -/
theorem State.permitRises_hold {s : State} (hc : (s.ctl.causes.put .restart false).isEmpty = false) :
    s.permitRises = s.putCause .restart false := by
  have hstay : (s.putCause .restart false).tryRun = s.putCause .restart false :=
    State.tryRun_of_not (.inr (.inl hc))
  unfold State.permitRises
  rw [State.removeCause_eq, hstay, ite_self, hstay]

/-- Settles O12 from the two outcomes of the test of R9, and from what a rise of RUN_PERMIT does by the causes
left. -/
theorem runEntered : Obligations.RunEntered := by
  unfold Obligations.RunEntered
  refine ⟨fun s hm hc hp hn => ⟨_, rfl, ?_⟩, fun s h => ?_, fun s hm hother hn => ⟨_, rfl, ?_⟩,
    fun s k hm hk hpresent => ⟨_, rfl, ?_⟩⟩
  · rw [State.tryRun_of_conditions hm hc hp hn]
    exact s.setMode_frame .run
  · exact congrArg Host.Outcome.next (State.tryRun_of_not h)
  · have hempty : (s.ctl.causes.put .restart false).isEmpty = true :=
      (HoldCauses.isEmpty_iff _).mpr fun c => by
        rw [HoldCauses.has_put]
        split
        · rfl
        · next hc => exact hother c hc
    rw [State.permitRises_run (s := s.settleRunPermit true) hm hempty rfl hn]
    exact ⟨rfl, hempty, rfl⟩
  · have hleft : (s.ctl.causes.put .restart false).isEmpty = false := by
      by_contra h
      have habsent := (HoldCauses.isEmpty_iff _).mp (by simpa using h) k
      rw [HoldCauses.has_put, if_neg hk] at habsent
      exact absurd (hpresent.symm.trans habsent) (by decide)
    rw [State.permitRises_hold (s := s.settleRunPermit true) hleft]
    refine ⟨rfl, fun j => ?_⟩
    have hj : (s.ctl.causes.put .restart false).has j = (s.ctl.causes.has j && j != .restart) := by
      rw [HoldCauses.has_put]
      by_cases h : j = .restart <;> simp [h]
    exact hj

end Sys2Proof.Machine
end

section
/-!
PROOFS. The fall of RUN_PERMIT; O13.
-/

set_option Elab.async false

namespace Sys2Proof.Machine

/-! ### O13: the fall of RUN_PERMIT -/

/-- The drive target becomes 0, but in a supply state other than NORMAL (R10). -/
def State.restTarget (s : State) : State :=
  if s.role.supply = .normal then s.modDrive fun d => { d with target := 0 } else s

theorem State.restTarget_eq (s : State) :
    s.restTarget = { s with drive := { s.drive with
      target := if s.role.supply = .normal then 0 else s.drive.target } } := by
  unfold State.restTarget
  split <;> rfl

theorem State.restTarget_is (s : State) (r : Role) : s.restTarget.is r = s.is r := by
  rw [State.restTarget_eq]
  rfl

/-- HOLD touches mode and target, and on the walk station it is a stop request to the walk too. -/
theorem State.enterHold_eq (s : State) :
    s.enterHold = if s.is .walk then s.dropToHold.restTarget.stopWalk else s.dropToHold.restTarget := by
  have hwalk : s.dropToHold.restTarget.is .walk = s.is .walk := State.restTarget_is _ _
  calc s.enterHold = if s.dropToHold.restTarget.is .walk then s.dropToHold.restTarget.stopWalk
        else s.dropToHold.restTarget := rfl
    _ = _ := by rw [hwalk]

/-- What a fall of RUN_PERMIT in RUN leaves, before the stop request to a walk (R10). -/
def State.permitLost (s : State) : State := (s.settleRunPermit false).dropToHold.restTarget

/-- Beside mode, lamps and input the fall touches the target alone. -/
theorem State.permitLost_frame (s : State) :
    s.permitLost = { s with
      ctl := { s.ctl with mode := .hold, neutralSince := none }, out := s.permitLost.out
      pins := { s.pins with runPermit := false }
      meas := { s.meas with runPermit := ⟨false, 0⟩ }
      drive := { s.drive with target := if s.role.supply = .normal then 0 else s.drive.target } }
    ∧ s.permitLost.out = { s.out with
        horn := s.permitLost.out.horn, lampWarn := s.permitLost.out.lampWarn
        lampTrip := s.permitLost.out.lampTrip } := by
  unfold State.permitLost
  rw [State.restTarget_eq]
  exact ⟨rfl, rfl⟩

theorem State.permitLost_walk (s : State) : s.permitLost.walk = s.walk := by
  rw [s.permitLost_frame.1]

theorem State.permitLost_is (s : State) (r : Role) : s.permitLost.is r = s.is r :=
  State.restTarget_is _ _

/-- A fall of RUN_PERMIT in RUN. -/
theorem State.permitFalls_of_run {s : State} (h : s.ctl.mode = .run) :
    (s.settleRunPermit false).permitFalls =
      if s.is .walk then s.permitLost.stopWalk else s.permitLost :=
  (if_pos h).trans (State.enterHold_eq _)

/-- In every other mode only the input changes. -/
theorem State.permitFalls_of_ne {s : State} (h : s.ctl.mode ≠ .run) :
    (s.settleRunPermit false).permitFalls = s.settleRunPermit false :=
  if_neg h

/-! A stop request by the walk state (R134). -/

/-- A moving walk keeps its references as it enters STOPPING (R132). -/
theorem State.stopWalk_of_stepping {s : State} (h : s.walk.state = .stepping) :
    s.stopWalk = { s with walk := { s.walk with
      state := .stopping, supplyLimit := none, endTime := none
      phase := some (if s.walk.region = some .carry then .creep else .ramp) } } := by
  unfold State.stopWalk
  rw [h]
  by_cases hc : s.walk.region = some .carry <;>
    simp [State.enterStopping, State.enterWalk, State.modWalk, WalkState.moves,
      WalkSequencer.bearing, hc]

/-- An abandoned TRANSFER leaves its proposal NONE; a walk station is no swing lead. -/
theorem State.stopWalk_of_transfer {s : State} (hw : s.is .walk = true)
    (h : s.walk.state = .transfer) :
    s.stopWalk = (s.enterWalk .idle).modOwn fun o =>
      { o with status := if o.status = .active ∨ o.status = .withdrawing then .idle else o.status } := by
  have hlead : (s.enterWalk .idle).swingLead = false := by
    have hr : s.ownRole = some .walk := by simpa [State.is] using hw
    have hi : (s.enterWalk .idle).ownRole = some .walk := hr
    simp [State.swingLead, State.is, hi]
  unfold State.stopWalk
  rw [h]
  exact State.clearProposal_eq (.inr hlead)

theorem State.stopWalk_of_other {s : State} (hs : s.walk.state ≠ .stepping)
    (ht : s.walk.state ≠ .transfer) : s.stopWalk = s := by
  unfold State.stopWalk
  split
  · next h => exact absurd h hs
  · next h => exact absurd h ht
  all_goals rfl

/-- Settles O13: HOLD is entered with the target cleared, and the stop request does what the walk state
asks. -/
theorem permitFalls : Obligations.PermitFalls := by
  unfold Obligations.PermitFalls
  refine ⟨fun s hm hw => ⟨_, rfl, ?_⟩, fun s hm hw hs => ⟨_, rfl, ?_⟩,
    fun s hm hw ht => ⟨_, rfl, ?_⟩, fun s hm hw hs ht => ⟨_, rfl, ?_⟩, fun s hm => ⟨_, rfl, ?_⟩⟩
  · rw [State.permitFalls_of_run hm, hw]
    exact s.permitLost_frame
  · obtain ⟨hframe, hout⟩ := s.permitLost_frame
    have hbrake : s.permitLost.out.brakeSet = s.out.brakeSet := by rw [hout]
    rw [← s.permitLost_walk] at hs
    rw [State.permitFalls_of_run hm, if_pos hw, State.stopWalk_of_stepping hs, hframe]
    exact ⟨rfl, rfl, rfl, rfl, hbrake, rfl, rfl⟩
  · obtain ⟨hframe, hout⟩ := s.permitLost_frame
    rw [← s.permitLost_walk] at ht
    rw [State.permitFalls_of_run hm, if_pos hw,
      State.stopWalk_of_transfer ((s.permitLost_is .walk).trans hw) ht, hframe]
    exact ⟨rfl, rfl, rfl, rfl, rfl, rfl, rfl, rfl, hout⟩
  · rw [← s.permitLost_walk] at hs ht
    rw [State.permitFalls_of_run hm, if_pos hw, State.stopWalk_of_other hs ht]
    exact s.permitLost_frame
  · rw [State.permitFalls_of_ne hm]
    rfl

end Sys2Proof.Machine
end

section
/-!
PROOFS. A frame that finds room in the queue, and the own report event.
-/

set_option Elab.async false

namespace Sys2Proof.Machine

/-! ### A frame that finds room in the queue (R21, R22) -/

/-- The queue with a frame taken in: a second OBJECT is no new frame, a second report replaces the first, and
every other frame joins in its place. -/
def takeFrame (now : Time) (f : OutFrame) (l : List Queued) : List Queued :=
  if l.any fun q => q.frame.sameObject f then l
  else if f.isReport && l.any fun q => q.frame.isReport then replaceReport f l
  else insertByClass ⟨f, now, false, false⟩ l

/-- On the link and outside quiet-out a queue of less than 8 frames takes the frame in. -/
theorem State.queueFrame_of_room {s : State} (f : OutFrame) (hlink : s.onLink = true)
    (hquiet : s.link.quietOut = none) (hroom : s.link.queue.length < 8) :
    s.queueFrame f = s.modLink fun l => { l with queue := takeFrame s.now f l.queue } := by
  unfold State.queueFrame
  rw [hlink, hquiet]
  simp only [Bool.not_true, Bool.false_eq_true, Option.isSome_none, if_false, if_pos hroom]
  split
  · next h => simp [takeFrame, State.modLink, h]
  split
  · next ho hr => simp only [takeFrame, State.modLink, if_neg ho, if_pos hr]
  · next ho hr => simp only [takeFrame, State.joinQueue, State.modLink, if_neg ho, if_neg hr]

theorem takeFrame_length_le (now : Time) (f : OutFrame) (l : List Queued) :
    (takeFrame now f l).length ≤ l.length + 1 := by
  unfold takeFrame
  split
  · omega
  split <;> simp

theorem OutFrame.sameObject_of_isReport {f : OutFrame} (h : f.isReport = true) (g : OutFrame) :
    g.sameObject f = false := by
  cases f <;> cases g <;> simp_all [OutFrame.isReport, OutFrame.sameObject]

/-- With a report in the queue a new report takes its place. -/
theorem takeFrame_of_replaced {now : Time} {f : OutFrame} {l : List Queued} (hf : f.isReport = true)
    (hl : ∃ q ∈ l, q.frame.isReport = true) : takeFrame now f l = replaceReport f l := by
  have hany : (l.any fun q => q.frame.isReport) = true := List.any_eq_true.mpr hl
  simp [takeFrame, OutFrame.sameObject_of_isReport hf, hf, hany]

theorem takeFrame_of_no_report {now : Time} {f : OutFrame} {l : List Queued} (hf : f.isReport = true)
    (hl : ¬∃ q ∈ l, q.frame.isReport = true) :
    takeFrame now f l = insertByClass ⟨f, now, false, false⟩ l := by
  have hany : (l.any fun q => q.frame.isReport) = false := by
    rw [Bool.eq_false_iff]
    exact fun h => hl (List.any_eq_true.mp h)
  simp [takeFrame, OutFrame.sameObject_of_isReport hf, hany]

/-- A replaced report carries the new contents. -/
theorem mem_replaceReport {f : OutFrame} {l : List Queued} (h : ∃ q ∈ l, q.frame.isReport = true) :
    ∃ q ∈ replaceReport f l, q.frame = f := by
  obtain ⟨q, hq, hr⟩ := h
  exact ⟨_, List.mem_map_of_mem hq, by simp [hr]⟩

/-- A report asked for is in the queue. -/
theorem mem_takeFrame_report {now : Time} {f : OutFrame} {l : List Queued} (hf : f.isReport = true) :
    ∃ q ∈ takeFrame now f l, q.frame = f := by
  by_cases hl : ∃ q ∈ l, q.frame.isReport = true
  · rw [takeFrame_of_replaced hf hl]
    exact mem_replaceReport hl
  · rw [takeFrame_of_no_report hf hl]
    exact ⟨_, mem_insertByClass.mpr (.inl rfl), rfl⟩

/-- A replaced report keeps its joining time and its mark of transmission (R22). -/
theorem replaceReport_marks (f : OutFrame) (l : List Queued) :
    (replaceReport f l).map (fun q => q.joined) = l.map (fun q => q.joined)
    ∧ (replaceReport f l).map (fun q => q.inTx) = l.map (fun q => q.inTx) := by
  simp only [replaceReport, List.map_map]
  constructor <;>
  · refine List.map_congr_left fun q _ => ?_
    simp only [Function.comp_apply]
    split <;> rfl

/-! ### The own report (R22, R38, R60) -/

/-- With nothing held there is nothing to vote on. -/
theorem State.revote_of_none {s : State} (h : s.consent.held = none) : s.revote = s := by
  unfold State.revote
  rw [h]

/-- Voting again writes the objecting mark and at most one frame. -/
theorem State.revote_of_room {s : State} (hlink : s.onLink = true) (hquiet : s.link.quietOut = none)
    (hroom : s.link.queue.length < 8) :
    s.revote = { s with
      consent := { s.consent with held := s.revote.consent.held }
      link := { s.link with queue := s.revote.link.queue } }
    ∧ s.revote.link.queue.length ≤ s.link.queue.length + 1 := by
  have hobject (b : Bool) (f : OutFrame) : (s.setObjecting b).queueFrame f =
      (s.setObjecting b).modLink fun l => { l with queue := takeFrame s.now f l.queue } :=
    State.queueFrame_of_room f hlink hquiet hroom
  unfold State.revote
  (repeat' split)
  · exact ⟨rfl, Nat.le_succ _⟩
  · rw [State.objectTo, hobject]
    exact ⟨rfl, takeFrame_length_le _ _ _⟩
  · exact ⟨rfl, Nat.le_succ _⟩
  · exact ⟨rfl, Nat.le_succ _⟩
  · exact ⟨rfl, Nat.le_succ _⟩

/-- The report that a state asks for. -/
def State.report (s : State) : OutFrame := .stateReport s.ctl.reportSeq s.roleBits s.reportFields

/-- The peer table with the own entry taken from the report asked for (R38). -/
def State.reported (s : State) : PeerTable := (s.fillOwnEntry s.ctl.reportSeq s.reportFields).peers

theorem State.fillOwnEntry_eq (s : State) (n : BitVec 4) (f : ReportFields) :
    s.fillOwnEntry n f = { s with peers := (s.fillOwnEntry n f).peers } := by
  unfold State.fillOwnEntry
  (repeat' split) <;> rfl

/-- The own entry takes the report whatever the sequence number has become. -/
theorem State.fillOwnEntry_peers_congr (s : State) (m n : BitVec 4) (f : ReportFields) :
    (State.fillOwnEntry { s with ctl := { s.ctl with reportSeq := m } } n f).peers =
      (s.fillOwnEntry n f).peers := by
  have hself : State.self { s with ctl := { s.ctl with reportSeq := m } } = s.self := rfl
  have hconf : State.configured { s with ctl := { s.ctl with reportSeq := m } } = s.configured := rfl
  unfold State.fillOwnEntry
  rw [hself, hconf]
  (repeat' split) <;> rfl

/-- The report is of the values after the vote, and the own entry and the queue take it. -/
theorem State.ownReport_eq (s : State) :
    s.ownReport = State.queueFrame { s.revote with
      ctl := { s.revote.ctl with reportSeq := s.revote.ctl.reportSeq + 1 }
      peers := s.revote.reported } s.revote.report := by
  unfold State.ownReport
  dsimp only
  rw [State.fillOwnEntry_eq, State.modCtl, State.fillOwnEntry_peers_congr]
  rfl

/-- A report event with room in the queue. -/
theorem State.ownReport_of_room {s : State} (hlink : s.onLink = true) (hquiet : s.link.quietOut = none)
    (hroom : s.link.queue.length ≤ 6) :
    s.ownReport = { s with
      ctl := { s.ctl with reportSeq := s.ctl.reportSeq + 1 }
      link := { s.link with queue := takeFrame s.now s.revote.report s.revote.link.queue }
      peers := s.revote.reported
      consent := { s.consent with held := s.revote.consent.held } } := by
  obtain ⟨hvote, hlength⟩ := State.revote_of_room hlink hquiet (by omega)
  rw [State.ownReport_eq]
  generalize s.revote = u at hvote hlength ⊢
  rw [hvote]
  generalize u.link.queue = q at hlength ⊢
  exact State.queueFrame_of_room _ hlink hquiet (show q.length < 8 by omega)

/-- What the report event puts in the queue is the report of the state it leaves. -/
theorem State.ownReport_report {s : State} (hlink : s.onLink = true) (hquiet : s.link.quietOut = none)
    (hroom : s.link.queue.length ≤ 6) :
    s.revote.report = .stateReport s.ctl.reportSeq s.roleBits s.ownReport.reportFields := by
  have hvote := (State.revote_of_room hlink hquiet (by omega)).1
  rw [State.ownReport_of_room hlink hquiet hroom]
  generalize s.revote = u at hvote ⊢
  rw [hvote]
  rfl

/-- The report is in the queue, with the values of the state that the event leaves. -/
theorem State.ownReport_queued {s : State} (hlink : s.onLink = true) (hquiet : s.link.quietOut = none)
    (hroom : s.link.queue.length ≤ 6) :
    s.ownReport.queued (.stateReport s.ctl.reportSeq s.roleBits s.ownReport.reportFields) := by
  rw [← State.ownReport_report hlink hquiet hroom, State.ownReport_of_room hlink hquiet hroom]
  exact mem_takeFrame_report rfl

theorem State.reportFields_of_configured {s : State} (h : s.configured = true) :
    s.reportFields = s.configuredFields :=
  if_pos h

theorem State.reportFields_of_unconfigured {s : State} (h : s.configured = false) :
    s.reportFields = s.unconfiguredFields :=
  if_neg (by simp [h])

/-- The own entry as a report event leaves it (R38). -/
def State.ownEntry (s : State) (n : Station) (f : ReportFields) : PeerEntry :=
  { s.entry n with
    status := .fresh, role := s.roleBits, lastSeq := s.ctl.reportSeq, arrival := s.now
    heard := true, fields := f }

theorem State.reported_of_configured {s : State} {n : Station} (hself : s.self = some n)
    (hconf : s.configured = true) :
    s.reported = { s.peers with entries := s.peers.entries.set n (s.ownEntry n s.reportFields) } := by
  unfold State.reported State.fillOwnEntry
  rw [hself, hconf]
  rfl

theorem State.reported_of_unconfigured {s : State} (hconf : s.configured = false) :
    s.reported = s.peers := by
  unfold State.reported State.fillOwnEntry
  rw [hconf]
  split <;> rfl

/-- A configured station's report event fills the own entry with the report and leaves every other. -/
theorem State.ownReport_entries {s : State} {n : Station} (hlink : s.onLink = true)
    (hquiet : s.link.quietOut = none) (hroom : s.link.queue.length ≤ 6) (hself : s.self = some n)
    (hconf : s.configured = true) :
    s.ownReport.peers =
      { s.peers with entries := s.peers.entries.set n (s.ownEntry n s.ownReport.reportFields) } := by
  have hvote := (State.revote_of_room hlink hquiet (by omega)).1
  rw [State.ownReport_of_room hlink hquiet hroom]
  generalize s.revote = u at hvote ⊢
  rw [hvote]
  exact State.reported_of_configured (s := { s with
    consent := { s.consent with held := u.consent.held }
    link := { s.link with queue := u.link.queue } }) hself hconf

/-- An unconfigured station's report event fills no entry. -/
theorem State.ownReport_peers_of_unconfigured {s : State} (hlink : s.onLink = true)
    (hquiet : s.link.quietOut = none) (hroom : s.link.queue.length ≤ 6) (hconf : s.configured = false) :
    s.ownReport.peers = s.peers := by
  have hvote := (State.revote_of_room hlink hquiet (by omega)).1
  rw [State.ownReport_of_room hlink hquiet hroom]
  generalize s.revote = u at hvote ⊢
  rw [hvote]
  exact State.reported_of_unconfigured (s := { s with
    consent := { s.consent with held := u.consent.held }
    link := { s.link with queue := u.link.queue } }) hconf

theorem PeerTable.entries_set_same (p : PeerTable) (n : Station) (e : PeerEntry) :
    (p.entries.set n e)[n] = e :=
  Vector.getElem_set_self _

theorem PeerTable.entries_set_other (p : PeerTable) {n k : Station} (e : PeerEntry) (h : k ≠ n) :
    (p.entries.set n e)[k] = p.entries[k] :=
  Vector.getElem_set_ne n.isLt k.isLt fun hv => h (Fin.ext hv).symm

end Sys2Proof.Machine
end

section
/-!
PROOFS. The report timer; O11.
-/

set_option Elab.async false

namespace Sys2Proof.Machine

/-! ### O11: the report timer -/

theorem State.ran_of_le {s : State} {t : Timer} {a : Time} {d : Nat} (ht : t = some a)
    (hd : d ≤ s.since a) : s.ran t d = true := by
  subst ht
  exact decide_eq_true hd

theorem State.reportDue_of_ran {s : State} {a : Time} (hserv : s.inService = true)
    (ht : s.ctl.reportTimer = some a) (hd : s.prm.reportInterval ≤ s.since a) :
    s.reportDue = true := by
  have hconf : s.configured = true := (Bool.and_eq_true_iff.mp hserv).2
  have hran : s.ran s.ctl.reportTimer s.reportInterval = true :=
    State.ran_of_le ht (by rw [State.reportInterval, if_pos hconf]; exact hd)
  rw [State.reportDue, hserv, hran]
  rfl

theorem State.unconfiguredReportDue_of_ran {s : State} {a : Time} (hun : s.unconfigured = true)
    (ht : s.ctl.reportTimer = some a) (hd : 50 ≤ s.since a) : s.unconfiguredReportDue = true := by
  have hconf : s.configured = false := by simpa using (Bool.and_eq_true_iff.mp hun).2
  have hran : s.ran s.ctl.reportTimer s.reportInterval = true :=
    State.ran_of_le ht (by rw [State.reportInterval, hconf]; exact hd)
  rw [State.unconfiguredReportDue, hun, hran]
  rfl

/-- A second report takes the place of the first, however full the queue (R22). -/
theorem State.queueFrame_of_replaced {s : State} {f : OutFrame} (hf : f.isReport = true)
    (hlink : s.onLink = true) (hquiet : s.link.quietOut = none)
    (hreport : ∃ q ∈ s.link.queue, q.frame.isReport = true) :
    s.queueFrame f = s.modLink fun l => { l with queue := replaceReport f l.queue } := by
  have hany : (s.link.queue.any fun q => q.frame.isReport) = true := List.any_eq_true.mpr hreport
  unfold State.queueFrame
  simp [hlink, hquiet, hf, hany, OutFrame.sameObject_of_isReport hf]

/-- With nothing held and a report queued, a report event replaces the report. -/
theorem State.ownReport_of_replaced {s : State} (hlink : s.onLink = true)
    (hquiet : s.link.quietOut = none) (hheld : s.consent.held = none)
    (hreport : ∃ q ∈ s.link.queue, q.frame.isReport = true) :
    s.ownReport = { s with
      ctl := { s.ctl with reportSeq := s.ctl.reportSeq + 1 }
      peers := s.reported
      link := { s.link with queue := replaceReport s.report s.link.queue } } := by
  rw [State.ownReport_eq, State.revote_of_none hheld]
  exact State.queueFrame_of_replaced rfl hlink hquiet hreport

/-- Settles O11: the frame, the entry and the queue of a report event, with room in the queue and at a queued
report. -/
theorem reportEvents : Obligations.ReportEvents := by
  unfold Obligations.ReportEvents
  refine ⟨fun s n a hserv hself ht hd hquiet hroom => ⟨_, rfl, ?_⟩,
    fun s a hun ht hd hquiet hroom => ⟨_, rfl, ?_⟩,
    fun s n a hserv hself ht hd hquiet hheld _ hreport => ⟨_, rfl, ?_⟩⟩
  · obtain ⟨hlink, hconf⟩ := Bool.and_eq_true_iff.mp hserv
    rw [if_pos (State.reportDue_of_ran hserv ht hd), State.reportEvent]
    have hlink' : s.startReportTimer.onLink = true := hlink
    have hframe := State.ownReport_of_room hlink' hquiet hroom
    have hqueued := State.ownReport_queued hlink' hquiet hroom
    have hpeers := State.ownReport_entries hlink' hquiet hroom hself hconf
    have hfields : s.startReportTimer.ownReport.reportFields =
        s.startReportTimer.ownReport.configuredFields :=
      State.reportFields_of_configured (by rw [hframe]; exact hconf)
    generalize s.startReportTimer.ownReport = t at hframe hqueued hpeers hfields ⊢
    generalize s.startReportTimer.revote = u at hframe
    refine ⟨by rw [hframe]; rfl, hqueued, by rw [hfields, hframe]; rfl, by rw [hfields, hframe]; rfl,
      by rw [hfields, hframe]; rfl, by rw [hfields, hframe]; rfl, ?_, fun k hk => ?_, ?_⟩
    · rw [State.entry, hpeers]
      exact PeerTable.entries_set_same _ _ _
    · rw [State.entry, hpeers]
      exact PeerTable.entries_set_other _ _ hk
    · generalize s.startReportTimer.peers.entries.set n _ = entries at hpeers
      rw [hframe] at hpeers ⊢
      rw [show u.reported = _ from hpeers]
      rfl
  · obtain ⟨hlink, hconf⟩ := Bool.and_eq_true_iff.mp hun
    have hconf' : s.configured = false := by simpa using hconf
    rw [if_pos (State.unconfiguredReportDue_of_ran hun ht hd), State.reportEvent]
    have hlink' : s.startReportTimer.onLink = true := hlink
    have hframe := State.ownReport_of_room hlink' hquiet hroom
    have hqueued := State.ownReport_queued hlink' hquiet hroom
    have hpeers := State.ownReport_peers_of_unconfigured hlink' hquiet hroom hconf'
    have hfields : s.startReportTimer.ownReport.reportFields =
        s.startReportTimer.ownReport.unconfiguredFields :=
      State.reportFields_of_unconfigured (by rw [hframe]; exact hconf')
    generalize s.startReportTimer.ownReport = t at hframe hqueued hpeers hfields ⊢
    generalize s.startReportTimer.revote = u at hframe
    refine ⟨by rw [hframe]; rfl, ?_, ?_⟩
    · rw [hfields, hframe] at hqueued
      rw [hframe]
      exact hqueued
    · rw [hframe] at hpeers ⊢
      rw [show u.reported = _ from hpeers]
      rfl
  · rw [if_pos (State.reportDue_of_ran hserv ht hd), State.reportEvent]
    have hlink : s.startReportTimer.onLink = true := (Bool.and_eq_true_iff.mp hserv).1
    rw [State.ownReport_of_replaced hlink hquiet hheld hreport]
    obtain ⟨hjoined, hinTx⟩ := replaceReport_marks s.startReportTimer.report s.link.queue
    exact ⟨mem_replaceReport hreport, hjoined, hinTx, rfl⟩

end Sys2Proof.Machine
end

section
/-!
PROOFS. The end of LISTEN; O10.
-/

set_option Elab.async false

namespace Sys2Proof.Machine

/-! ### O10: the end of LISTEN -/

/-- The first FREE block is there, and it becomes RECORDING (R160). -/
theorem CaptureStore.record_firstFree {k : CaptureStore} {i : Nat} (h : k.firstFree = some i) :
    ((k.record i).block i).state = .recording := by
  obtain ⟨hi, -⟩ := List.findIdx?_eq_some_iff_getElem.mp h
  simp [CaptureStore.record, CaptureStore.modBlock, CaptureStore.block, hi]

/-- The station as LISTEN leaves it, before its first report (R7, R160). -/
def State.listenLeft (s : State) (i : Nat) : State :=
  (s.listenDone.modCapture fun k => k.record i).startReportTimer

/-- At its time LISTEN ends with the first FREE block recording and a report event. -/
theorem State.endListen_of_ran {s : State} {a : Time} {i : Nat} (hm : s.ctl.mode = .listen)
    (ht : s.ctl.listenTimer = some a) (hd : s.prm.lostLimit ≤ s.since a)
    (hfree : s.capture.firstFree = some i) : s.endListen = (s.listenLeft i).ownReport := by
  have hdue : s.listenDue = true := by
    rw [State.listenDue, hm, State.ran_of_le ht hd]
    rfl
  have hwrite : s.listenDone.firstWriteBlock = s.listenDone.modCapture fun k => k.record i := by
    unfold State.firstWriteBlock
    rw [show s.listenDone.capture.firstFree = some i from hfree]
  rw [State.endListen, if_pos hdue]
  exact congrArg (fun u : State => u.startReportTimer.ownReport) hwrite

/-- Settles O10: the report event of a station in HOLD, and the record of the first FREE block. -/
theorem listenEnds : Obligations.ListenEnds := by
  unfold Obligations.ListenEnds
  intro s n r a i hm hconf hself hrole ht hd hfree hquiet hroom
  refine ⟨_, rfl, ?_⟩
  rw [State.endListen_of_ran hm ht hd hfree]
  have hlink : (s.listenLeft i).onLink = true := rfl
  have hframe := State.ownReport_of_room hlink hquiet hroom
  have hqueued := State.ownReport_queued hlink hquiet hroom
  have hpeers := State.ownReport_entries hlink hquiet hroom hself hconf
  have hfields : (s.listenLeft i).ownReport.reportFields =
      (s.listenLeft i).ownReport.configuredFields :=
    State.reportFields_of_configured (by rw [hframe]; exact hconf)
  have hbits : s.roleBits = r.bits := by rw [State.roleBits, hrole]
  generalize (s.listenLeft i).ownReport = t at hframe hqueued hpeers hfields ⊢
  generalize (s.listenLeft i).revote = u at hframe
  have hentry : t.entry n = (s.listenLeft i).ownEntry n t.reportFields := by
    rw [State.entry, hpeers]
    exact PeerTable.entries_set_same _ _ _
  refine ⟨by rw [hframe]; rfl, by rw [hframe]; rfl, by rw [hframe]; rfl, by rw [hframe]; rfl,
    fun k => ?_, by rw [hentry]; rfl, ?_, ?_, ?_, ?_, by rw [hframe]; rfl⟩
  · have hput : (s.ctl.causes.put .restart true).has k = (k == .restart || s.ctl.causes.has k) := by
      by_cases hk : k = .restart <;> simp [hk]
    rw [hframe]
    exact hput
  · rw [hentry, hfields, hframe]
    rfl
  · rw [hentry, ← hbits]
    exact hqueued
  · rw [hframe]
    exact CaptureStore.record_firstFree hfree
  · rw [hframe]
    rfl

end Sys2Proof.Machine
end

section
/-!
PROOFS. A STOP code and its list entry stay while the entry to STOP raises and returns others.
-/

set_option Elab.async false

namespace Sys2Proof.Machine

/-! ### What else an event raises leaves a STOP code and its entry -/

/-- An entry stands in the list with at most `k` entries after it. -/
def Recent (e : AlarmEntry) (k : Nat) (l : List AlarmEntry) : Prop :=
  ∃ older newer, l = older ++ e :: newer ∧ newer.length ≤ k

theorem Recent.mem {e : AlarmEntry} {k : Nat} {l : List AlarmEntry} (h : Recent e k l) : e ∈ l := by
  obtain ⟨older, newer, rfl, -⟩ := h
  simp

theorem Recent.mono {e : AlarmEntry} {k n : Nat} {l : List AlarmEntry} (h : Recent e k l) (hkn : k ≤ n) :
    Recent e n l := by
  obtain ⟨older, newer, hl, hk⟩ := h
  exact ⟨older, newer, hl, hk.trans hkn⟩

/-- The list as R154 writes one entry: the oldest goes when the list is full. -/
def written (e : AlarmEntry) (l : List AlarmEntry) : List AlarmEntry :=
  if l.length < 32 then l ++ [e] else l.tail ++ [e]

theorem State.log_list (s : State) (c : AlarmCode) (e : ListEvent) (v : Word16) (n : BitVec 4) :
    (s.log c e v n).alarm.list = written ⟨s.alarm.nextSeq, s.now, c, e, v, n⟩ s.alarm.list := rfl

theorem Recent.of_written (e : AlarmEntry) (l : List AlarmEntry) : Recent e 0 (written e l) := by
  unfold written
  split
  · exact ⟨l, [], rfl, Nat.le_refl 0⟩
  · exact ⟨l.tail, [], rfl, Nat.le_refl 0⟩

/-- One more entry does not push a recent entry out of the list of 32. -/
theorem Recent.written {e : AlarmEntry} {k : Nat} {l : List AlarmEntry} (h : Recent e k l)
    (hk : k < 31) (d : AlarmEntry) : Recent e (k + 1) (written d l) := by
  obtain ⟨older, newer, rfl, hnewer⟩ := h
  unfold Sys2Proof.Machine.written
  split
  · exact ⟨older, newer ++ [d], by simp, by simpa using hnewer⟩
  · next hfull =>
    cases older with
    | nil =>
      simp only [List.nil_append, List.length_cons] at hfull
      omega
    | cons x older => exact ⟨older, newer ++ [d], by simp, by simpa using hnewer⟩

/-- From `s` to `t` code `c` has not moved, and the list has taken at most `n` entries. -/
structure Aside (c : AlarmCode) (n : Nat) (s t : State) : Prop where
  ann : t.ann c = s.ann c
  recent : ∀ e k, k + n ≤ 31 → Recent e k s.alarm.list → Recent e (k + n) t.alarm.list

section Aside

variable {c : AlarmCode} {m n : Nat} {s t u : State}

theorem Aside.trans (h : Aside c m s t) (h' : Aside c n t u) : Aside c (m + n) s u where
  ann := h'.ann.trans h.ann
  recent e k hk hr := by
    rw [← Nat.add_assoc]
    exact h'.recent e (k + m) (by omega) (h.recent e k (by omega) hr)

theorem Aside.mono (h : Aside c m s t) (hmn : m ≤ n) : Aside c n s t where
  ann := h.ann
  recent e k hk hr := (h.recent e k (by omega) hr).mono (by omega)

theorem Aside.of_alarm (ht : t.alarm.table = s.alarm.table) (hl : t.alarm.list = s.alarm.list) :
    Aside c n s t where
  ann := State.ann_congr ht c
  recent e k _ hr := by
    rw [hl]
    exact hr.mono (Nat.le_add_right _ _)

theorem Aside.refl (s : State) : Aside c n s s := .of_alarm rfl rfl

/-- What leaves the alarm unit alone may come before or after. -/
theorem Aside.after (h : Aside c n t u) (ha : t.alarm = s.alarm) : Aside c n s u where
  ann := h.ann.trans (State.ann_congr (congrArg AlarmUnit.table ha) c)
  recent e k hk hr := h.recent e k hk (ha ▸ hr)

theorem Aside.andThen (h : Aside c n s t) (ha : u.alarm = t.alarm) : Aside c n s u where
  ann := (State.ann_congr (congrArg AlarmUnit.table ha) c).trans h.ann
  recent e k hk hr := ha ▸ h.recent e k hk hr

theorem Aside.ite {p : Prop} [Decidable p] (h : p → Aside c n s t) (h' : ¬p → Aside c n s u) :
    Aside c n s (if p then t else u) := by
  split
  · next hp => exact h hp
  · next hp => exact h' hp

theorem Aside.guarded {p : Prop} [Decidable p] (h : p → Aside c n s t) :
    Aside c n s (if p then t else s) := by
  split
  · next hp => exact h hp
  · exact .refl s

theorem Aside.log (s : State) (d : AlarmCode) (e : ListEvent) (v : Word16) (b : BitVec 4) :
    Aside c 1 s (s.log d e v b) where
  ann := rfl
  recent _ _ hk hr := by
    rw [State.log_list]
    exact hr.written (by omega) _

theorem Aside.setAnn (s : State) {d : AlarmCode} (x : AnnState) (h : c ≠ d) :
    Aside c 0 s (s.setAnn d x) where
  ann := s.setAnn_ann_other x h
  recent _ _ _ hr := hr

/-- A move of another code with its entry. -/
theorem Aside.setAnn_logOwn (s : State) {d : AlarmCode} (x : AnnState) (e : ListEvent) (v : Word16)
    (h : c ≠ d) : Aside c 1 s ((s.setAnn d x).logOwn d e v) :=
  (Aside.setAnn s x h).trans (n := 1) (.log _ _ _ _ _)

theorem Aside.returnAlarm (s : State) {d : AlarmCode} (h : c ≠ d) : Aside c 1 s (s.returnAlarm d) := by
  unfold State.returnAlarm
  split
  · exact .refl s
  split
  · exact .setAnn_logOwn s _ _ _ h
  · exact (Aside.setAnn_logOwn s .normal .returned 0 h).andThen (by simp)
  · exact .refl s
  · exact .refl s

theorem Aside.armAndNotice (s : State) (d : AlarmCode) (v : Int) (m : Mode) :
    Aside c 0 s (s.armAndNotice d v m) := by
  have hlist : (s.localArm d m).alarm.list = s.alarm.list := by
    unfold State.localArm
    (repeat' split) <;> simp
  unfold State.armAndNotice
  exact .of_alarm (by simp) (by simpa using hlist)

theorem Aside.raiseWarn (s : State) {d : AlarmCode} (v : Int) (h : c ≠ d) :
    Aside c 1 s (s.raiseWarn d v) := by
  unfold State.raiseWarn
  split
  · exact .refl s
  · exact (Aside.setAnn_logOwn s _ _ _ h).trans (n := 0) (.armAndNotice _ _ _ _)

/-! The entry to STOP raises and returns WARN and TRIP codes alone. -/

theorem AlarmCode.ne_of_stop (hc : c.severity = .stop) {d : AlarmCode}
    (hd : d.severity ≠ .stop := by decide) : c ≠ d := by
  rintro rfl
  exact hd hc

theorem Aside.openTransfer (hc : c.severity = .stop) (s : State) : Aside c 1 s s.openTransfer := by
  unfold State.openTransfer
  dsimp only
  split
  · exact (Aside.returnAlarm _ (AlarmCode.ne_of_stop hc)).after rfl
  · exact .of_alarm rfl rfl

theorem Aside.endSupply (hc : c.severity = .stop) (s : State) : Aside c 1 s s.endSupply := by
  unfold State.endSupply
  split
  · exact (Aside.openTransfer hc _).after rfl
  · exact (Aside.openTransfer hc _).after rfl
  · exact .refl s
  · exact .refl s

theorem Aside.stopSupply (hc : c.severity = .stop) (s : State) : Aside c 1 s s.stopSupply := by
  unfold State.stopSupply
  split
  · exact .endSupply hc s
  · exact .endSupply hc s
  · exact .guarded fun _ => (Aside.openTransfer hc _).after rfl
  · exact .refl s

theorem Aside.lockSwing (hc : c.severity = .stop) (s : State) : Aside c 1 s s.lockSwing := by
  unfold State.lockSwing State.dropSectorMarks
  dsimp only
  split
  · exact (Aside.returnAlarm _ (AlarmCode.ne_of_stop hc)).after rfl
  · exact .of_alarm rfl rfl

theorem Aside.raiseWithdrawn (hc : c.severity = .stop) (s : State) : Aside c 1 s s.raiseWithdrawn := by
  unfold State.raiseWithdrawn
  split
  · exact .raiseWarn s _ (AlarmCode.ne_of_stop hc)
  · exact .raiseWarn s _ (AlarmCode.ne_of_stop hc)

theorem Aside.stopSwing (hc : c.severity = .stop) (s : State) : Aside c 2 s s.stopSwing := by
  have hclear (u : State) : Aside c 0 u u.clearProposal := .of_alarm (by simp) (by simp)
  unfold State.stopSwing
  split
  · split
    · exact ((Aside.lockSwing hc s).trans (hclear _)).mono (by decide)
    · exact ((Aside.lockSwing hc s).trans (.raiseWithdrawn hc _)).trans (hclear _)
    · exact .refl s
    · exact .refl s
  · exact .refl s

theorem Aside.addLocalTrip (hc : c.severity = .stop) (s : State) : Aside c 1 s s.addLocalTrip := by
  unfold State.addLocalTrip
  split
  · exact .refl s
  · exact (Aside.endSupply hc _).after (by simp)

theorem Aside.raiseTrip (hc : c.severity = .stop) (s : State) {d : AlarmCode} (v : Int)
    (hd : d.severity ≠ .stop := by decide) : Aside c 2 s (s.raiseTrip d v) :=
  .ite (fun _ => .refl s) fun _ => ((Aside.setAnn_logOwn s _ _ _ (AlarmCode.ne_of_stop hc hd)).trans
    (.guarded fun _ => .addLocalTrip hc _)).trans (.armAndNotice _ _ _ _)

theorem Aside.forceWalk (hc : c.severity = .stop) (s : State) (x : ForcedCause) :
    Aside c 2 s (s.forceWalk x) := by
  have hforced : Aside c 2 s (s.enterForced x) := by
    rw [State.enterForced_eq]
    exact (Aside.raiseTrip hc _ _).after rfl
  unfold State.forceWalk
  split
  · exact hforced
  · exact hforced
  · exact .guarded fun _ => hforced
  · exact .guarded fun _ => hforced
  · exact .of_alarm rfl rfl
  all_goals exact .refl s

theorem Aside.firstWriteBlock (hc : c.severity = .stop) (s : State) : Aside c 1 s s.firstWriteBlock := by
  unfold State.firstWriteBlock
  split
  · exact .of_alarm rfl rfl
  · exact .guarded fun _ => (Aside.raiseWarn _ _ (AlarmCode.ne_of_stop hc)).after rfl

theorem Aside.startReporting (hc : c.severity = .stop) (s : State) (x : Mode) :
    Aside c 1 s (s.startReporting x) := by
  unfold State.startReporting
  split
  · exact (Aside.firstWriteBlock hc s).andThen (by simp)
  · exact .guarded fun _ => .of_alarm (by simp) (by simp)
  all_goals exact .refl s

/-- The entry to STOP leaves a STOP code as it is and writes at most 6 entries. -/
theorem Aside.enterStop (hc : c.severity = .stop) (s : State) : Aside c 6 s s.enterStop := by
  by_cases hm : s.ctl.mode = .stop
  · rw [State.enterStop_of_stop hm]
    exact .refl s
  · have hhalted : s.halted.alarm = s.alarm := rfl
    have hsupply : Aside c 1 s s.halted.stopSupply.makeSafe :=
      ((Aside.stopSupply hc s.halted).after hhalted).andThen (by simp)
    rw [State.enterStop_of_ne hm]
    exact ((hsupply.trans (.stopSwing hc _)).trans (.forceWalk hc _ _)).trans (.startReporting hc _ _)

end Aside

/-- A raise of a STOP code is ACTIVE_UNACK with its RAISED entry once the station is in STOP (R148). -/
theorem State.raiseStop_raised {s : State} {c : AlarmCode} (hc : c.severity = .stop)
    (huse : s.alarmInUse = true) (v : Int) : Raised s (s.raiseStop c v) c v := by
  have hstop : Aside c 6 (s.latch c v) (s.raiseStop c v) := by
    unfold State.raiseStop
    rw [huse]
    exact (Aside.enterStop hc _).trans (.armAndNotice _ _ _ _)
  exact ⟨hstop.ann.trans (s.setAnn_ann_same c .activeUnack),
    (hstop.recent _ 0 (by decide) (.of_written _ _)).mem⟩

end Sys2Proof.Machine
end

section
/-!
PROOFS. The supply monitor; O14.
-/

set_option Elab.async false

namespace Sys2Proof.Machine

/-! ### O14: the supply monitor -/

/-- A raise of a STOP code with the alarm unit in use (R148, R151). -/
theorem State.raiseStop_of_inUse {s : State} (huse : s.alarmInUse = true) (c : AlarmCode) (v : Int) :
    s.raiseStop c v = (s.latch c v).enterStop.armAndNotice c v s.ctl.mode :=
  if_neg (by simp [huse])

/-- A raise of a STOP code outside STOP ends in STOP with safe outputs, the parameters as they were. -/
theorem State.raiseStop_stops {s : State} (huse : s.alarmInUse = true) (hm : s.ctl.mode ≠ .stop)
    (c : AlarmCode) (v : Int) :
    (s.raiseStop c v).ctl.mode = .stop ∧ (s.raiseStop c v).outputsOff
    ∧ (s.raiseStop c v).drive.reference = 0 ∧ (s.raiseStop c v).ctl.params = s.ctl.params := by
  obtain ⟨hoff, -, href, -⟩ := State.enterStop_safeModes (s := s.latch c v) hm
    (by simp [Mode.safe])
  have hfrozen := (s.latch c v).enterStop_frozen
  simp only [State.frozen, Prod.mk.injEq] at hfrozen
  obtain ⟨-, -, -, -, hparams, -⟩ := hfrozen
  rw [State.raiseStop_of_inUse huse]
  refine ⟨by simp, ?_, by simpa using href, by simpa using hparams⟩
  unfold State.outputsOff at *
  simpa using hoff

/-- In STOP a raise of a STOP code touches neither station control nor an output but lamps and horn. -/
theorem State.raiseStop_of_stop {s : State} (huse : s.alarmInUse = true) (hm : s.ctl.mode = .stop)
    (c : AlarmCode) (v : Int) :
    (s.raiseStop c v).ctl = s.ctl ∧ (s.raiseStop c v).drive = s.drive
    ∧ (s.raiseStop c v).walk = s.walk ∧ (s.raiseStop c v).out.lines = s.out.lines := by
  rw [State.raiseStop_of_inUse huse, State.enterStop_of_stop (s := s.latch c v) hm]
  exact ⟨by simp [State.latch, State.logOwn], by simp [State.latch, State.logOwn],
    by simp [State.latch, State.logOwn], by simp⟩

/-! A return of a code in STOP (R149). -/

/-- In STOP the removal of a cause moves no mode. -/
theorem State.settleTrips_of_stop {s : State} (hm : s.ctl.mode = .stop) :
    s.settleTrips = { s with ctl := { s.ctl with causes := s.settleTrips.ctl.causes } } := by
  have hstay (c : HoldCause) : (s.putCause c false).tryRun = s.putCause c false :=
    State.tryRun_of_not (.inl (show s.ctl.mode ≠ .hold by rw [hm]; decide))
  unfold State.settleTrips
  split
  · rw [State.removeCause_eq, hstay, ite_self]
    rfl
  · rfl

/-- A return of an unmasked code: its own state moves by Table 10-3, and no other. -/
theorem State.returnAlarm_ann {s : State} (huse : s.alarmInUse = true) {c : AlarmCode}
    (hmask : s.masked c = false) (d : AlarmCode) :
    (s.returnAlarm c).ann d = if d = c then (s.ann c).afterReturn else s.ann d := by
  have hset (x : AnnState) : (s.setAnn c x).ann d = if d = c then x else s.ann d := by
    split
    · next h => rw [h, State.setAnn_ann_same]
    · next h => exact s.setAnn_ann_other x h
  have hsame (h : (s.ann c).afterReturn = s.ann c) :
      s.ann d = if d = c then (s.ann c).afterReturn else s.ann d := by
    split
    · next hd => rw [h, hd]
    · rfl
  have htrips (u : State) : u.settleTrips.ann d = u.ann d := State.ann_congr (by simp) d
  unfold State.returnAlarm
  rw [hmask, huse]
  simp only [Bool.not_true, Bool.or_self, Bool.false_eq_true, if_false]
  split
  · next h => rw [h]; exact hset .returnedUnack
  · next h => rw [htrips, h]; exact hset .normal
  · next h => exact hsame (by rw [h]; rfl)
  · next h => exact hsame (by rw [h]; rfl)

/-- In STOP a return touches the alarm unit, the causes and the lamps alone. -/
theorem State.returnAlarm_of_stop {s : State} (hm : s.ctl.mode = .stop) (c : AlarmCode) :
    s.returnAlarm c = { s with
      ctl := { s.ctl with causes := (s.returnAlarm c).ctl.causes }
      out := (s.returnAlarm c).out, alarm := (s.returnAlarm c).alarm } := by
  unfold State.returnAlarm
  split
  · rfl
  split
  · rfl
  · rw [State.settleTrips_of_stop (s := (s.setAnn c .normal).logOwn c .returned 0) hm]
    rfl
  · rfl
  · rfl

/-- An edge of SUPPLY_OK leaves line and filter where the filter has turned, and settles them elsewhere. -/
theorem State.settleSupplyOk_frame (s : State) (x : Bool) :
    ∃ p m, s.settleSupplyOk x = { s with pins := p, meas := m }
      ∧ p = (if s.meas.supplyOk.value = x then s.pins else { s.pins with supplyOk := x, supplyDip := 0 })
      ∧ m = (if s.meas.supplyOk.value = x then s.meas else { s.meas with supplyOk := ⟨x, 0⟩ }) := by
  refine ⟨_, _, ?_, rfl, rfl⟩
  unfold State.settleSupplyOk
  split <;> rfl

/-- Settles O14: the raise of SUPPLY_LOW outside STOP and in it, and its return. -/
theorem supplyEdges : Obligations.SupplyEdges := by
  unfold Obligations.SupplyEdges
  refine ⟨fun s huse hm => ⟨_, rfl, ?_⟩, fun s huse hm => ⟨_, rfl, ?_⟩,
    fun s huse hm => ⟨_, rfl, ?_⟩⟩
  · obtain ⟨p, m, hsettle, hp, hmeas⟩ := s.settleSupplyOk_frame false
    rw [hsettle, State.supplyFalls]
    have huse' : State.alarmInUse { s with pins := p, meas := m } = true := huse
    have hraised : Raised s _ .supplyLow 0 := State.raiseStop_raised (c := .supplyLow) rfl huse' 0
    obtain ⟨hmode, hoff, href, hparams⟩ := State.raiseStop_stops huse' hm .supplyLow 0
    refine ⟨hraised, hmode, hoff, href, hparams, ?_, fun hlow => ?_⟩
    · simp only [State.raiseStop_keeps, hmeas]
      cases s.meas.supplyOk.value <;> rfl
    · simp [hp, hlow]
  · obtain ⟨p, m, hsettle, -, -⟩ := s.settleSupplyOk_frame false
    rw [hsettle, State.supplyFalls]
    have huse' : State.alarmInUse { s with pins := p, meas := m } = true := huse
    have hraised : Raised s _ .supplyLow 0 := State.raiseStop_raised (c := .supplyLow) rfl huse' 0
    obtain ⟨hctl, hdrive, hwalk, hlines⟩ := State.raiseStop_of_stop huse' hm .supplyLow 0
    exact ⟨hraised, hctl, hdrive, hwalk, Outputs.eq_of_lines hlines⟩
  · obtain ⟨p, m, hsettle, hp, hmeas⟩ := s.settleSupplyOk_frame true
    rw [hsettle, State.supplyRises]
    have hann := State.returnAlarm_ann (s := { s with pins := p, meas := m }) huse (c := .supplyLow) rfl
    have hframe := State.returnAlarm_of_stop (s := { s with pins := p, meas := m }) hm .supplyLow
    refine ⟨(hann _).trans (if_pos rfl), fun c hc => (hann c).trans (if_neg hc), ?_,
      Outputs.eq_of_lines (by simp)⟩
    rw [← hp, ← hmeas]
    exact hframe

end Sys2Proof.Machine
end

section
/-!
PROOFS. The roster of a parameter block.
-/

set_option Elab.async false

namespace Sys2Proof.Machine

/-! ### O9: the roster of a block (R5, R6, R31) -/

theorem within_iff (lo hi x : Nat) : within lo hi x = true ↔ lo ≤ x ∧ x ≤ hi := by
  simp [within]

/-- A number from 1 to 8 is a station's. -/
theorem stationOf_of_within {x : Nat} (h : within 1 8 x = true) :
    ∃ st, stationOf x = some st ∧ stationNumber st = x := by
  have hx := (within_iff 1 8 x).mp h
  exact ⟨⟨x - 1, by omega⟩, dif_pos hx, by simp only [stationNumber]; omega⟩

/-- A code from 1 to 4 is a role's. -/
theorem Role.ofCode_of_within {x : Nat} (h : within 1 4 x = true) :
    ∃ r, Role.ofCode x = some r ∧ r.code = x := by
  obtain ⟨hlo, hhi⟩ := (within_iff 1 4 x).mp h
  interval_cases x
  · exact ⟨.hoist, rfl, rfl⟩
  · exact ⟨.drag, rfl, rfl⟩
  · exact ⟨.swing, rfl, rfl⟩
  · exact ⟨.walk, rfl, rfl⟩

/-- The number and the role code of a roster entry, as stored. -/
def RosterEntry.fields (e : RosterEntry) : Nat × Nat := (stationNumber e.station, e.role.code)

/-- Fields in range are read into the roster one by one. -/
theorem rosterOfFields_fields {r : List (Nat × Nat)}
    (h : ∀ e ∈ r, within 1 8 e.1 = true ∧ within 1 4 e.2 = true) :
    (rosterOfFields r).map RosterEntry.fields = r := by
  induction r with
  | nil => rfl
  | cons e r ih =>
    obtain ⟨⟨hstation, hrole⟩, hrest⟩ := List.forall_mem_cons.mp h
    obtain ⟨st, hst, hnumber⟩ := stationOf_of_within hstation
    obtain ⟨x, hx, hcode⟩ := Role.ofCode_of_within hrole
    have hcons : rosterOfFields (e :: r) = ⟨st, x⟩ :: rosterOfFields r := by
      simp [rosterOfFields, hst, hx]
    rw [hcons, List.map_cons, ih hrest]
    exact congrArg (· :: r) (Prod.ext hnumber hcode)

theorem increasing_pairwise {l : List Nat} (h : increasing l = true) : l.Pairwise (· < ·) := by
  induction l with
  | nil => exact .nil
  | cons x l ih =>
    cases l with
    | nil => exact List.pairwise_singleton _ _
    | cons y l =>
      simp only [increasing, Bool.and_eq_true, decide_eq_true_eq] at h
      obtain ⟨hxy, hl⟩ := h
      have hl := ih hl
      refine List.pairwise_cons.mpr ⟨fun z hz => ?_, hl⟩
      rcases List.mem_cons.mp hz with rfl | hz
      · exact hxy
      · exact hxy.trans ((List.pairwise_cons.mp hl).1 z hz)

/-- A check that is not the first to fail has passed, and so have those after it. -/
theorem check_passed {p : Prop} [Decidable p] {k n : Nat} (h : (if p then k else n) = 0)
    (hk : k ≠ 0 := by decide) : ¬p ∧ n = 0 := by
  split at h
  · exact absurd h hk
  · next hp => exact ⟨hp, h⟩

/-- The checks passed, the roster has its form (check 11). -/
theorem rosterFormed_of_loadChecks {b : List Byte} {own role : Nat} (h : loadChecks b own role = 0) :
    rosterFormed (rosterFields b (u8 b 250)) = true := by
  unfold loadChecks at h
  dsimp only at h
  iterate 10 replace h := (check_passed h).2
  simpa using (check_passed h).1

/-- No two entries of a roster name one station. -/
def Distinct (roster : List RosterEntry) : Prop :=
  (roster.map RosterEntry.station).Nodup

/-- A formed roster is stored in full, each station once. -/
theorem rosterIn_of_formed {b : List Byte} (h : rosterFormed (rosterFields b (u8 b 250)) = true) :
    (rosterIn b).map RosterEntry.fields = rosterFields b (u8 b 250) ∧ Distinct (rosterIn b) := by
  simp only [rosterFormed, Bool.and_eq_true, List.all_eq_true] at h
  obtain ⟨⟨⟨⟨⟨⟨-, hrange⟩, horder⟩, -⟩, -⟩, -⟩, -⟩ := h
  have hfields : (rosterIn b).map RosterEntry.fields = rosterFields b (u8 b 250) :=
    rosterOfFields_fields hrange
  have hpair := increasing_pairwise horder
  rw [← hfields, List.map_map, List.pairwise_map] at hpair
  refine ⟨hfields, List.pairwise_map.mpr (hpair.imp fun {x y} hlt heq => ?_)⟩
  simp [RosterEntry.fields, heq] at hlt

/-- Two entries of a distinct roster that name one station are one. -/
theorem Distinct.eq_of_station {roster : List RosterEntry} (h : Distinct roster) {x y : RosterEntry}
    (hx : x ∈ roster) (hy : y ∈ roster) (hs : x.station = y.station) : x = y :=
  List.inj_on_of_nodup_map h hx hy hs

/-- The entry that a station finds in the roster is its own. -/
theorem Distinct.rosterEntry {roster : List RosterEntry} (h : Distinct roster) {e : RosterEntry}
    (he : e ∈ roster) : rosterEntry roster e.station = some e := by
  unfold Sys2Proof.Machine.rosterEntry
  cases hfind : roster.find? fun x => x.station == e.station with
  | none =>
    have hnone := List.find?_eq_none.mp hfind e he
    simp at hnone
  | some x =>
    have hx := h.eq_of_station (List.mem_of_find?_eq_some hfind) he (by simpa using List.find?_some hfind)
    rw [hx]

theorem rosterEntry_of_unlisted {roster : List RosterEntry} {k : Station}
    (h : ∀ e ∈ roster, e.station ≠ k) : rosterEntry roster k = none :=
  List.find?_eq_none.mpr fun e he => by simpa using h e he

/-- A list without repetitions has one element exactly if every element of it is the same. -/
theorem length_le_one_iff_of_nodup {α : Type} {l : List α} (h : l.Nodup) {e : α} (he : e ∈ l) :
    l.length ≤ 1 ↔ ∀ x ∈ l, x = e := by
  constructor
  · intro hl x hx
    obtain ⟨a, rfl⟩ := List.length_eq_one_iff.mp (le_antisymm hl (List.length_pos_of_mem he))
    rw [List.mem_singleton] at hx he
    rw [hx, he]
  · intro hall
    have hrep := List.eq_replicate_of_mem hall
    rw [hrep] at h
    simpa using List.nodup_replicate.mp h

/-- The place of R6 over the whole roster: alone in its role, the lower number of two, or the other. -/
theorem placeIn_eq {roster : List RosterEntry} (h : Distinct roster) {e : RosterEntry} (he : e ∈ roster) :
    placeIn roster e =
      if roster.all fun x => x.role != e.role || x.station == e.station then .solo
      else if roster.all fun x => x.role != e.role || decide (e.station ≤ x.station) then .lead
      else .follow := by
  have hsolo : (roster.filter fun x => x.role == e.role).length ≤ 1 ↔
      (roster.all fun x => x.role != e.role || x.station == e.station) = true := by
    have hmem : e ∈ roster.filter fun x => x.role == e.role := by simp [he]
    rw [length_le_one_iff_of_nodup ((List.Nodup.of_map _ h).filter _) hmem]
    simp only [List.mem_filter, beq_iff_eq, List.all_eq_true, Bool.or_eq_true, bne_iff_ne, and_imp]
    refine forall₂_congr fun x hx => ?_
    have hsame : x = e ↔ x.station = e.station :=
      ⟨congrArg RosterEntry.station, h.eq_of_station hx he⟩
    rw [hsame]
    exact imp_iff_not_or
  have hlead : ((roster.filter fun x => x.role == e.role).all fun x => decide (e.station ≤ x.station)) =
      roster.all fun x => x.role != e.role || decide (e.station ≤ x.station) := by
    rw [List.all_filter]
    rfl
  unfold placeIn
  dsimp only
  rw [hlead]
  simp only [hsolo]

end Sys2Proof.Machine
end

section
/-!
PROOFS. A good load.
-/

set_option Elab.async false

namespace Sys2Proof.Machine

/-! ### O9: a good load -/

/-- A raise taken in LISTEN arms nothing and sends nothing (R155, R157). -/
theorem State.armAndNotice_of_listen (s : State) (c : AlarmCode) (v : Int) :
    s.armAndNotice c v .listen = s := by
  have harm : s.localArm c .listen = s := by
    unfold State.localArm
    split
    · exact if_neg (by simp [State.armsCapture, State.armsIn])
    · rfl
  unfold State.armAndNotice
  rw [harm]
  exact if_pos (.inl rfl)

/-- What the inputs found at the load leave alone: link, entries, store and timers. -/
def State.startUp (s : State) :=
  (s.link, s.peers, s.capture, s.meas.regTimer, s.out.lines, s.ctl)

theorem State.homeAtLoad_startUp (s : State) : s.homeAtLoad.startUp = s.startUp := by
  have hreg : s.homeAtLoad.meas.regTimer = s.meas.regTimer := by
    unfold State.homeAtLoad
    dsimp only
    (repeat' split) <;> rfl
  simp [State.startUp, hreg]

theorem State.dutiesAtLoad_startUp {s : State} (hm : s.ctl.mode = .listen) :
    s.dutiesAtLoad.startUp = s.startUp := by
  have hraise (v : Int) : (s.raiseWarn .twoBlock v).startUp = s.startUp := by
    unfold State.raiseWarn
    rw [hm, State.armAndNotice_of_listen]
    split <;> rfl
  unfold State.dutiesAtLoad
  split
  · split
    · exact hraise _
    · rfl
  · split <;> rfl
  all_goals rfl

/-- A good load puts the station in LISTEN with the block in force and starts its measurement. -/
theorem State.goodLoad_startUp (s : State) (b : List Byte) (n : Station) :
    (s.goodLoad b n).startUp = (s.admitted b n).startMeasuring.startUp := by
  have hlisten : (s.admitted b n).startMeasuring.homeAtLoad.ctl.mode = .listen := by
    simp only [State.homeAtLoad_keeps]
    rfl
  rw [State.goodLoad_eq, State.dutiesAtLoad_startUp hlisten, State.homeAtLoad_startUp]

/-- The entry of a roster station expects its role and takes its place; every other is unlisted (R31). -/
theorem PeerTable.enlist_entry (t : PeerTable) (roster : List RosterEntry) (k : Station) :
    (t.enlist roster).entries[k] =
      match rosterEntry roster k with
      | some x => { t.entries[k] with
          unlisted := false, expected := some x.role, place := some (placeIn roster x) }
      | none => { t.entries[k] with unlisted := true, expected := none, place := none } :=
  Vector.getElem_ofFn k.isLt

theorem CaptureStore.divide_length (k : CaptureStore) (n : Nat) : (k.divide n).blocks.length = n := by
  unfold CaptureStore.divide
  split
  · assumption
  · simp

theorem PeerTable.enlist_place (t : PeerTable) (roster : List RosterEntry) (k : Station) :
    ((t.enlist roster).entries[k]).place = (rosterEntry roster k).map (placeIn roster) := by
  rw [PeerTable.enlist_entry]
  split
  · next h => rw [h]; rfl
  · next h => rw [h]; rfl

theorem HoldCauses.has_pictureIncomplete (x : Bool) (k : HoldCause) :
    ({ HoldCauses.empty with pictureIncomplete := x } : HoldCauses).has k =
      (k == .pictureIncomplete && x) := by
  cases k <;> rfl


/-- A roster station's entry after the load, with its place over the whole roster (R6, R31). -/
theorem PeerTable.enlist_of_mem (t : PeerTable) {roster : List RosterEntry} (h : Distinct roster)
    {e : RosterEntry} (he : e ∈ roster) :
    ((t.enlist roster).entries[e.station]).expected = some e.role
    ∧ ((t.enlist roster).entries[e.station]).unlisted = false
    ∧ ((t.enlist roster).entries[e.station]).place = some (
        if roster.all fun x => x.role != e.role || x.station == e.station then .solo
        else if roster.all fun x => x.role != e.role || decide (e.station ≤ x.station) then .lead
        else .follow) := by
  rw [PeerTable.enlist_entry, h.rosterEntry he, ← placeIn_eq h he]
  exact ⟨rfl, rfl, rfl⟩

/-- The entry of a station that the roster does not name. -/
theorem PeerTable.enlist_of_not_mem (t : PeerTable) {roster : List RosterEntry} {k : Station}
    (h : ∀ e ∈ roster, e.station ≠ k) :
    ((t.enlist roster).entries[k]).expected = none ∧ ((t.enlist roster).entries[k]).place = none
    ∧ ((t.enlist roster).entries[k]).unlisted = true := by
  rw [PeerTable.enlist_entry, rosterEntry_of_unlisted h]
  exact ⟨rfl, rfl, rfl⟩

end Sys2Proof.Machine
end

section
/-!
PROOFS. A failed load.
-/

set_option Elab.async false

namespace Sys2Proof.Machine

/-! ### O9: a failed load -/

theorem State.removeCause_of_absent {s : State} {c : HoldCause} (h : s.hasCause c = false) :
    s.removeCause c = s :=
  if_neg (by simp [h])

/-- With LOCAL_TRIP absent a return moves no cause. -/
theorem State.returnAlarm_ctl_of_absent {s : State} (h : s.hasCause .localTrip = false)
    (c : AlarmCode) : (s.returnAlarm c).ctl = s.ctl := by
  have hsettle : ((s.setAnn c .normal).logOwn c .returned 0).settleTrips =
      (s.setAnn c .normal).logOwn c .returned 0 := by
    unfold State.settleTrips
    rw [State.removeCause_of_absent (s := (s.setAnn c .normal).logOwn c .returned 0) h, ite_self]
  unfold State.returnAlarm
  split
  · rfl
  split
  · rfl
  · rw [hsettle]
    rfl
  · rfl
  · rfl

theorem State.supplyNormal_of_absent {s : State} (h : s.hasCause .localTrip = false) :
    s.supplyNormal.ctl = s.ctl ∧ s.supplyNormal.role.swing = s.role.swing := by
  unfold State.supplyNormal
  exact ⟨(State.returnAlarm_ctl_of_absent (by exact h) _).trans rfl, by simp⟩

/-- With LOCAL_TRIP absent the transfer output opens without an effect on station control or swing. -/
theorem State.openTransfer_of_absent {s : State} (h : s.hasCause .localTrip = false) :
    s.openTransfer.ctl = s.ctl ∧ s.openTransfer.role.swing = s.role.swing := by
  unfold State.openTransfer
  dsimp only
  split
  · obtain ⟨hctl, hswing⟩ := State.supplyNormal_of_absent
      (s := (s.setTransfer false).modRole fun r => { r with returnLimit := some s.now }) h
    exact ⟨hctl, hswing⟩
  · exact ⟨rfl, rfl⟩

theorem State.stopSupply_of_absent {s : State} (h : s.hasCause .localTrip = false) :
    s.stopSupply.ctl = s.ctl ∧ s.stopSupply.role.swing = s.role.swing := by
  have hend : s.endSupply.ctl = s.ctl ∧ s.endSupply.role.swing = s.role.swing := by
    unfold State.endSupply
    split
    · exact State.openTransfer_of_absent h
    · exact State.openTransfer_of_absent h
    · exact ⟨rfl, rfl⟩
    · exact ⟨rfl, rfl⟩
  unfold State.stopSupply
  split
  · exact hend
  · exact hend
  · split
    · exact State.openTransfer_of_absent h
    · exact ⟨rfl, rfl⟩
  · exact ⟨rfl, rfl⟩

/-- The station as it enters STOP with its swing LOCKED and its walk IDLE, before it reports. -/
def State.stopped (s : State) : State := s.halted.stopSupply.makeSafe

theorem State.enterStop_of_rest {s : State} (hm : s.ctl.mode ≠ .stop) (ht : s.hasCause .localTrip = false)
    (hr : s.role.swing = .locked) (hw : s.walk.state = .idle) :
    s.enterStop = s.stopped.startReporting s.ctl.mode := by
  have hlocked : s.stopped.role.swing = .locked := by
    have hkeep : s.halted.stopSupply.role.swing = s.role.swing :=
      (State.stopSupply_of_absent (s := s.halted) ht).2
    simp [State.stopped, hkeep, hr]
  have hswing : s.stopped.stopSwing = s.stopped := by
    unfold State.stopSwing
    rw [hlocked]
    exact ite_self _
  have hidle : s.stopped.walk.state = .idle := by
    simpa [State.stopped, State.halted] using hw
  have hwalk : s.stopped.forceWalk .stop = s.stopped := by
    unfold State.forceWalk
    rw [hidle]
  rw [State.enterStop_of_ne hm]
  exact congrArg (fun u => State.startReporting u s.ctl.mode)
    ((congrArg (fun u => State.forceWalk u .stop) hswing).trans hwalk)

/-- What such an entry leaves of the link, the records and the causes. -/
theorem State.stopped_frame {s : State} (ht : s.hasCause .localTrip = false) :
    s.stopped.ctl = { s.ctl with mode := .stop, listenTimer := none, neutralSince := none }
    ∧ s.stopped.link = s.link ∧ s.stopped.consent = s.consent ∧ s.stopped.now = s.now := by
  have hctl : s.halted.stopSupply.ctl = s.halted.ctl :=
    (State.stopSupply_of_absent (s := s.halted) ht).1
  have hstopped : s.stopped.ctl = s.halted.ctl := by simp [State.stopped, hctl]
  exact ⟨hstopped, by simp [State.stopped, State.halted], by simp [State.stopped, State.halted],
    by simp [State.stopped, State.halted]⟩

/-- The first report of an unconfigured station, alone in the queue, with the report timer started (R5). -/
def State.firstReported (s : State) : State :=
  { s with
    ctl := { s.ctl with reportTimer := some s.now, reportSeq := s.ctl.reportSeq + 1 }
    link := { s.link with queue :=
      [⟨.stateReport s.ctl.reportSeq s.roleBits s.unconfiguredFields, s.now, false, false⟩] } }

/-- An unconfigured station with an empty queue starts to report with its first report alone (R5). -/
theorem State.startReporting_of_unconfigured {s : State} (hlink : s.onLink = true)
    (hconf : s.configured = false) (hheld : s.consent.held = none) (hqueue : s.link.queue = [])
    (hquiet : s.link.quietOut = none) :
    s.startReporting .loading = s.firstReported := by
  have hreport : s.startReporting .loading = s.startReportTimer.ownReport := if_pos hlink
  have hlink' : s.startReportTimer.onLink = true := hlink
  have hroom : s.startReportTimer.link.queue.length ≤ 6 :=
    (congrArg List.length hqueue).trans_le (by decide)
  have hfields : s.startReportTimer.reportFields = s.unconfiguredFields :=
    State.reportFields_of_unconfigured (s := s.startReportTimer) hconf
  rw [hreport, State.ownReport_of_room hlink' hquiet hroom,
    State.revote_of_none (s := s.startReportTimer) hheld,
    State.reported_of_unconfigured (s := s.startReportTimer) hconf, State.report, hfields]
  have htake : takeFrame s.now (.stateReport s.ctl.reportSeq s.roleBits s.unconfiguredFields)
      s.link.queue =
        [⟨.stateReport s.ctl.reportSeq s.roleBits s.unconfiguredFields, s.now, false, false⟩] := by
    rw [hqueue]
    rfl
  rw [State.firstReported, ← htake]
  rfl

/-- A STOP code raised in LOADING arms nothing, and its notice joins the queue (R155, R157). -/
theorem State.armAndNotice_of_loading {s : State} (hlink : s.onLink = true)
    (hquiet : s.link.quietOut = none) (hroom : s.link.queue.length < 8) {c : AlarmCode}
    (hc : c.isWarn = false) (v : Int) :
    s.armAndNotice c v .loading = s.modLink fun l =>
      { l with queue := takeFrame s.now (.alarmNotice c (alarmValue v) false 0) l.queue } := by
  have hnever : s.armsCapture c .loading = false := by simp [State.armsCapture, State.armsIn]
  have harm : s.localArm c .loading = s := by
    unfold State.localArm
    split
    · exact if_neg (by simp [hnever])
    · rfl
  unfold State.armAndNotice State.askNotice
  rw [harm, if_neg (by simp [State.sendsNotice, hc]), hnever]
  exact State.queueFrame_of_room _ hlink hquiet hroom

/-- The notice of a STOP code goes before a report (R21). -/
theorem takeFrame_notice_report {now : Time} {c : AlarmCode} (hc : c.severity = .stop) (v : Word16)
    (q : BitVec 4) (b : BitVec 3) (f : ReportFields) :
    (takeFrame now (.alarmNotice c v false 0) [⟨.stateReport q b f, now, false, false⟩]).map
      (fun x => x.frame) = [.alarmNotice c v false 0, .stateReport q b f] := by
  simp [takeFrame, OutFrame.sameObject, OutFrame.isReport, insertByClass, Queued.cls, OutFrame.cls, hc]

end Sys2Proof.Machine
end

section
/-!
PROOFS. O9.
-/

set_option Elab.async false

namespace Sys2Proof.Machine

/-! ### O9: the load judged -/

/-- A station that knows its number and its role has valid straps. -/
theorem State.addressed_of_self {s : State} {n : Station} {r : Role} (hself : s.self = some n)
    (hrole : s.ownRole = some r) : s.addressed = true ∧ s.alarmInUse = true := by
  unfold State.self at hself
  unfold State.ownRole at hrole
  cases hx : s.ctl.straps with
  | none => simp [hx] at hself
  | some x =>
    have hvalid : strapsValid x = true := by
      rw [hx] at hself hrole
      dsimp only at hself hrole
      rw [strapsValid, hself, hrole]
      rfl
    simp [State.addressed, State.alarmInUse, State.strapFault, hx, hvalid]

/-- A STOP code raised in LOADING with nothing under way leaves its notice and the first report queued. -/
theorem State.raiseStop_of_loading {s : State} {n : Station} {r : Role} (hm : s.ctl.mode = .loading)
    (hself : s.self = some n) (hrole : s.ownRole = some r) (hparams : s.ctl.params = none)
    (hcauses : s.ctl.causes.isEmpty = true) (hheld : s.consent.held = none)
    (hqueue : s.link.queue = []) (hquiet : s.link.quietOut = none) (hswing : s.role.swing = .locked)
    (hwalk : s.walk.state = .idle) {c : AlarmCode} (hc : c.severity = .stop) (v : Int) :
    (s.raiseStop c v).ctl.reportTimer = some s.now
    ∧ (s.raiseStop c v).link.queue.map (fun q => q.frame) =
        [.alarmNotice c (alarmValue v) false 0,
         .stateReport s.ctl.reportSeq r.bits
           { ReportFields.zero with mode := 3, brakeSet := true, summary := 3 }] := by
  obtain ⟨haddr, huse⟩ := State.addressed_of_self hself hrole
  have htrip : (s.latch c v).hasCause .localTrip = false := (HoldCauses.isEmpty_iff _).mp hcauses _
  have hbits : s.roleBits = r.bits := by rw [State.roleBits, hrole]
  have hwarn : c.isWarn = false := by simp [AlarmCode.isWarn, hc]
  obtain ⟨hctl, hlink, hconsent, hnow⟩ := State.stopped_frame htrip
  have hstop : (s.latch c v).enterStop = (s.latch c v).stopped.startReporting .loading := by
    rw [← hm]
    exact State.enterStop_of_rest (s := s.latch c v) (by rw [show (s.latch c v).ctl.mode = _ from hm]; decide)
      htrip hswing hwalk
  rw [State.raiseStop_of_inUse huse, hm, hstop]
  have hctl' : (s.latch c v).stopped.ctl =
      { s.ctl with mode := .stop, listenTimer := none, neutralSince := none } := hctl
  generalize (s.latch c v).stopped = u at hctl' hlink hconsent hnow ⊢
  have hon : u.onLink = true := by simpa [State.onLink, State.addressed, hctl'] using haddr
  have hconf : u.configured = false := by simp [State.configured, hctl', hparams]
  have hnone : u.consent.held = none := (congrArg ConsentEngine.held hconsent).trans hheld
  have hempty : u.link.queue = [] := (congrArg LinkController.queue hlink).trans hqueue
  have hquiet' : u.link.quietOut = none := (congrArg LinkController.quietOut hlink).trans hquiet
  have hfields : u.unconfiguredFields =
      { ReportFields.zero with mode := 3, brakeSet := true, summary := 3 } := by
    simp [State.unconfiguredFields, hctl', hcauses, ReportFields.zero]
  have hseq : u.ctl.reportSeq = s.ctl.reportSeq := by rw [hctl']
  have hrole' : u.roleBits = r.bits := by
    rw [← hbits]
    simp [State.roleBits, State.ownRole, hctl']
  have hroom : u.firstReported.link.queue.length < 8 := by simp [State.firstReported]
  have hframes : u.firstReported.link.queue = [⟨.stateReport s.ctl.reportSeq r.bits
      { ReportFields.zero with mode := 3, brakeSet := true, summary := 3 }, u.now, false, false⟩] := by
    rw [State.firstReported, hfields, hseq, hrole']
  rw [State.startReporting_of_unconfigured hon hconf hnone hempty hquiet',
    State.armAndNotice_of_loading (s := u.firstReported) hon hquiet' hroom hwarn]
  refine ⟨congrArg some hnow, ?_⟩
  rw [State.modLink_link, hframes]
  exact takeFrame_notice_report hc _ _ _ _

/-- Settles O9: the roster of a block that passes the checks, and the raise of CONFIG_BAD in LOADING. -/
theorem loadJudged : Obligations.LoadJudged := by
  unfold Obligations.LoadJudged
  refine ⟨fun s memory n r hm hself hrole hchecks => ⟨_, rfl, ?_⟩,
    fun s memory n r k hm hself hrole hchecks hk hparams hcauses hheld hqueue hquiet hsafe hsound =>
      ⟨_, rfl, ?_⟩⟩
  · have hload : s.loadBlock memory = s.goodLoad (blockOf memory) n := by
      unfold State.loadBlock
      rw [hm, hself, hrole]
      exact if_pos hchecks
    obtain ⟨hfields, hdistinct⟩ := rosterIn_of_formed (rosterFormed_of_loadChecks hchecks)
    have hstart := s.goodLoad_startUp (blockOf memory) n
    simp only [State.startUp, Prod.mk.injEq] at hstart
    obtain ⟨hlink, hpeers, hcapture, hreg, hlines, hctl⟩ := hstart
    rw [hload]
    generalize s.goodLoad (blockOf memory) n = t at *
    have hroster : t.ctl.roster = rosterIn (blockOf memory) := by rw [hctl]; rfl
    have hentry (k : Station) :
        t.entry k = (s.peers.enlist (rosterIn (blockOf memory))).entries[k] := by
      rw [State.entry, hpeers]
      rfl
    refine ⟨by rw [hctl]; rfl, by rw [hctl]; rfl, by rw [hctl]; rfl, hreg, fun k => ?_, ?_, ?_,
      fun e he => ?_, fun k hk => ?_, ?_, hlink, Outputs.eq_of_lines hlines⟩
    · rw [State.hasCause, hctl]
      exact HoldCauses.has_pictureIncomplete _ k
    · rw [hcapture]
      exact CaptureStore.divide_length _ _
    · rw [hroster]
      exact hfields
    · rw [hroster] at he ⊢
      rw [hentry]
      exact s.peers.enlist_of_mem hdistinct he
    · rw [hroster] at hk
      rw [hentry]
      exact s.peers.enlist_of_not_mem hk
    · rw [hentry, PeerTable.enlist_place, hctl]
      rfl
  · have hload : s.loadBlock memory = s.raiseStop .configBad k := by
      unfold State.loadBlock
      rw [hm, hself, hrole, ← hchecks]
      exact if_neg (hchecks ▸ hk)
    obtain ⟨-, hloading⟩ := hsound
    obtain ⟨-, hswing, -, hwalk⟩ := hloading hm
    obtain ⟨-, huse⟩ := State.addressed_of_self hself hrole
    obtain ⟨hmode, hoff, -, hsame⟩ :=
      State.raiseStop_stops huse (by rw [hm]; decide) .configBad (k : Int)
    obtain ⟨htimer, hframes⟩ := State.raiseStop_of_loading hm hself hrole hparams hcauses hheld hqueue
      hquiet hswing hwalk (c := .configBad) rfl (k : Int)
    rw [hload]
    exact ⟨hmode, hsame.trans hparams, hoff, State.raiseStop_raised rfl huse _, htimer, hframes⟩

end Sys2Proof.Machine
end

section
/-!
PROOFS. A sound transmit queue: no two frames of it are rivals, and what a request leaves of it.
-/

set_option Elab.async false

namespace Sys2Proof.Machine

/-! ### Rivals in the queue (R21) -/

/-- Two frames of which the queue holds one at most: two reports, or two OBJECTs for one proposal (R21, R22). -/
def OutFrame.rivals (f g : OutFrame) : Bool := (f.isReport && g.isReport) || f.sameObject g

theorem OutFrame.sameObject_iff {f g : OutFrame} :
    f.sameObject g = true ↔ ∃ p n r r', f = .object p n r ∧ g = .object p n r' := by
  cases f <;> cases g <;> simp [OutFrame.sameObject]

theorem OutFrame.sameObject_comm (f g : OutFrame) : f.sameObject g = g.sameObject f := by
  rw [Bool.eq_iff_iff, OutFrame.sameObject_iff, OutFrame.sameObject_iff]
  constructor
  · rintro ⟨p, n, r, r', rfl, rfl⟩
    exact ⟨p, n, r', r, rfl, rfl⟩
  · rintro ⟨p, n, r, r', rfl, rfl⟩
    exact ⟨p, n, r', r, rfl, rfl⟩

theorem OutFrame.sameObject_trans {f g k : OutFrame} (h : f.sameObject g = true)
    (h' : g.sameObject k = true) : f.sameObject k = true := by
  obtain ⟨p, n, r, r', rfl, rfl⟩ := OutFrame.sameObject_iff.mp h
  cases k <;> simp_all [OutFrame.sameObject]

theorem OutFrame.rivals_comm (f g : OutFrame) : f.rivals g = g.rivals f := by
  unfold OutFrame.rivals
  rw [OutFrame.sameObject_comm f g, Bool.and_comm]

/-- No two frames of a queue are rivals. -/
def RivalFree (l : List Queued) : Prop := l.Pairwise fun x y => x.frame.rivals y.frame = false

/-- A test picks at most one element of a list exactly if it picks no two. -/
theorem countOf_le_one_iff (p : Queued → Bool) (l : List Queued) :
    countOf p l ≤ 1 ↔ l.Pairwise fun x y => (p x && p y) = false := by
  induction l with
  | nil => simp [countOf]
  | cons x l ih =>
    rw [List.pairwise_cons, ← ih]
    cases hx : p x with
    | false => simp [countOf, hx]
    | true =>
      have hzero : countOf p l = 0 ↔ ∀ y ∈ l, p y = false := by simp [countOf]
      have hcons : countOf p (x :: l) = countOf p l + 1 := by simp [countOf, hx]
      simp only [hcons, Bool.true_and, ← hzero]
      omega

/-- At most one OBJECT for any proposal, said of two frames. -/
theorem objects_iff (l : List Queued) :
    (∀ q ∈ l, countOf (fun x => x.frame.sameObject q.frame) l ≤ 1) ↔
      l.Pairwise fun x y => x.frame.sameObject y.frame = false := by
  constructor
  · intro h
    refine List.pairwise_iff_forall_sublist.mpr fun {x y} hxy => Bool.eq_false_iff.mpr fun hsame => ?_
    have hone := (countOf_le_one_iff _ _).mp (h y (hxy.subset (by simp)))
    have hself := OutFrame.sameObject_trans ((OutFrame.sameObject_comm _ _).trans hsame) hsame
    have := List.pairwise_iff_forall_sublist.mp hone hxy
    simp [hsame, hself] at this
  · intro h q _
    refine (countOf_le_one_iff _ _).mpr (h.imp fun {x y} hxy => ?_)
    by_contra hboth
    obtain ⟨hx, hy⟩ := Bool.and_eq_true_iff.mp (by simpa using hboth)
    rw [OutFrame.sameObject_comm] at hy
    exact absurd (hxy.symm.trans (OutFrame.sameObject_trans hx hy)) (by decide)

/-- The invariant of R21: length, class order, no rivals. -/
theorem State.queueSound_iff (s : State) :
    s.QueueSound ↔
      s.link.queue.length ≤ 8 ∧ classOrdered s.link.queue = true ∧ RivalFree s.link.queue := by
  unfold State.QueueSound RivalFree
  rw [objects_iff, countOf_le_one_iff, ← List.pairwise_and_iff]
  simp only [OutFrame.rivals, Bool.or_eq_false_iff]

/-- A queue whose frames stood in a sound queue, in their order, is sound. -/
theorem State.QueueSound.of_sublist {s t : State} (hs : s.QueueSound)
    (h : (t.link.queue.map fun q => q.frame).Sublist (s.link.queue.map fun q => q.frame)) :
    t.QueueSound := by
  rw [State.queueSound_iff] at hs ⊢
  obtain ⟨hlength, horder, hrival⟩ := hs
  rw [classOrdered_iff] at horder ⊢
  have hkeep (R : OutFrame → OutFrame → Prop) (hR : s.link.queue.Pairwise fun x y => R x.frame y.frame) :
      t.link.queue.Pairwise fun x y => R x.frame y.frame :=
    List.pairwise_map.mp ((List.pairwise_map.mpr hR).sublist h)
  exact ⟨by simpa using h.length_le.trans (by simpa using hlength),
    hkeep (fun f g => f.cls ≤ g.cls) horder, hkeep (fun f g => f.rivals g = false) hrival⟩

/-! ### What a request leaves (R21 to R23) -/

/-- The queue after a request to queue `f`: as it was, with a report replaced, or with `f` in its place among
frames of it none of which is a rival of `f`. -/
theorem State.queueFrame_queue (s : State) (f : OutFrame) :
    (s.queueFrame f).link.queue = s.link.queue
    ∨ (f.isReport = true ∧ (s.queueFrame f).link.queue = replaceReport f s.link.queue)
    ∨ (∀ q ∈ s.link.queue, f.rivals q.frame = false)
      ∧ ∃ l : List Queued, l.Sublist s.link.queue
        ∧ (s.queueFrame f).link.queue = insertByClass ⟨f, s.now, false, false⟩ l := by
  unfold State.queueFrame
  split
  · exact .inl rfl
  split
  · exact .inl (by simp)
  split
  · exact .inl rfl
  split
  · next hreport => exact .inr (.inl ⟨(Bool.and_eq_true_iff.mp hreport).1, rfl⟩)
  next hobject hreport =>
  have hfree : ∀ q ∈ s.link.queue, f.rivals q.frame = false := fun q hq => by
    have hsame : q.frame.sameObject f = false := Bool.eq_false_iff.mpr fun h =>
      hobject (List.any_eq_true.mpr ⟨q, hq, h⟩)
    have htwo : (f.isReport && q.frame.isReport) = false := Bool.eq_false_iff.mpr fun h => by
      obtain ⟨hf, hr⟩ := Bool.and_eq_true_iff.mp h
      exact hreport (Bool.and_eq_true_iff.mpr ⟨hf, List.any_eq_true.mpr ⟨q, hq, hr⟩⟩)
    simp [OutFrame.rivals, htwo, OutFrame.sameObject_comm f, hsame]
  split
  · exact .inr (.inr ⟨hfree, _, .refl _, rfl⟩)
  · unfold State.joinFullQueue
    split
    · exact .inl (by simp)
    split
    · split
      · exact .inl (by simp)
      · exact .inr (.inr ⟨hfree, _, removeYoungest_sublist _ _, by simp [State.dropFrame]; rfl⟩)
    · exact .inl (by simp)

/-- A report in the place of a report is no rival of a frame that the old one was not a rival of. -/
theorem RivalFree.replaceReport {f : OutFrame} (hf : f.isReport = true) {l : List Queued}
    (h : RivalFree l) : RivalFree (replaceReport f l) := by
  have hright : ∀ g : OutFrame, g.sameObject f = false := OutFrame.sameObject_of_isReport hf
  have hleft (g : OutFrame) : f.sameObject g = false := (OutFrame.sameObject_comm f g).trans (hright g)
  refine List.pairwise_map.mpr (h.imp fun {x y} hxy => ?_)
  unfold OutFrame.rivals at hxy ⊢
  obtain ⟨hreports, hobjects⟩ := Bool.or_eq_false_iff.mp hxy
  split <;> split <;> simp_all

theorem RivalFree.insertByClass {q : Queued} {l : List Queued} (h : RivalFree l)
    (hq : ∀ x ∈ l, q.frame.rivals x.frame = false) : RivalFree (insertByClass q l) := by
  have hperm := (insertByClass_perm q l).pairwise_iff (R := fun x y => x.frame.rivals y.frame = false)
    fun {x y} hxy => (OutFrame.rivals_comm _ _).trans hxy
  exact hperm.mpr (List.pairwise_cons.mpr ⟨hq, h⟩)

/-- A request to queue a frame keeps the queue sound. -/
theorem State.QueueSound.queueFrame {s : State} (h : s.QueueSound) (f : OutFrame) :
    (s.queueFrame f).QueueSound := by
  rw [State.queueSound_iff] at h ⊢
  obtain ⟨hlength, horder, hrival⟩ := h
  refine ⟨queueFrame_length s f hlength, queueFrame_ordered s f horder, ?_⟩
  rcases s.queueFrame_queue f with heq | ⟨hf, heq⟩ | ⟨hfree, l, hl, heq⟩ <;> rw [heq]
  · exact hrival
  · exact hrival.replaceReport hf
  · exact RivalFree.insertByClass (hrival.sublist hl) fun x hx => hfree x (hl.subset hx)

end Sys2Proof.Machine
end


section
/-!
PROOFS. `Asks`: what the blocks beside the link controller may do to the queue and to the peer table.
-/

set_option Elab.async false

namespace Sys2Proof.Machine

/-! ### What a block may do to the queue and to the peer table -/

/-- An entry that is ABSENT has its stop, mismatch and change marks clear (R37). -/
def PeerEntry.Unmarked (e : PeerEntry) : Prop :=
  e.status = .absent → e.stopMark = false ∧ e.mismatchMark = false ∧ e.changeMark = false

/-- An entry that has not aged, with its counts 0 and its marks clear (R38). -/
def PeerEntry.Clean (e : PeerEntry) : Prop :=
  e.status ≠ .stale ∧ e.gaps = 0 ∧ e.dups = 0 ∧ e.staleMark = false ∧ e.lostMark = false
    ∧ e.mismatchMark = false ∧ e.changeMark = false ∧ e.stopMark = false

/-- The link controller but for its queue and the counters that a request or a judgement of a payload moves. -/
def LinkController.rest (l : LinkController) : LinkController :=
  { l with queue := [], txDropped := 0, rxMalformed := 0 }

/-- From `s` to `t` a sound queue has stayed sound, an ABSENT entry has stayed or become unmarked, and the entry
of station `o`, which is the own one, has stayed clean. -/
structure Tidy (o : Option Station) (s t : State) : Prop where
  queue : s.QueueSound → t.QueueSound
  unmarked : ∀ n, (s.entry n).Unmarked → (t.entry n).Unmarked
  clean : ∀ n, o = some n → (s.entry n).Clean → (t.entry n).Clean

/-- From `s` to `t` blocks have asked to queue and to remove frames, and no more has happened to the link
controller. -/
structure Asks (o : Option Station) (s t : State) : Prop extends Tidy o s t where
  rest : t.link.rest = s.link.rest

section

variable {o : Option Station} {s t u : State}

theorem Tidy.refl (s : State) : Tidy o s s := ⟨id, fun _ => id, fun _ _ => id⟩

theorem Tidy.trans (h : Tidy o s t) (h' : Tidy o t u) : Tidy o s u :=
  ⟨h'.queue ∘ h.queue, fun n => h'.unmarked n ∘ h.unmarked n, fun n hn => h'.clean n hn ∘ h.clean n hn⟩

theorem Tidy.guarded {c : Prop} [Decidable c] (h : c → Tidy o s t) : Tidy o s (if c then t else s) := by
  split
  · next hc => exact h hc
  · exact .refl s

/-- A queue with the same frames, some left out perhaps, and the peer table as it was. -/
theorem Tidy.of_sublist
    (hq : (t.link.queue.map fun q => q.frame).Sublist (s.link.queue.map fun q => q.frame))
    (hp : t.peers.entries = s.peers.entries) : Tidy o s t := by
  have hentry (n : Station) : t.entry n = s.entry n := by
    unfold State.entry
    rw [hp]
  exact ⟨fun hs => hs.of_sublist hq, fun n => by rw [hentry]; exact id,
    fun n _ => by rw [hentry]; exact id⟩

theorem Asks.refl (s : State) : Asks o s s := ⟨.refl s, rfl⟩

theorem Asks.trans (h : Asks o s t) (h' : Asks o t u) : Asks o s u :=
  ⟨h.toTidy.trans h'.toTidy, h'.rest.trans h.rest⟩

/-- What leaves the link controller and the entries alone. -/
theorem Asks.kept (hl : t.link = s.link := by simp)
    (hp : t.peers.entries = s.peers.entries := by simp) : Asks o s t :=
  ⟨.of_sublist (by rw [hl]) hp, congrArg _ hl⟩

/-- What leaves link controller and entries alone may come before. -/
theorem Asks.after (h : Asks o t u) (hl : t.link = s.link := by simp)
    (hp : t.peers.entries = s.peers.entries := by simp) : Asks o s u :=
  (Asks.kept hl hp).trans h

/-- What leaves link controller and entries alone may follow. -/
theorem Asks.andThen (h : Asks o s t) (hl : u.link = t.link := by simp)
    (hp : u.peers.entries = t.peers.entries := by simp) : Asks o s u :=
  h.trans (.kept hl hp)

theorem Asks.ite {c : Prop} [Decidable c] (h : c → Asks o s t) (h' : ¬c → Asks o s u) :
    Asks o s (if c then t else u) := by
  split
  · next hc => exact h hc
  · next hc => exact h' hc

theorem Asks.guarded {c : Prop} [Decidable c] (h : c → Asks o s t) : Asks o s (if c then t else s) :=
  .ite h fun _ => .refl s

theorem Asks.foldl {α : Type} {f : State → α → State} (hf : ∀ s x, Asks o s (f s x)) (l : List α)
    (s : State) : Asks o s (l.foldl f s) := by
  induction l generalizing s with
  | nil => exact .refl s
  | cons x l ih => exact (hf s x).trans (ih _)

/-! ### The requests -/

@[simp] theorem LinkController.rest_queue (l : LinkController) (q : List Queued) :
    LinkController.rest { l with queue := q } = l.rest := rfl

@[simp] theorem State.joinQueue_rest (s : State) (f : OutFrame) :
    (s.joinQueue f).link.rest = s.link.rest := rfl

@[simp] theorem State.dropFrame_rest (s : State) (f : OutFrame) :
    (s.dropFrame f).link.rest = s.link.rest := by
  simp [State.dropFrame, LinkController.rest]

@[simp] theorem State.joinFullQueue_rest (s : State) (f : OutFrame) :
    (s.joinFullQueue f).link.rest = s.link.rest := by
  unfold State.joinFullQueue
  (repeat' split) <;> simp

theorem State.queueFrame_rest (s : State) (f : OutFrame) :
    (s.queueFrame f).link.rest = s.link.rest := by
  unfold State.queueFrame
  (repeat' split) <;> simp

theorem State.queueFrame_asks (s : State) (f : OutFrame) : Asks o s (s.queueFrame f) where
  queue h := h.queueFrame f
  unmarked n := by simp [State.entry]
  clean n _ := by simp [State.entry]
  rest := s.queueFrame_rest f

/-- A removal leaves the others in their order (R52). -/
theorem State.removePropose_asks (s : State) (n : Byte) : Asks o s (s.removePropose n) :=
  ⟨.of_sublist (List.filter_sublist.map _) rfl, rfl⟩

theorem State.countMalformed_asks (s : State) : Asks o s s.countMalformed :=
  ⟨.of_sublist (.refl _) rfl, rfl⟩

end

section

variable {o : Option Station}

/-! ### Raises of WARN codes and the capture store -/

theorem State.armAndNotice_asks (s : State) (c : AlarmCode) (v : Int) (m : Mode) :
    Asks o s (s.armAndNotice c v m) := by
  unfold State.armAndNotice State.askNotice
  split
  · exact .kept
  · exact (State.queueFrame_asks _ _).after

theorem State.raiseWarn_asks (s : State) (c : AlarmCode) (v : Int) : Asks o s (s.raiseWarn c v) :=
  .ite (fun _ => .refl s) fun _ => (State.armAndNotice_asks _ _ _ _).after

theorem State.raiseFull_asks (s : State) : Asks o s s.raiseFull :=
  (State.raiseWarn_asks _ _ _).after

theorem State.becomeKept_asks (s : State) (i : Nat) : Asks o s (s.becomeKept i) :=
  .ite (fun _ => (State.raiseFull_asks _).after) fun _ => .kept

theorem State.keepById_asks (s : State) (id : ArmId) : Asks o s (s.keepById id) :=
  (Asks.foldl State.becomeKept_asks _ _).after

theorem State.takeKeepNotice_asks (s : State) (id : ArmId) : Asks o s (s.takeKeepNotice id) :=
  .ite (fun _ => .kept) fun _ => s.keepById_asks id

theorem State.settleDecision_asks (s : State) (d : Decision) : Asks o s (s.settleDecision d) := by
  unfold State.settleDecision
  split
  · exact .refl s
  dsimp only
  split
  · exact (s.queueFrame_asks _).trans (State.keepById_asks _ _)
  · exact s.queueFrame_asks _

theorem State.decideDue_asks (s : State) : Asks o s s.decideDue :=
  (Asks.foldl State.settleDecision_asks _ _).after

theorem State.settlePost_asks (s : State) (i : Nat) : Asks o s (s.settlePost i) := by
  unfold State.settlePost
  refine .ite (fun _ => ?_) fun _ => .ite (fun _ => .kept) fun _ => .kept
  dsimp only
  split
  · exact (s.becomeKept_asks i).trans (State.queueFrame_asks _ _)
  · exact s.becomeKept_asks i

theorem State.endPost_asks (s : State) : Asks o s s.endPost := by
  unfold State.endPost
  split
  · next i _ => exact .guarded fun _ => (s.settlePost_asks i).andThen
  · exact .refl s

theorem State.firstWriteBlock_asks (s : State) : Asks o s s.firstWriteBlock := by
  unfold State.firstWriteBlock
  split
  · exact .kept
  · exact .guarded fun _ => s.raiseFull_asks

/-! ### Swing, walk and consent -/

theorem State.raiseWithdrawn_asks (s : State) : Asks o s s.raiseWithdrawn := by
  unfold State.raiseWithdrawn
  split
  · exact s.raiseWarn_asks _ _
  · exact s.raiseWarn_asks _ _

theorem State.stopSwing_asks (s : State) : Asks o s s.stopSwing := by
  refine .guarded fun _ => ?_
  split
  · exact .kept
  · exact (s.lockSwing.raiseWithdrawn_asks.after).andThen
  · exact .refl s
  · exact .refl s

theorem State.abortWalk_asks (s : State) (v : Int) : Asks o s (s.abortWalk v) :=
  .ite (fun _ => (State.raiseWarn_asks _ _ _).after) fun _ => .kept

theorem State.cancelProposal_asks (s : State) (x : CancelOutcome) : Asks o s (s.cancelProposal x) := by
  unfold State.cancelProposal
  dsimp only
  split
  · exact (State.raiseWarn_asks _ _ _).after
  · exact (State.raiseWarn_asks _ _ _).after

theorem State.beginProposal_asks (s : State) (k : ProposalKind) : Asks o s (s.beginProposal k) :=
  (State.queueFrame_asks _ _).after

theorem State.objectTo_asks (s : State) (p : Station) (n : Byte) (r : Reason) :
    Asks o s (s.objectTo p n r) :=
  s.queueFrame_asks _

theorem State.requestProposal_asks (s : State) (k : ProposalKind) : Asks o s (s.requestProposal k) := by
  rw [State.requestProposal_eq]
  refine .ite (fun _ => .refl s) fun _ => Asks.after (t := s.newProposal k) ?_
    (by simp [State.newProposal]) (by simp [State.newProposal])
  split
  · exact .ite (fun _ => State.cancelProposal_asks _ _) fun _ =>
      ((State.objectTo_asks _ _ _ _).after).trans (State.beginProposal_asks _ _)
  · exact State.beginProposal_asks _ _

theorem State.expireSendLimit_asks (s : State) : Asks o s s.expireSendLimit :=
  .guarded fun _ => (s.cancelProposal_asks _).trans (State.removePropose_asks _ _)

theorem State.castVote_asks (s : State) (p : Station) (n : Byte) (k : ProposalKind) :
    Asks o s (s.castVote p n k) := by
  have hmark : Asks o s (if s.holds p n then s.setObjecting (s.vote p k).isSome else s) :=
    .guarded fun _ => .kept
  unfold State.castVote
  dsimp only
  split
  · exact hmark.trans (State.objectTo_asks _ _ _ _)
  · exact hmark

theorem State.revote_asks (s : State) : Asks o s s.revote := by
  unfold State.revote
  split
  · refine .guarded fun _ => ?_
    split
    · exact .ite (fun _ => .refl s) fun _ => (State.objectTo_asks _ _ _ _).after
    · exact .kept
  · exact .refl s

theorem State.yieldTo_asks (s : State) (p : Station) (n : Byte) (k : ProposalKind) :
    Asks o s (s.yieldTo p n k) := by
  unfold State.yieldTo
  exact ((s.cancelProposal_asks (.yielded p)).trans
    (State.removePropose_asks _ s.consent.own.number)).andThen

theorem State.settlePropose_asks (s : State) (p : Station) (n : Byte) (k : ProposalKind) :
    Asks o s (s.settlePropose p n k) := by
  unfold State.settlePropose
  split
  · exact .kept
  · exact .guarded fun _ => s.yieldTo_asks p n k
  · exact .refl s

theorem State.takePropose_asks (s : State) (p : Station) (n : Byte) (k : ProposalKind) :
    Asks o s (s.takePropose p n k) :=
  .ite (fun _ => (s.settlePropose_asks p n k).trans (State.castVote_asks _ _ _ _)) fun _ =>
    .guarded fun _ => s.objectTo_asks _ _ _

theorem State.takeCurrentObject_asks (s : State) (x : Station × Reason) :
    Asks o s (s.takeCurrentObject x) := by
  unfold State.takeCurrentObject
  split
  · exact .kept
  · split
    · exact s.abortWalk_asks _
    all_goals exact .kept
  all_goals exact .refl s

theorem State.takeObject_asks (s : State) (q p : Station) (n : Byte) (r : Reason) :
    Asks o s (s.takeObject q p n r) :=
  .ite (fun _ => .refl s) fun _ => .ite (fun _ => s.takeCurrentObject_asks _) fun _ => .kept

theorem State.expireWindow_asks (s : State) : Asks o s s.expireWindow := by
  refine .guarded fun _ => ?_
  split
  · exact .refl s
  · split
    · exact s.cancelProposal_asks _
    · exact .kept

/-! ### The own report, HOLD and STOP -/

/-- An entry changes, and what it must not lose it keeps. -/
theorem State.modEntry_asks (s : State) (n : Station) (f : PeerEntry → PeerEntry)
    (hmark : (s.entry n).Unmarked → (f (s.entry n)).Unmarked)
    (hclean : o = some n → (s.entry n).Clean → (f (s.entry n)).Clean) : Asks o s (s.modEntry n f) := by
  have hentry (k : Station) : (s.modEntry n f).entry k = if k = n then f (s.entry n) else s.entry k := by
    split
    · next hk => rw [hk]; exact PeerTable.entries_set_same _ _ _
    · next hk => exact PeerTable.entries_set_other _ _ hk
  refine ⟨⟨id, fun k => ?_, fun k hk => ?_⟩, rfl⟩ <;> rw [hentry]
  · split
    · next h => rw [h]; exact hmark
    · exact id
  · split
    · next h => rw [h]; exact hclean (h ▸ hk)
    · exact id

/-- The own report makes the entry FRESH and touches no count and no mark (R38). -/
theorem State.fillOwnEntry_asks (s : State) (q : BitVec 4) (f : ReportFields) :
    Asks o s (s.fillOwnEntry q f) := by
  unfold State.fillOwnEntry
  split
  · exact .guarded fun _ => s.modEntry_asks _ _ (fun _ h => nomatch h)
      fun _ ⟨_, hrest⟩ => ⟨nofun, hrest⟩
  · exact .refl s

theorem State.ownReport_asks (s : State) : Asks o s s.ownReport := by
  unfold State.ownReport
  exact (s.revote_asks.trans ((State.fillOwnEntry_asks _ _ _).after)).trans (State.queueFrame_asks _ _)

theorem State.reportEvent_asks (s : State) : Asks o s s.reportEvent :=
  (State.ownReport_asks _).after

theorem State.raiseTrip_asks (s : State) (c : AlarmCode) (v : Int) : Asks o s (s.raiseTrip c v) := by
  unfold State.raiseTrip
  refine .ite (fun _ => .refl s) fun _ => ?_
  dsimp only
  split
  · exact (State.armAndNotice_asks _ _ _ _).after
  · exact (State.armAndNotice_asks _ _ _ _).after

theorem State.enterForced_asks (s : State) (c : ForcedCause) : Asks o s (s.enterForced c) :=
  (State.raiseTrip_asks _ _ _).after

theorem State.forceWalk_asks (s : State) (c : ForcedCause) : Asks o s (s.forceWalk c) := by
  unfold State.forceWalk
  split
  · exact s.enterForced_asks c
  · exact s.enterForced_asks c
  · exact .guarded fun _ => s.enterForced_asks c
  · exact .guarded fun _ => s.enterForced_asks c
  · exact .kept
  all_goals exact .refl s

theorem State.startReporting_asks (s : State) (m : Mode) : Asks o s (s.startReporting m) := by
  unfold State.startReporting
  split
  · exact s.firstWriteBlock_asks.trans ((State.ownReport_asks _).after)
  · exact .guarded fun _ => (State.ownReport_asks _).after
  all_goals exact .refl s

theorem State.enterStop_asks (s : State) : Asks o s s.enterStop := by
  by_cases h : s.ctl.mode = .stop
  · rw [State.enterStop_of_stop h]
    exact .refl s
  · rw [State.enterStop_of_ne h]
    have hsafe : Asks o s s.halted.stopSupply.makeSafe :=
      .kept (by simp [State.halted]) (by simp [State.halted])
    exact ((hsafe.trans (State.stopSwing_asks _)).trans (State.forceWalk_asks _ _)).trans
      (State.startReporting_asks _ _)

theorem State.raiseStop_asks (s : State) (c : AlarmCode) (v : Int) : Asks o s (s.raiseStop c v) :=
  .ite (fun _ => .refl s) fun _ =>
    ((State.enterStop_asks _).after).trans (State.armAndNotice_asks _ _ _ _)

end

end Sys2Proof.Machine
end


section
/-!
PROOFS. Peer table and regulation as `Asks`.
-/

set_option Elab.async false

namespace Sys2Proof.Machine

section

variable {o : Option Station}

/-! ### The peer table (Machine/Peer.lean) -/

theorem State.findConflict_asks (s : State) (n : Station) : Asks o s (s.findConflict n) :=
  .guarded fun _ =>
    ((State.raiseTrip_asks (s.modPeers fun t => { t with conflict := true }) .roleConflict
      (stationNumber n)).after).andThen

theorem State.endConflict_asks (s : State) : Asks o s s.endConflict :=
  .guarded fun _ => .kept

/-- At every end of staleness the stale marks clear and no more (R40). -/
theorem State.returnStale_asks (s : State) : Asks o s s.returnStale := by
  refine .guarded fun _ => Asks.andThen
    (t := s.modPeers fun t => { t with entries := t.entries.map fun e => { e with staleMark := false } })
    ⟨⟨id, fun n h => ?_, fun n _ h => ?_⟩, rfl⟩
  · simpa [State.entry, PeerEntry.Unmarked] using h
  · obtain ⟨hstatus, hgaps, hdups, -, hrest⟩ := h
    simp only [State.entry, State.modPeers_peers, Fin.getElem_fin, Vector.getElem_map]
    exact ⟨hstatus, hgaps, hdups, rfl, hrest⟩

theorem State.walkTakesDrag_asks (s : State) (n : Station) : Asks o s (s.walkTakesDrag n) := by
  have hforce : Asks o s (if (s.entry n).shows .walkSupply then s else s.forceWalk .supply) :=
    .ite (fun _ => .refl s) fun _ => s.forceWalk_asks _
  have hclear (t : State) : Asks o t (if t.allSupplying then t.clearForced .supply else t) :=
    .guarded fun _ => .kept
  have hforced := hforce.trans (hclear _)
  unfold State.walkTakesDrag
  split
  · exact .kept
  · exact hforced
  · exact hforced
  · exact hforced
  · exact .kept
  all_goals exact .refl s

theorem State.dutiesTake_asks (s : State) (n : Station) (f : ReportFields) :
    Asks o s (s.dutiesTake n f) := by
  have hdrag (t : State) (w : WalkState) : Asks o t (if t.is .drag then t.dragTakesWalk w else t) :=
    .guarded fun _ => .kept
  have hheld (t : State) (w : WalkState) : Asks o t (if t.heldByWalk then t.walkActive w else t) :=
    .guarded fun _ => .kept
  exact (Asks.guarded fun _ => s.walkTakesDrag_asks n).trans
    (.guarded fun _ => (hdrag _ _).trans (hheld _ _))

theorem State.raiseUnlisted_asks (s : State) (n : Station) (old : PeerEntry) :
    Asks o s (s.raiseUnlisted n old) :=
  .guarded fun _ => s.raiseWarn_asks _ _

theorem State.raiseMismatch_asks (s : State) (n : Station) (old : PeerEntry) :
    Asks o s (s.raiseMismatch n old) :=
  .guarded fun _ => s.raiseTrip_asks _ _

/-- A report is taken into the entry of another station (R35). -/
theorem State.acceptReport_asks (s : State) {n : Station} (hn : o ≠ some n) (seq : BitVec 4)
    (role : BitVec 3) (f : ReportFields) : Asks o s (s.acceptReport n seq role f) := by
  have htake : Asks o s (s.modEntry n fun e => e.afterReport s.now seq role f) :=
    s.modEntry_asks n _ (fun _ h => nomatch h) fun h => absurd h hn
  unfold State.acceptReport
  dsimp only
  generalize s.modEntry n _ = t at htake ⊢
  have hraised : Asks o t ((t.raiseUnlisted n (s.entry n)).raiseMismatch n (s.entry n)) :=
    (State.raiseUnlisted_asks _ _ _).trans (State.raiseMismatch_asks _ _ _)
  generalize (t.raiseUnlisted n (s.entry n)).raiseMismatch n (s.entry n) = u at hraised ⊢
  generalize (s.peers.someMark fun e => e.lostMark) = lost
  generalize (s.peers.someMark fun e => e.mismatchMark) = mismatch
  generalize (s.peers.someMark fun e => e.stopMark) = stop
  have hduties : Asks o u (((((u.findConflict n).addPeerStop stop).noteEcho n f).updateHeld n f).dutiesTake n f) :=
    (u.findConflict_asks n).trans ((State.dutiesTake_asks _ _ _).after)
  generalize State.dutiesTake _ n f = v at hduties ⊢
  have hreturns : Asks o v (((v.returnLost lost).returnStale).returnMismatch mismatch) :=
    ((v.returnLost lost).returnStale_asks.after).andThen
  generalize State.returnMismatch _ mismatch = w at hreturns ⊢
  exact (((htake.trans hraised).trans hduties).trans hreturns).trans (w.endConflict_asks.andThen)

theorem State.takeReport_asks (s : State) {n : Station} (hn : o ≠ some n) (l : List Byte) :
    Asks o s (s.takeReport n l) :=
  .ite (fun _ => .refl s) fun _ => .ite (fun _ => s.countMalformed_asks) fun _ =>
    .ite (fun _ => s.modEntry_asks n _ id fun h => absurd h hn) fun _ => s.acceptReport_asks hn _ _ _

theorem State.partnerStale_asks (s : State) (n : Station) : Asks o s (s.partnerStale n) :=
  .guarded fun _ => (State.raiseWarn_asks _ _ _).after

theorem State.walkDragStale_asks (s : State) (n : Station) : Asks o s (s.walkDragStale n) :=
  .guarded fun _ => (s.abortWalk_asks (100 + (stationNumber n : Int))).andThen

/-- Another station's entry goes STALE (R36). -/
theorem State.goStale_asks (s : State) {n : Station} (hn : o ≠ some n) : Asks o s (s.goStale n) := by
  have hage : Asks o s (s.modEntry n fun e => { e with status := .stale, staleMark := true }) :=
    s.modEntry_asks n _ (fun _ h => nomatch h) fun h => absurd h hn
  exact ((((hage.trans (.guarded fun _ => State.raiseWarn_asks _ _ _)).trans
    (State.findConflict_asks _ _)).trans (State.partnerStale_asks _ _)).trans
    (State.walkDragStale_asks _ _)).trans (State.endConflict_asks _)

theorem State.rosterLost_asks (s : State) (n : Station) : Asks o s (s.rosterLost n) :=
  .guarded fun _ => (s.raiseTrip_asks .peerLost (stationNumber n)).andThen

theorem State.walkDragAbsent_asks (s : State) (n : Station) : Asks o s (s.walkDragAbsent n) :=
  .guarded fun _ => (s.forceWalk_asks .supply).andThen

/-- Another station's entry goes ABSENT and loses its marks (R37). -/
theorem State.goAbsent_asks (s : State) {n : Station} (hn : o ≠ some n) : Asks o s (s.goAbsent n) := by
  have hage : Asks o s (s.modEntry n PeerEntry.afterAbsence) :=
    s.modEntry_asks n _ (fun _ _ => ⟨rfl, rfl, rfl⟩) fun h => absurd h hn
  unfold State.goAbsent
  dsimp only
  generalize s.modEntry n _ = t at hage ⊢
  have hlost : Asks o t (((t.rosterLost n).findConflict n).leadAbsent n) :=
    ((t.rosterLost_asks n).trans (State.findConflict_asks _ n)).andThen
  generalize State.leadAbsent _ n = u at hlost ⊢
  have hduties : Asks o u (((u.walkDragAbsent n).walkAbsentAtDrag n).dropHeldOf n) :=
    (u.walkDragAbsent_asks n).andThen
  generalize State.dropHeldOf _ n = v at hduties ⊢
  generalize (s.peers.someMark fun e => e.mismatchMark) = mismatch
  exact ((hage.trans hlost).trans hduties).trans
    (((v.returnMismatch mismatch).endConflict_asks.after).andThen)

/-- A STOP notice marks the entry of another station, which is not ABSENT (R45). -/
theorem State.stopNotice_asks (s : State) {n : Station} (hn : o ≠ some n) : Asks o s (s.stopNotice n) :=
  .guarded fun h => by
    have hpresent : (s.entry n).status ≠ .absent := by
      simp only [PeerEntry.present, Bool.and_eq_true, bne_iff_ne] at h
      exact h.2
    exact Asks.andThen (t := s.modEntry n fun e => { e with stopMark := true })
      (s.modEntry_asks n _ (fun _ habsent => absurd habsent hpresent) fun h => absurd h hn)

/-! ### Measurement and the drive regulator (Machine/Measure.lean, Machine/Drive.lean) -/

theorem State.expireTachExcess_asks (s : State) : Asks o s s.expireTachExcess :=
  .guarded fun _ => (State.raiseTrip_asks _ _ _).after

theorem State.measure_asks (s : State) (raw : Analog) : Asks o s (s.measure raw) := by
  unfold State.measure State.checkTach
  exact ((State.expireTachExcess_asks (s.formValues raw).watchTach).after).andThen

theorem State.sectorMarks_asks (s : State) (c : Int) : Asks o s (s.sectorMarks c) :=
  .guarded fun _ => .trans .kept (.ite (fun _ => State.raiseWarn_asks _ _ _) fun _ =>
    .guarded fun _ => .kept)

theorem State.driveExpiry_asks (s : State) : Asks o s s.driveExpiry :=
  .ite (fun _ => (s.sectorMarks_asks s.command).andThen (by simp [State.driveStep])
    (by simp [State.driveStep])) fun _ => .kept

theorem State.expireDisagree_asks (s : State) : Asks o s s.expireDisagree :=
  .guarded fun _ => (State.raiseTrip_asks _ _ _).after

theorem State.expireLoss_asks (s : State) : Asks o s s.expireLoss :=
  .guarded fun _ => (State.raiseTrip_asks _ _ _).after

theorem State.watchOvercurrent_asks (s : State) : Asks o s s.watchOvercurrent :=
  .ite (fun _ => .kept) fun _ => .guarded fun _ => (State.raiseTrip_asks _ _ _).after

theorem State.watchOvervoltage_asks (s : State) : Asks o s s.watchOvervoltage :=
  .ite (fun _ => .kept) fun _ => .guarded fun _ => (State.raiseTrip_asks _ _ _).after

theorem State.checkField_asks (s : State) (d : Int) : Asks o s (s.checkField d) := by
  refine .guarded fun _ => ?_
  have hloss : Asks o s ((s.watchFieldLoss d).expireLoss.expireLossClear) :=
    (((s.watchFieldLoss d).expireLoss_asks).after).andThen
  have hclear (t : State) (x : FieldCheck) : Asks o t (t.expireClear x) := .kept
  exact (((hloss.trans (State.watchOvercurrent_asks _)).trans (hclear _ _)).trans
    (State.watchOvervoltage_asks _)).trans (hclear _ _)

theorem State.checks_asks (s : State) (d : Int) : Asks o s (s.checks d) := by
  have hbrake : Asks o s s.watchBrake.expireDisagree.expireAgree :=
    (s.watchBrake.expireDisagree_asks.after).andThen
  exact hbrake.trans (State.checkField_asks _ _)

/-! ### Role logic (Machine/RoleLogic.lean) -/

theorem State.expireOverload_asks (s : State) : Asks o s s.expireOverload :=
  .guarded fun _ => (State.raiseTrip_asks _ _ _).after

theorem State.checkBoom_asks (s : State) : Asks o s s.checkBoom :=
  .guarded fun _ => (State.expireOverload_asks _).after

theorem State.requestSwing_asks (s : State) : Asks o s s.requestSwing :=
  .guarded fun _ => (State.requestProposal_asks _ _).after

theorem State.endWithdrawal_asks (s : State) : Asks o s s.endWithdrawal :=
  .guarded fun _ => ((State.raiseWithdrawn_asks s.setSwingBrake.lockSwing).after).andThen

theorem State.swingStep_asks (s : State) : Asks o s s.swingStep := by
  unfold State.swingStep
  dsimp only
  split
  · exact s.requestSwing_asks.andThen
  · exact .kept
  · exact .kept
  · exact s.endWithdrawal_asks.andThen

theorem State.failSupply_asks (s : State) (v : Int) : Asks o s (s.failSupply v) := by
  unfold State.failSupply
  exact (s.raiseTrip_asks .transferFail v).andThen

theorem State.contactorFalls_asks (s : State) : Asks o s s.contactorFalls := by
  unfold State.contactorFalls
  split
  · exact s.failSupply_asks _
  · exact .ite (fun _ => .refl s) fun _ => .kept
  · exact .kept
  · exact .refl s

theorem State.expireTransfer_asks (s : State) : Asks o s s.expireTransfer :=
  .guarded fun _ => (State.failSupply_asks _ _).after

theorem State.expireReturn_asks (s : State) : Asks o s s.expireReturn :=
  .guarded fun _ => (State.raiseTrip_asks _ _ _).after

theorem State.expireClosed_asks (s : State) : Asks o s s.expireClosed :=
  .guarded fun _ => (State.raiseTrip_asks _ _ _).after

theorem State.roleExpiry_asks (s : State) : Asks o s s.roleExpiry := by
  have hswing : Asks o s (if s.checkBoom.takesStep && s.checkBoom.swingLead then s.checkBoom.swingStep
      else s.checkBoom) :=
    s.checkBoom_asks.trans (.guarded fun _ => State.swingStep_asks _)
  exact hswing.andThen (by simp [State.roleExpiry]) (by simp [State.roleExpiry])

/-! ### The walk sequencer (Machine/Walk.lean) -/

theorem State.checkSkew_asks (s : State) : Asks o s s.checkSkew :=
  .ite (fun _ => .guarded fun _ => .kept) fun _ =>
    .guarded fun _ => (State.raiseStop_asks _ _ _).after

theorem State.walkExpiry_asks (s : State) : Asks o s s.walkExpiry :=
  .guarded fun _ => by
    unfold State.walkMoves
    have hmoves : Asks o s (if s.judgeCams.checkEnd.walk.state.moves then s.judgeCams.checkEnd.walkReferences
        else s.judgeCams.checkEnd) := .ite (fun _ => .kept) fun _ => .kept
    exact (hmoves.trans (State.checkSkew_asks _)).andThen

theorem State.walkCommanded_asks (s : State) : Asks o s s.walkCommanded := by
  have hbegin : Asks o s s.beginWalk :=
    .ite (fun _ => .refl s) fun _ => (State.requestProposal_asks _ _).after
  unfold State.walkCommanded
  split
  · exact hbegin
  · exact .guarded fun _ => .kept
  · exact .guarded fun _ => .kept
  all_goals exact .refl s

theorem State.expireStopHold_asks (s : State) : Asks o s s.expireStopHold :=
  .guarded fun _ => (State.forceWalk_asks _ _).after

theorem State.expireSupplyLimit_asks (s : State) : Asks o s s.expireSupplyLimit :=
  .guarded fun _ => (State.raiseWarn_asks _ _ _).after

/-! ### The heat monitor (Machine/Heat.lean) -/

theorem State.formLevel_asks (s : State) : Asks o s s.formLevel := by
  unfold State.formLevel
  exact .ite (fun _ => (State.raiseWarn_asks _ _ _).after) fun _ => .ite (fun _ => .kept) fun _ => .kept

theorem State.expireDerate_asks (s : State) : Asks o s s.expireDerate := by
  refine .guarded fun _ => ?_
  split
  · exact .guarded fun _ => (State.formLevel_asks _).after
  · exact .guarded fun _ => (State.formLevel_asks _).after
  · exact .refl s

theorem State.checkOverheat_asks (s : State) : Asks o s s.checkOverheat :=
  .ite (fun _ => .guarded fun _ => .kept) fun _ =>
    .guarded fun _ => (State.raiseTrip_asks _ _ _).after

theorem State.heatExpiry_asks (s : State) : Asks o s s.heatExpiry :=
  .guarded fun _ => ((State.expireDerate_asks _).after).trans (State.checkOverheat_asks _)

theorem State.forceLevel_asks (s : State) (n : Nat) : Asks o s (s.forceLevel n) :=
  (State.formLevel_asks _).after

/-! ### The expiry (Machine/Expiry.lean) -/

theorem State.expiryWork_asks (s : State) (raw : Analog) : Asks o s (s.expiryWork raw) := by
  have hstep : Asks o s (s.expiryStep raw) :=
    ((State.measure_asks _ _).after).trans (State.driveExpiry_asks _)
  have hduties (u : State) : Asks o u u.roleExpiry.walkExpiry.heatExpiry.neutralExpiry :=
    (((u.roleExpiry_asks).trans (State.walkExpiry_asks _)).trans (State.heatExpiry_asks _)).andThen
  exact (hstep.trans (State.checks_asks _ _)).trans (hduties _)

theorem State.captureWork_asks (s : State) (v : Sample) : Asks o s (s.captureWork v) :=
  ((State.decideDue_asks _).after).trans (State.endPost_asks _)

theorem State.regulationExpiry_asks (s : State) (raw : Analog) : Asks o s (s.regulationExpiry raw) := by
  refine .guarded fun _ => ?_
  unfold State.regulationWork
  refine .ite (fun _ => ?_) fun _ => (s.expiryWork_asks raw).andThen
  have hstore := (s.expiryWork_asks (o := o) raw).andThen (u := (s.expiryWork raw).withStore s.capture) rfl rfl
  exact (hstore.trans (State.captureWork_asks _ (s.expirySample raw))).andThen rfl rfl

end

end Sys2Proof.Machine
end


section
/-!
PROOFS. Every command keeps queue and peer table sound; O55.
-/

set_option Elab.async false

namespace Sys2Proof.Machine

section

variable {o : Option Station}

/-! ### The link controller (Machine/Link.lean, Machine/Receive.lean) -/

/-- Updates of queued frames that leave their contents. -/
theorem map_frame_unmarked (l : List Queued) :
    (l.map fun q => { q with inTx := false, replaced := false }).map (fun q => q.frame) =
      l.map fun q => q.frame := by
  simp [Function.comp_def]

theorem markHead_frames (l : List Queued) :
    (markHead l).map (fun q => q.frame) = l.map fun q => q.frame := by
  cases l <;> rfl

/-- The same frames wait in the same order. -/
theorem Tidy.of_frames {s t : State}
    (hq : (t.link.queue.map fun q => q.frame) = s.link.queue.map fun q => q.frame)
    (hp : t.peers.entries = s.peers.entries := by rfl) : Tidy o s t :=
  .of_sublist (by rw [hq]) hp

/-- A level that settles before touches neither link controller nor entries. -/
theorem Asks.tidyAfter {s t u : State} (h : Asks o t u) (hl : t.link = s.link := by rfl)
    (hp : t.peers.entries = s.peers.entries := by rfl) : Tidy o s u :=
  (h.after hl hp).toTidy

/-- The link controller changes beside its queue. -/
theorem State.modLink_tidy (s : State) (f : LinkController → LinkController)
    (h : (f s.link).queue = s.link.queue := by rfl) : Tidy o s (s.modLink f) :=
  .of_sublist (by rw [State.modLink_link, h]) rfl

theorem State.startTransmission_tidy (s : State) : Tidy o s s.startTransmission := by
  unfold State.startTransmission
  split
  · exact .refl s
  · exact .guarded fun _ => .of_frames (markHead_frames _)

theorem State.stopDriving_tidy (s : State) : Tidy o s s.stopDriving :=
  .of_frames (map_frame_unmarked _)

theorem State.takeCompleted_tidy (s : State) : Tidy o s s.takeCompleted := by
  refine .of_sublist ?_ rfl
  have hframes : (s.takeCompleted.link.queue.map fun q => q.frame) =
      (s.link.queue.filter fun q => !q.inTx || q.replaced).map fun q => q.frame :=
    map_frame_unmarked _
  rw [hframes]
  exact List.filter_sublist.map _

theorem State.discardQueue_tidy (s : State) : Tidy o s s.discardQueue :=
  .of_sublist (List.nil_sublist _) (by simp)

theorem State.loseContest_tidy (s : State) : Tidy o s s.loseContest := by
  unfold State.loseContest
  split
  · exact s.stopDriving_tidy.trans (State.modLink_tidy _ _)
  · exact .refl s

theorem State.declareFault_tidy (s : State) : Tidy o s s.declareFault := by
  unfold State.declareFault
  dsimp only
  exact (s.discardQueue_tidy.trans
    (s.discardQueue.modLink_tidy fun l => { l with quietOut := some s.now, failCount := 0 })).trans
    ((State.raiseTrip_asks _ .linkFault 16).trans (.kept (by simp) (by simp))).toTidy

theorem State.failTransmission_tidy (s : State) : Tidy o s s.failTransmission := by
  unfold State.failTransmission
  split
  · exact (s.stopDriving_tidy.trans (State.modLink_tidy _ _)).trans
      (.guarded fun _ => State.declareFault_tidy _)
  · exact .refl s

theorem State.useCompletion_asks (s : State) (f : OutFrame) : Asks o s (s.useCompletion f) := by
  unfold State.useCompletion
  split
  · exact .kept
  · exact .kept
  · exact .guarded fun _ => .kept
  all_goals exact .refl s

theorem State.completeTransmission_tidy (s : State) : Tidy o s s.completeTransmission := by
  unfold State.completeTransmission
  split
  · exact s.takeCompleted_tidy.trans (State.useCompletion_asks _ _).toTidy
  · exact .refl s

theorem State.endQuietOut_tidy (s : State) : Tidy o s s.endQuietOut :=
  .guarded fun _ => (State.modLink_tidy _ _).trans (State.reportEvent_asks _).toTidy

theorem State.clash_tidy (s : State) (src : BitVec 4) : Tidy o s (s.clash src) := by
  have hraise (t : State) : Tidy o t (if s.link.clashTimer.isSome then t
      else t.raiseStop .addressClash src.toNat) :=
    (Asks.ite (fun _ => .refl t) fun _ => t.raiseStop_asks _ _).toTidy
  exact (s.modLink_tidy _).trans (hraise _)

theorem State.expireClash_tidy (s : State) : Tidy o s s.expireClash :=
  .guarded fun _ => (s.modLink_tidy fun l => { l with clashTimer := none }).trans (Asks.kept).toTidy

/-! ### A frame received (R26 to R29) -/

/-- A good frame of another station is handed on. -/
theorem State.receive_tidy (s : State) (f : Frame) (hand : State → State)
    (h : s.offends f = false → Asks o s (hand s)) : Tidy o s (s.receive f hand) := by
  unfold State.receive
  split
  · exact .refl s
  · refine Tidy.trans (t := if s.offends f then s.clash f.src
        else if !frameFits f then s.countMalformed else hand s) ?_ (State.modLink_tidy _ _)
    split
    · exact s.clash_tidy _
    · next hf =>
      split
      · exact s.countMalformed_asks.toTidy
      · exact (h (by simpa using hf)).toTidy

/-- The station with number `n` is the one whose address is `n`. -/
theorem stationAddress_of_stationOf {a : BitVec 4} {n : Station} (h : stationOf a.toNat = some n) :
    a = stationAddress n := by
  unfold stationOf at h
  split at h
  · obtain rfl := Option.some.inj h
    refine BitVec.eq_of_toNat_eq ?_
    simp only [stationAddress, stationNumber, BitVec.toNat_ofNat]
    omega
  · exact absurd h nofun

/-- The sender of a frame that does not offend is another station (R27). -/
theorem State.self_ne_of_offends {s : State} {f : Frame} {n : Station} (hf : s.offends f = false)
    (hn : stationOf f.src.toNat = some n) : s.self ≠ some n := fun hself => by
  simp [State.offends, hself, stationAddress_of_stationOf hn] at hf

theorem State.handReport_asks {s : State} {f : Frame} (hf : s.offends f = false) :
    Asks s.self s (s.handReport f) := by
  unfold State.handReport
  split
  · next hn => exact s.takeReport_asks (State.self_ne_of_offends hf hn) _
  · exact .refl s

theorem State.handPropose_asks (s : State) (f : Frame) : Asks o s (s.handPropose f) := by
  unfold State.handPropose
  split
  · dsimp only
    split
    · exact .ite (fun _ => s.countMalformed_asks) fun _ => s.takePropose_asks _ _ _
    · exact s.countMalformed_asks
  · exact .refl s

theorem State.handObject_asks (s : State) (f : Frame) : Asks o s (s.handObject f) := by
  unfold State.handObject
  split
  · dsimp only
    split
    · exact .ite (fun _ => s.countMalformed_asks) fun _ => s.takeObject_asks _ _ _ _
    · exact s.countMalformed_asks
  · exact .refl s

theorem State.takeNotice_asks (s : State) {n : Station} (hn : o ≠ some n) (c : AlarmCode) (v : Word16)
    (b : Bool) (q : Word16) : Asks o s (s.takeNotice n c v b q) := by
  have harm (t : State) : Asks o t (if b && t.inService then t.captureArm ⟨n, q⟩ none else t) :=
    .guarded fun _ => .kept
  have hmark (t : State) : Asks o t (if c.severity = .stop then t.stopNotice n else t) :=
    .guarded fun _ => t.stopNotice_asks hn
  exact ((hmark _).trans (harm _)).after

theorem State.handNotice_asks {s : State} {f : Frame} (hf : s.offends f = false) :
    Asks s.self s (s.handNotice f) := by
  unfold State.handNotice
  split
  · next hn =>
    split
    · exact .ite (fun _ => s.takeNotice_asks (State.self_ne_of_offends hf hn) _ _ _ _) fun _ =>
        s.countMalformed_asks
    · exact s.countMalformed_asks
  · exact .refl s

theorem State.handKeep_asks (s : State) (f : Frame) : Asks o s (s.handKeep f) := by
  unfold State.handKeep
  dsimp only
  split
  · exact .ite (fun _ => s.countMalformed_asks) fun _ => .guarded fun _ => s.takeKeepNotice_asks _
  · exact s.countMalformed_asks

/-! ### The service logic (Machine/Service.lean) -/

theorem State.serve_asks (s : State) (code : Byte) (work : State → State × Reply)
    (hw : ∀ u, Asks o u (work u).1) : Asks o s (s.serve code work) :=
  .ite (fun _ => .refl s) fun _ =>
    .ite (fun _ => .ite (fun _ => .refl s) fun _ => s.queueFrame_asks _) fun _ =>
      ((hw _).after).trans (State.queueFrame_asks _ _)

theorem State.request_tidy (s : State) (h : Header) (code : Byte) (args : List Byte)
    (work : State → State × Reply) (hw : ∀ u, Asks o u (work u).1) :
    Tidy o s (s.request h code args work) := by
  refine s.receive_tidy _ _ fun _ => ?_
  unfold State.handRequest
  split
  · exact .guarded fun _ => s.serve_asks _ _ hw
  · exact .refl s

theorem workAck_asks (args : List Byte) (s : State) : Asks o s (workAck args s).1 := by
  unfold workAck
  split
  · exact .refl s
  · exact .kept

theorem workRelease_asks (args : List Byte) (s : State) : Asks o s (workRelease args s).1 := by
  unfold workRelease
  split
  · exact .refl s
  · split
    · exact .kept
    · exact .refl s

theorem workForce_asks (args : List Byte) (s : State) : Asks o s (workForce args s).1 := by
  unfold workForce
  split
  · split
    · exact s.forceLevel_asks _
    · exact .refl s
  · exact .refl s

/-! ### Edges and the end of LISTEN -/

theorem State.supplyRises_asks (s : State) : Asks o s s.supplyRises := by
  unfold State.supplyRises
  exact .kept

theorem State.permitRises_asks (s : State) : Asks o s s.permitRises := by
  unfold State.permitRises
  exact .kept

theorem State.permitFalls_asks (s : State) : Asks o s s.permitFalls := .guarded fun _ => .kept

theorem State.ackRises_asks (s : State) : Asks o s s.ackRises := .ite (fun _ => .refl s) fun _ => .kept

theorem State.limitFalls_asks (s : State) : Asks o s s.limitFalls := .guarded fun _ => .kept

theorem State.homeLeftRises_asks (s : State) : Asks o s s.homeLeftRises := .guarded fun _ => .kept

theorem State.homeRightRises_asks (s : State) : Asks o s s.homeRightRises := .guarded fun _ => .kept

theorem State.feedbackRises_asks (s : State) : Asks o s s.feedbackRises := .guarded fun _ => .kept

theorem State.feedbackFalls_asks (s : State) : Asks o s s.feedbackFalls :=
  .guarded fun _ => s.contactorFalls_asks

theorem State.walkCmdRises_asks (s : State) : Asks o s s.walkCmdRises :=
  .guarded fun _ => s.walkCommanded_asks

theorem State.walkCmdFalls_asks (s : State) : Asks o s s.walkCmdFalls := .guarded fun _ => .kept

theorem State.walkStopRises_asks (s : State) : Asks o s s.walkStopRises := .guarded fun _ => .kept

theorem State.walkStopFalls_asks (s : State) : Asks o s s.walkStopFalls := .guarded fun _ => .kept

theorem State.limitRises_asks (s : State) : Asks o s s.limitRises := by
  refine .guarded fun _ => ?_
  split
  · exact (State.raiseWarn_asks _ _ _).after
  · exact .kept
  all_goals exact .refl s

theorem State.countEdge_asks (s : State) (x : PairId) (y : Phase) (us : Nat) :
    Asks o s (s.countEdge x y us) := by
  cases x
  · exact .ite (fun _ => .kept rfl rfl) fun _ => .kept rfl rfl
  · exact .ite (fun _ => .kept rfl rfl) fun _ => .kept rfl rfl

theorem State.skipEdge_asks (s : State) (x : PairId) : Asks o s (s.skipEdge x) :=
  .ite (fun _ => .kept rfl rfl) fun _ => .kept rfl rfl

theorem State.settleSupplyOk_asks (s : State) (x : Bool) : Asks o s (s.settleSupplyOk x) := by
  unfold State.settleSupplyOk
  exact .ite (fun _ => .refl s) fun _ => .kept

theorem State.endListen_asks (s : State) : Asks o s s.endListen :=
  .guarded fun _ =>
    ((State.firstWriteBlock_asks s.listenDone).trans
      (State.ownReport_asks s.listenDone.firstWriteBlock.startReportTimer).after).after rfl rfl

/-! ### The load and the resets -/

/-- A good load changes of the entries only what the roster gives them (R31). -/
theorem State.goodLoad_asks (s : State) (b : List Byte) (n : Station) : Asks o s (s.goodLoad b n) := by
  have hstart := s.goodLoad_startUp b n
  simp only [State.startUp, Prod.mk.injEq] at hstart
  obtain ⟨hlink, hpeers, -⟩ := hstart
  have hentry (k : Station) : ∃ x y z, (s.goodLoad b n).entry k =
      { s.entry k with unlisted := x, expected := y, place := z } := by
    have hk : (s.goodLoad b n).entry k = (s.peers.enlist (rosterIn b)).entries[k] := by
      rw [State.entry, hpeers]
      rfl
    rw [hk, PeerTable.enlist_entry]
    split
    · exact ⟨_, _, _, rfl⟩
    · exact ⟨_, _, _, rfl⟩
  have hsame : (s.goodLoad b n).link = s.link := hlink
  refine ⟨⟨fun h => h.of_sublist (by rw [hsame]), fun k h => ?_, fun k _ h => ?_⟩, by rw [hsame]⟩
  · obtain ⟨x, y, z, he⟩ := hentry k
    rw [he]
    exact h
  · obtain ⟨x, y, z, he⟩ := hentry k
    rw [he]
    exact h

theorem State.loadBlock_asks (s : State) (memory : List Byte) : Asks o s (s.loadBlock memory) := by
  rcases s.loadBlock_cases memory with h | ⟨-, n, r, -, -, h⟩
  · rw [h]
    exact .refl s
  · rw [h]
    exact .ite (fun _ => s.goodLoad_asks _ _) fun _ => s.raiseStop_asks _ _

theorem State.readStraps_asks (s : State) (x : Straps) : Asks o s (s.readStraps x) :=
  .ite (fun _ => .kept) fun _ => (State.enterStop_asks _).after

end

/-- The queue and both sorts of entries are as O55 asks. -/
structure State.TableSound (s : State) : Prop where
  queue : s.QueueSound
  unmarked : s.AbsentUnmarked
  clean : s.OwnEntryClean

/-- With an empty queue and every entry as R31 has it, a strap read leaves all sound. -/
theorem State.readStraps_tableSound {s : State} (hlink : s.link = LinkController.reset)
    (hpeers : s.peers = PeerTable.reset) (x : Straps) : (s.readStraps x).TableSound := by
  have hentry (n : Station) : s.entry n = PeerEntry.reset := by
    rw [State.entry, hpeers]
    exact Vector.getElem_replicate n.isLt
  have hqueue : s.QueueSound := by
    rw [State.queueSound_iff, hlink]
    exact ⟨Nat.zero_le _, rfl, .nil⟩
  have hasks := s.readStraps_asks (o := (s.readStraps x).self) x
  refine ⟨hasks.queue hqueue, fun n => hasks.unmarked n ?_, fun n hn => hasks.clean n hn ?_⟩
  · rw [hentry]
    exact fun _ => ⟨rfl, rfl, rfl⟩
  · rw [hentry]
    exact ⟨nofun, rfl, rfl, rfl, rfl, rfl, rfl, rfl⟩

/-! ### O55 -/

/-- Every command but a reset keeps queue and entries sound. -/
theorem exec_tidy (c : Instr) (s : State) (hreset : c.isReset = false) :
    Completes c s (Tidy s.self s) := by
  cases c with
  | powerOnReset x => exact absurd hreset (by simp [Instr.isReset])
  | localReset x => exact absurd hreset (by simp [Instr.isReset])
  | parameterBlockLoaded m => exact ⟨_, rfl, (s.loadBlock_asks m).toTidy⟩
  | listenExpiry => exact ⟨_, rfl, s.endListen_asks.toTidy⟩
  | reportTimerExpiry => exact ⟨_, rfl, .guarded fun _ => s.reportEvent_asks.toTidy⟩
  | unconfiguredReportExpiry => exact ⟨_, rfl, .guarded fun _ => s.reportEvent_asks.toTidy⟩
  | regulationIntervalExpiry raw => exact ⟨_, rfl, (s.regulationExpiry_asks raw).toTidy⟩
  | neutralTimeElapsed => exact ⟨_, rfl, (Asks.kept).toTidy⟩
  | runPermitRise => exact ⟨_, rfl, (s.settleRunPermit true).permitRises_asks.tidyAfter⟩
  | runPermitFall => exact ⟨_, rfl, (s.settleRunPermit false).permitFalls_asks.tidyAfter⟩
  | ackRise => exact ⟨_, rfl, (s.settleAck true).ackRises_asks.tidyAfter⟩
  | limitRise => exact ⟨_, rfl, (s.settleLimit true).limitRises_asks.tidyAfter⟩
  | limitFall => exact ⟨_, rfl, (s.settleLimit false).limitFalls_asks.tidyAfter⟩
  | homeLRise => exact ⟨_, rfl, (s.settleHomeL true).homeLeftRises_asks.tidyAfter⟩
  | homeRRise => exact ⟨_, rfl, (s.settleHomeR true).homeRightRises_asks.tidyAfter⟩
  | contactorFbRise => exact ⟨_, rfl, (s.settleContactorFb true).feedbackRises_asks.tidyAfter⟩
  | contactorFbFall =>
    exact ⟨_, rfl, (s.settleContactorFb false).feedbackFalls_asks.tidyAfter⟩
  | walkCmdRise => exact ⟨_, rfl, (s.settleWalkCmd true).walkCmdRises_asks.tidyAfter⟩
  | walkCmdFall => exact ⟨_, rfl, (s.settleWalkCmd false).walkCmdFalls_asks.tidyAfter⟩
  | walkStopRise => exact ⟨_, rfl, (s.settleWalkStop true).walkStopRises_asks.tidyAfter⟩
  | walkStopFall => exact ⟨_, rfl, (s.settleWalkStop false).walkStopFalls_asks.tidyAfter⟩
  | walkStopHoldExpiry => exact ⟨_, rfl, s.expireStopHold_asks.toTidy⟩
  | supplyOkFall =>
    exact ⟨_, rfl, ((s.settleSupplyOk_asks false).trans (State.raiseStop_asks _ _ _)).toTidy⟩
  | supplyOkRise =>
    exact ⟨_, rfl, ((s.settleSupplyOk_asks true).trans (State.supplyRises_asks _)).toTidy⟩
  | countEdge x y us => exact ⟨_, rfl, (s.countEdge_asks x y us).toTidy⟩
  | quadSkip x => exact ⟨_, rfl, (s.skipEdge_asks x).toTidy⟩
  | transmissionStart => exact ⟨_, rfl, s.startTransmission_tidy⟩
  | contestLost => exact ⟨_, rfl, s.loseContest_tidy⟩
  | transmitFailure => exact ⟨_, rfl, s.failTransmission_tidy⟩
  | completionEvent => exact ⟨_, rfl, s.completeTransmission_tidy⟩
  | quietOutExpiry => exact ⟨_, rfl, s.endQuietOut_tidy⟩
  | frameLengthAbandoned n => exact ⟨_, rfl, .guarded fun _ => s.countMalformed_asks.toTidy⟩
  | frameBad f x y =>
    exact ⟨_, rfl, .guarded fun _ => (s.modLink_tidy _).trans (State.modLink_tidy _ _)⟩
  | frameOwnAddress f =>
    exact ⟨_, rfl, .guarded fun _ => (s.clash_tidy _).trans (State.modLink_tidy _ _)⟩
  | addressClashReturnExpiry => exact ⟨_, rfl, s.expireClash_tidy⟩
  | frameMalformed f => exact ⟨_, rfl, s.receive_tidy _ _ fun _ => .refl s⟩
  | stateReport h l => exact ⟨_, rfl, s.receive_tidy _ _ State.handReport_asks⟩
  | propose h l => exact ⟨_, rfl, s.receive_tidy _ _ fun _ => s.handPropose_asks _⟩
  | object h l => exact ⟨_, rfl, s.receive_tidy _ _ fun _ => s.handObject_asks _⟩
  | sendLimitExpiry => exact ⟨_, rfl, s.expireSendLimit_asks.toTidy⟩
  | windowExpiry => exact ⟨_, rfl, s.expireWindow_asks.toTidy⟩
  | alarmNotice h l => exact ⟨_, rfl, s.receive_tidy _ _ State.handNotice_asks⟩
  | keepNotice h l => exact ⟨_, rfl, s.receive_tidy _ _ fun _ => s.handKeep_asks _⟩
  | serviceReply h l => exact ⟨_, rfl, s.receive_tidy _ _ fun _ => .refl s⟩
  | readStatus h l => exact ⟨_, rfl, s.request_tidy _ _ _ _ Asks.refl⟩
  | readPeer h l => exact ⟨_, rfl, s.request_tidy _ _ _ _ Asks.refl⟩
  | readCounters h l => exact ⟨_, rfl, s.request_tidy _ _ _ _ Asks.refl⟩
  | readAlarms h l => exact ⟨_, rfl, s.request_tidy _ _ _ _ Asks.refl⟩
  | ackAlarms h l => exact ⟨_, rfl, s.request_tidy _ _ _ _ (workAck_asks l)⟩
  | readCaptureHeader h l => exact ⟨_, rfl, s.request_tidy _ _ _ _ Asks.refl⟩
  | readCaptureSamples h l => exact ⟨_, rfl, s.request_tidy _ _ _ _ Asks.refl⟩
  | releaseCapture h l => exact ⟨_, rfl, s.request_tidy _ _ _ _ (workRelease_asks l)⟩
  | forceDerate h l => exact ⟨_, rfl, s.request_tidy _ _ _ _ (workForce_asks l)⟩
  | serviceRequestUnknownCode h x l =>
    refine ⟨_, rfl, ?_⟩
    split
    · exact .refl s
    · exact s.request_tidy _ _ _ _ Asks.refl
  | entryGoesStale n =>
    exact ⟨_, rfl, .guarded fun h => (s.goStale_asks (by simp_all [State.staleDue])).toTidy⟩
  | entryGoesAbsent n =>
    exact ⟨_, rfl, .guarded fun h => (s.goAbsent_asks (by simp_all [State.absentDue])).toTidy⟩
  | tachExcessExpiry => exact ⟨_, rfl, s.expireTachExcess_asks.toTidy⟩
  | tachRecoveryExpiry => exact ⟨_, rfl, (Asks.kept).toTidy⟩
  | brakeSetTimeExpiry => exact ⟨_, rfl, (Asks.kept).toTidy⟩
  | brakeDisagreeExpiry => exact ⟨_, rfl, s.expireDisagree_asks.toTidy⟩
  | brakeAgreeExpiry => exact ⟨_, rfl, (Asks.kept).toTidy⟩
  | fieldLossTimeExpiry => exact ⟨_, rfl, s.expireLoss_asks.toTidy⟩
  | fieldLossClearExpiry => exact ⟨_, rfl, (Asks.kept).toTidy⟩
  | overcurrentClearExpiry x => exact ⟨_, rfl, (Asks.kept).toTidy⟩
  | boomOverloadTimeExpiry => exact ⟨_, rfl, s.expireOverload_asks.toTidy⟩
  | swingRestExpiry => exact ⟨_, rfl, (Asks.kept).toTidy⟩
  | deratePersistenceExpiry => exact ⟨_, rfl, s.expireDerate_asks.toTidy⟩
  | supplyLimitExpiry => exact ⟨_, rfl, s.expireSupplyLimit_asks.toTidy⟩
  | transferLimitExpiry => exact ⟨_, rfl, s.expireTransfer_asks.toTidy⟩
  | returnLimitExpiry => exact ⟨_, rfl, s.expireReturn_asks.toTidy⟩
  | closedFeedbackLimitExpiry => exact ⟨_, rfl, s.expireClosed_asks.toTidy⟩
  | endTimeExpiry => exact ⟨_, rfl, (Asks.kept).toTidy⟩
  | postEnd => exact ⟨_, rfl, .guarded fun _ => s.endPost_asks.toTidy⟩
  | decisionEntryDue => exact ⟨_, rfl, .guarded fun _ => s.decideDue_asks.toTidy⟩
  | keepDeadlineExpiry i => exact ⟨_, rfl, (Asks.kept).toTidy⟩
  | brakeFbEdge level => exact ⟨_, rfl, (Asks.refl (s.settleBrakeFb level)).tidyAfter⟩

/-- Every command keeps each of the three parts of O55. -/
theorem exec_keeps_table (c : Instr) (s : State) :
    Completes c s fun t => (s.QueueSound → t.QueueSound) ∧ (s.AbsentUnmarked → t.AbsentUnmarked)
      ∧ (s.OwnEntryClean → t.OwnEntryClean) := by
  have hsound {t : State} (ht : t.TableSound) : (s.QueueSound → t.QueueSound)
      ∧ (s.AbsentUnmarked → t.AbsentUnmarked) ∧ (s.OwnEntryClean → t.OwnEntryClean) :=
    ⟨fun _ => ht.queue, fun _ => ht.unmarked, fun _ => ht.clean⟩
  cases hreset : c.isReset with
  | true =>
    cases c with
    | powerOnReset x => exact ⟨_, rfl, hsound (State.readStraps_tableSound rfl rfl x)⟩
    | localReset x => exact ⟨_, rfl, hsound (State.readStraps_tableSound rfl rfl x)⟩
    | _ => exact absurd hreset nofun
  | false =>
    obtain ⟨t, ht, htidy⟩ := exec_tidy c s hreset
    obtain ⟨t', ht', -, hctl⟩ := commandsAnswer c s
    obtain rfl : t = t' := by simpa [ht] using ht'
    obtain ⟨-, hstraps, -⟩ := hctl hreset
    have hself : t.self = s.self := by
      unfold State.self
      rw [hstraps]
    exact ⟨t, ht, htidy.queue, fun h n => htidy.unmarked n (h n),
      fun h n hn => htidy.clean n (hself ▸ hn) (h n (hself ▸ hn))⟩

/-- Settles O55: every command but a reset is `Tidy`, a reset starts from an empty queue and entries all ABSENT,
and a tick touches neither. -/
theorem queueAndTableKept : Obligations.QueueAndTableKept := by
  unfold Obligations.QueueAndTableKept
  intro s t hstep
  unfold step at hstep
  split at hstep
  · obtain rfl : s.tick = t := by simpa using hstep
    exact ⟨id, id, id⟩
  · next c rest _ =>
    obtain ⟨t', ht', hkeep⟩ := exec_keeps_table c { s with pending := rest }
    obtain rfl : t' = t := by simpa [ht'] using hstep
    exact hkeep

end Sys2Proof.Machine
end

section
/-!
PROOFS. Transmissions begun and lost, and received frames that leave no more than a counter; O20 and O24.
-/

set_option Elab.async false

namespace Sys2Proof.Machine

/-! ### The start and the loss of a transmission (R17, R18) -/

/-- A station that may send marks the head of its queue and sends it (R17). -/
theorem State.startTransmission_of_head {s : State} {q : Queued} {l : List Queued} (hlink : s.onLink = true)
    (hquiet : s.link.quietOut = none) (hsend : s.link.sending = none) (hq : s.link.queue = q :: l) :
    s.startTransmission = s.modLink fun k =>
      { k with
        queue := { q with inTx := true, replaced := false } :: l
        sending := some ⟨q.frame, lineBits (q.frame.toFrame s.sourceNumber)⟩ } := by
  unfold State.startTransmission State.modLink
  simp [hlink, hquiet, hsend, hq, markHead]

/-- No transmission starts in quiet-out (R25). -/
theorem State.startTransmission_of_quiet {s : State} (h : s.link.quietOut.isSome = true) :
    s.startTransmission = s := by
  unfold State.startTransmission
  split
  · rfl
  · exact if_neg (by simp [Option.isNone_eq_false_iff.mpr h])

/-- A station that loses the contest stops driving and counts it (R18). -/
theorem State.loseContest_of_sending {s : State} {x : Transmission} (h : s.link.sending = some x) :
    s.loseContest = s.stopDriving.modLink fun l => { l with arbLost := satInc l.arbLost } := by
  unfold State.loseContest
  rw [h]

/-- Settles O20: both events are written out by `startTransmission_of_head` and `loseContest_of_sending`. -/
theorem startAndContest : Obligations.StartAndContest := by
  unfold Obligations.StartAndContest
  refine ⟨fun s q l hlink hquiet hsend hq => ⟨_, rfl, ?_⟩, fun s x hx => ⟨_, rfl, ?_⟩⟩
  · exact State.startTransmission_of_head hlink hquiet hsend hq
  · rw [State.loseContest_of_sending hx]
    exact ⟨rfl, rfl⟩

/-! ### A frame that arrives (R26 to R29) -/

theorem State.receive_of_deaf {s : State} (h : s.receives = false) (f : Frame) (hand : State → State) :
    s.receive f hand = s := by
  unfold State.receive
  simp [h]

theorem State.request_of_deaf {s : State} (h : s.receives = false) (hd : Header) (code : Byte)
    (args : List Byte) (work : State → State × Reply) : s.request hd code args work = s :=
  State.receive_of_deaf h _ _

/-- A good frame that does not offend, of no line of Table 2-2, counts in RX_MALFORMED (R28). -/
theorem State.receive_of_misfit {s : State} {f : Frame} (h : s.receives = true) (hf : s.offends f = false)
    (hfit : frameFits f = false) (hand : State → State) : s.receive f hand = s.malformed := by
  unfold State.receive
  simp only [h, hf, hfit, Bool.not_true, Bool.not_false, Bool.false_eq_true, if_false, if_true]
  rfl

/-- A good frame that does not offend and fits its line of Table 2-2 is handed on (R29). -/
theorem State.receive_of_fit {s : State} {f : Frame} (h : s.receives = true) (hf : s.offends f = false)
    (hfit : frameFits f = true) (hand : State → State) : s.receive f hand = (hand s).freeBuffer := by
  unfold State.receive
  simp [h, hf, hfit]

theorem frameIsBad_iff (f : Frame) (check : BitVec 16) (endField : BitVec 4) :
    frameIsBad f check endField = true ↔ check ≠ frameCheck f ∨ endField ≠ 15 := by
  unfold frameIsBad
  rw [Bool.or_eq_true, bne_iff_ne, bne_iff_ne, ne_comm]
  exact Iff.rfl

/-- What a command does where its guard fails. -/
theorem next_of_guard_false {b : Bool} (h : b = false) (s t : State) :
    (Host.Outcome.next (if b then t else s) : Host.Outcome State Fault Refusal) = .next s := by
  rw [h]
  rfl

/-- Settles O24: each frame of chapter 2-5 falls under one case of `State.receive`, or under a guard of its own. -/
theorem discardedFrames : Obligations.DiscardedFrames := by
  unfold Obligations.DiscardedFrames
  refine ⟨fun s length h hlen => ⟨_, rfl, ?_⟩, fun s f check endField h hbad => ⟨_, rfl, ?_⟩,
    fun s f h hf hfit => ?_, fun s hd payload h hf hfit => ?_,
    fun s f hd p code length check endField h => ?_⟩
  · simp only [h, maxLength, hlen, decide_true, Bool.and_self, if_true]
    rfl
  · simp only [h, (frameIsBad_iff f check endField).mpr hbad, Bool.and_self, if_true]
    rfl
  · exact congrArg _ (State.receive_of_misfit h hf hfit _)
  · exact congrArg _ (State.receive_of_fit h hf hfit _)
  · have hreceive (g : Frame) (hand : State → State) :
        (Host.Outcome.next (s.receive g hand) : Host.Outcome State Fault Refusal) = .next s :=
      congrArg _ (State.receive_of_deaf h g hand)
    refine ⟨hreceive _ _, next_of_guard_false (by simp [h]) _ _, hreceive _ _, hreceive _ _, hreceive _ _,
      hreceive _ _, hreceive _ _, hreceive _ _, hreceive _ _, hreceive _ _, hreceive _ _, hreceive _ _,
      hreceive _ _, hreceive _ _, hreceive _ _, hreceive _ _, hreceive _ _, ?_,
      next_of_guard_false (by simp [h]) _ _, next_of_guard_false (by simp [h]) _ _⟩
    exact congrArg _ ((congrArg (ite _ s) (State.request_of_deaf h _ _ _ _)).trans (ite_self s))

end Sys2Proof.Machine
end

section
/-!
PROOFS. The frames that a station builds (R15, R16); O28.
-/

set_option Elab.async false

namespace Sys2Proof.Machine

/-! ### The bits of a frame -/

@[simp] theorem msbFirst_length {n : Nat} (w : BitVec n) : (msbFirst w).length = n := by
  simp [msbFirst]

@[simp] theorem bitsOfBytes_length (l : List Byte) : (bitsOfBytes l).length = 8 * l.length := by
  induction l with
  | nil => rfl
  | cons b l ih =>
    have hcons : bitsOfBytes (b :: l) = msbFirst b ++ bitsOfBytes l := List.flatMap_cons
    rw [hcons, List.length_append, msbFirst_length, ih, List.length_cons]
    omega

@[simp] theorem checkedBits_length (f : Frame) :
    (checkedBits f).length = 20 + 8 * f.payload.length := by
  simp only [checkedBits, List.length_append, msbFirst_length, bitsOfBytes_length]

theorem lineBits_length (f : Frame) : (lineBits f).length = 41 + 8 * f.payload.length := by
  simp only [lineBits, List.length_cons, List.length_append, msbFirst_length, checkedBits_length,
    List.length_nil]
  omega

/-- The end field is the four recessive bits that follow all others (Table 2-1). -/
theorem lineBits_drop (f : Frame) :
    (lineBits f).drop (37 + 8 * f.payload.length) = [true, true, true, true] := by
  have hsplit : lineBits f = (false :: (checkedBits f ++ msbFirst (frameCheck f)))
      ++ [true, true, true, true] := rfl
  rw [hsplit]
  refine List.drop_left' ?_
  rw [List.length_cons, List.length_append, checkedBits_length, msbFirst_length]
  omega

/-! ### The form of a frame (R16, R28) -/

theorem isStationAddress_stationAddress (n : Station) : isStationAddress (stationAddress n) = true := by
  revert n
  decide

@[simp] theorem reportBytes_length (seq : BitVec 4) (role : BitVec 3) (f : ReportFields) :
    (reportBytes seq role f).length = 23 := rfl

/-- A notice of severity STOP has class 0, any other class 2, as Table 2-2 asks of its severity byte. -/
theorem alarmNotice_fits (c : AlarmCode) (v : Word16) (flag : Bool) (q : Word16) (n : Station) :
    frameFits ((OutFrame.alarmNotice c v flag q).toFrame (stationAddress n)) = true := by
  have haddr := isStationAddress_stationAddress n
  have hform (x : Severity) : let cls := BitVec.ofNat 3 (if x = .stop then 0 else 2)
      let b := byteOf x.code
      ((cls == 0 && b == 3) || (cls == 2 && (b == 1 || b == 2))) = true := by
    cases x <;> decide
  have hc := hform c.severity
  simpa [frameFits, OutFrame.toFrame, OutFrame.kind, OutFrame.cls, OutFrame.dst, OutFrame.payload, bytes16,
    byteAt, haddr] using hc

/-- Every frame that a station builds fits its line of Table 2-2, if its data fit into a payload. -/
theorem OutFrame.toFrame_fits (f : OutFrame) (n : Station) (h : f.payload.length ≤ 24) :
    frameFits (f.toFrame (stationAddress n)) = true := by
  have haddr := isStationAddress_stationAddress n
  cases f with
  | stateReport seq role x =>
    simp [frameFits, OutFrame.toFrame, OutFrame.kind, OutFrame.cls, OutFrame.dst, OutFrame.payload, haddr]
  | propose k x => exact haddr
  | object p k x => exact haddr
  | alarmNotice c v flag q => exact alarmNotice_fits c v flag q n
  | keepNotice st q => exact haddr
  | serviceReply code status data =>
    have hlen : data.length + 1 + 1 ≤ 24 := h
    simp [frameFits, OutFrame.toFrame, OutFrame.kind, OutFrame.cls, OutFrame.dst, OutFrame.payload, haddr, hlen]

/-- A frame with its own check value and a recessive end field is good (R26). -/
theorem frameIsBad_own (f : Frame) : frameIsBad f (frameCheck f) 15 = false := by
  unfold frameIsBad
  rw [bne_self_eq_false, Bool.false_or]
  rfl

/-- Settles O28: form by `OutFrame.toFrame_fits`, check by `frameIsBad_own`, length and end field by the layout of
`lineBits`. -/
theorem sentFramesFit : Obligations.SentFramesFit := by
  unfold Obligations.SentFramesFit
  intro f n h
  exact ⟨f.toFrame_fits n h, frameIsBad_own _, lineBits_length _, rfl, lineBits_drop _⟩

end Sys2Proof.Machine
end

section
/-!
PROOFS. Frames dropped at a full queue and in quiet-out; O26 and O23.
-/

set_option Elab.async false

namespace Sys2Proof.Machine

/-! ### The youngest frame of the highest class (R23) -/

theorem cls_le_highestClass {x : Queued} {l : List Queued} (h : x ∈ l) (hx : x.inTx = false) :
    ∃ c, highestClass l = some c ∧ x.cls ≤ c := by
  induction l with
  | nil => exact absurd h List.not_mem_nil
  | cons y l ih =>
    unfold highestClass
    rcases List.mem_cons.mp h with rfl | h
    · rw [hx]
      split
      · next hc => exact absurd hc Bool.false_ne_true
      · split
        · exact ⟨_, rfl, Nat.le_refl _⟩
        · exact ⟨_, rfl, Nat.le_max_right _ _⟩
    · obtain ⟨c, hc, hle⟩ := ih h
      rw [hc]
      split
      · exact ⟨c, rfl, hle⟩
      · exact ⟨_, rfl, hle.trans (Nat.le_max_left _ _)⟩

theorem highestClass_le {d : Nat} {l : List Queued} (h : ∀ x ∈ l, x.inTx = false → x.cls ≤ d) {c : Nat}
    (hc : highestClass l = some c) : c ≤ d := by
  induction l generalizing c with
  | nil => exact absurd hc nofun
  | cons y l ih =>
    have hl {c : Nat} : highestClass l = some c → c ≤ d := ih fun x hx => h x (List.mem_cons_of_mem y hx)
    unfold highestClass at hc
    split at hc
    · exact hl hc
    · next hy =>
      have hle : y.cls ≤ d := h y List.mem_cons_self (Bool.eq_false_iff.mpr hy)
      split at hc
      · exact Option.some.inj hc ▸ hle
      · next hsome => exact Option.some.inj hc ▸ Nat.max_le.mpr ⟨hl hsome, hle⟩

/-- The class of a frame not in transmission, if no such frame is above it, is the highest. -/
theorem highestClass_of_top {q : Queued} {l : List Queued} (h : q ∈ l) (hq : q.inTx = false)
    (htop : ∀ x ∈ l, x.inTx = false → x.cls ≤ q.cls) : highestClass l = some q.cls := by
  obtain ⟨c, hc, hle⟩ := cls_le_highestClass h hq
  rw [hc, Nat.le_antisymm (highestClass_le htop hc) hle]

section

variable {front back : List Queued} {q : Queued}

/-- No frame behind the last of its class is one that `youngestOf` looks for. -/
theorem not_youngest_of_behind (h : ∀ x ∈ back, x.inTx = true ∨ x.cls ≠ q.cls) :
    ∀ x ∈ back.reverse, ¬(x.cls == q.cls && !x.inTx) = true := fun x hx hp => by
  rw [Bool.and_eq_true, beq_iff_eq, Bool.not_eq_true'] at hp
  obtain ⟨hcls, htx⟩ := hp
  rcases h x (List.mem_reverse.mp hx) with hsent | hne
  · exact Bool.false_ne_true (htx.symm.trans hsent)
  · exact hne hcls

theorem reverse_split : (front ++ q :: back).reverse = back.reverse ++ q :: front.reverse := by
  rw [List.reverse_append, List.reverse_cons, List.append_assoc, List.singleton_append]

theorem youngestOf_split (hq : q.inTx = false) (h : ∀ x ∈ back, x.inTx = true ∨ x.cls ≠ q.cls) :
    youngestOf q.cls (front ++ q :: back) = some q := by
  have hnone : back.reverse.find? (fun x => x.cls == q.cls && !x.inTx) = none :=
    List.find?_eq_none.mpr (not_youngest_of_behind h)
  rw [youngestOf, reverse_split, List.find?_append, hnone, Option.none_or]
  exact List.find?_cons_of_pos (by simp [hq])

theorem removeYoungest_split (hq : q.inTx = false) (h : ∀ x ∈ back, x.inTx = true ∨ x.cls ≠ q.cls) :
    removeYoungest q.cls (front ++ q :: back) = front ++ back := by
  rw [removeYoungest, reverse_split, List.eraseP_append_right _ (not_youngest_of_behind h),
    List.eraseP_cons_of_pos (by simp [hq]), List.reverse_append, List.reverse_reverse, List.reverse_reverse]

end

/-! ### A request that is dropped -/

/-- A dropped frame is counted, and a dropped reply frees the request slot (R23, R24, R25). -/
theorem State.dropFrame_eq (s : State) (f : OutFrame) : s.dropFrame f = { s with
    link := { s.link with txDropped := satInc s.link.txDropped }
    slotFull := if f.holdsSlot then false else s.slotFull } := by
  unfold State.dropFrame State.tellUnsent
  split <;> rfl

/-- In quiet-out every request is dropped (R24). -/
theorem State.queueFrame_of_quiet {s : State} (hlink : s.onLink = true) (hquiet : s.link.quietOut.isSome = true)
    (f : OutFrame) : s.queueFrame f = s.dropFrame f := by
  unfold State.queueFrame
  rw [hlink, hquiet]
  rfl

/-- A full queue takes a frame that merges with nothing by R23. -/
theorem State.queueFrame_of_full {s : State} {f : OutFrame} (hlink : s.onLink = true)
    (hquiet : s.link.quietOut = none) (hfull : s.link.queue.length = 8)
    (hobject : ∀ x ∈ s.link.queue, x.frame.sameObject f = false)
    (hreport : f.isReport = false ∨ ∀ x ∈ s.link.queue, x.frame.isReport = false) :
    s.queueFrame f = s.joinFullQueue f := by
  have hno : (s.link.queue.any fun q => q.frame.sameObject f) = false :=
    List.any_eq_false.mpr fun x hx => Bool.eq_false_iff.mp (hobject x hx)
  have hmerge : (f.isReport && s.link.queue.any fun q => q.frame.isReport) = false := by
    rw [Bool.and_eq_false_iff]
    exact hreport.imp_right fun h => List.any_eq_false.mpr fun x hx => Bool.eq_false_iff.mp (h x hx)
  unfold State.queueFrame
  rw [hlink, hquiet, hno, hmerge, hfull]
  rfl

/-- The youngest frame of the highest class, if that is above the class of the new frame, gives way (R23). -/
theorem State.joinFullQueue_of_above {s : State} {f : OutFrame} {q : Queued}
    (hclass : highestClass s.link.queue = some q.cls) (habove : f.cls < q.cls)
    (hyoungest : youngestOf q.cls s.link.queue = some q) :
    s.joinFullQueue f = { s with
      link := { s.link with
        queue := insertByClass ⟨f, s.now, false, false⟩ (removeYoungest q.cls s.link.queue)
        txDropped := satInc s.link.txDropped }
      slotFull := if q.frame.holdsSlot then false else s.slotFull } := by
  simp only [State.joinFullQueue, hclass, habove, if_true, hyoungest, State.dropFrame_eq]
  rfl

/-- With no class above its own waiting, the new frame is dropped (R23). -/
theorem State.joinFullQueue_of_le {s : State} {f : OutFrame}
    (h : ∀ x ∈ s.link.queue, x.inTx = false → x.cls ≤ f.cls) : s.joinFullQueue f = s.dropFrame f := by
  unfold State.joinFullQueue
  split
  · rfl
  · next c hc => exact if_neg (Nat.not_lt.mpr (highestClass_le h hc))

/-- Settles O26: the displaced frame is the one that `highestClass` and `youngestOf` find. -/
theorem fullQueue : Obligations.FullQueue := by
  unfold Obligations.FullQueue
  refine ⟨fun s f front q back hlink hquiet hfull hobject hreport hsplit hq habove htop hback => ?_,
    fun s f hlink hquiet hfull hobject hreport htop => ?_⟩
  · have hmem : q ∈ s.link.queue := hsplit ▸ List.mem_append_right _ List.mem_cons_self
    rw [State.queueFrame_of_full hlink hquiet hfull hobject hreport,
      State.joinFullQueue_of_above (highestClass_of_top hmem hq htop) habove
        (hsplit ▸ youngestOf_split hq hback),
      hsplit, removeYoungest_split hq hback]
  · rw [State.queueFrame_of_full hlink hquiet hfull hobject hreport, State.joinFullQueue_of_le htop,
      State.dropFrame_eq]

/-! ### Quiet-out (R24, R25) -/

/-- The quiet-out is over and the report timer started anew, the report not yet built. -/
def State.quietOver (s : State) : State :=
  (s.modLink fun l => { l with quietOut := none }).startReportTimer

/-- After four report intervals the quiet-out ends with a report event (R25). -/
theorem State.endQuietOut_of_le {s : State} {a : Time} (hquiet : s.link.quietOut = some a)
    (hran : 4 * s.reportInterval ≤ s.since a) : s.endQuietOut = s.quietOver.ownReport :=
  if_pos (State.ran_of_le hquiet hran)

/-- Settles O23: a request in quiet-out is dropped, and its end is a report event with room in the queue. -/
theorem quietOut : Obligations.QuietOut := by
  unfold Obligations.QuietOut
  refine ⟨fun s f hlink hquiet => ?_, fun s a n hlink _ hquiet hran hroom => ⟨_, rfl, ?_⟩, fun s hquiet => ?_⟩
  · rw [State.queueFrame_of_quiet hlink hquiet, State.dropFrame_eq]
  · rw [State.endQuietOut_of_le hquiet hran]
    have hevent := State.ownReport_of_room (s := s.quietOver) hlink rfl hroom
    have hqueued := State.ownReport_queued (s := s.quietOver) hlink rfl hroom
    refine ⟨?_, ?_, ?_, hqueued⟩
    · exact (congrArg (fun t => t.link.quietOut) hevent).trans rfl
    · exact (congrArg (fun t => t.ctl.reportTimer) hevent).trans rfl
    · exact (congrArg (fun t => t.ctl.reportSeq) hevent).trans rfl
  · exact congrArg _ (State.startTransmission_of_quiet hquiet)

end Sys2Proof.Machine
end

section
/-!
PROOFS. What hold causes and mode are after a cause was added or removed, and the use of a completion; O22.
-/

set_option Elab.async false

namespace Sys2Proof.Machine

/-! ### Hold causes after their requests (R8, R9) -/

@[simp] theorem State.tryRun_causes (s : State) : s.tryRun.ctl.causes = s.ctl.causes := by
  unfold State.tryRun
  split <;> rfl

theorem State.removeCause_hasCause (s : State) (c d : HoldCause) :
    (s.removeCause c).hasCause d = if d = c then false else s.hasCause d := by
  have hput : (s.ctl.causes.put c false).has d = if d = c then false else s.hasCause d :=
    HoldCauses.has_put _ _ _ _
  rw [State.removeCause_eq]
  split
  · rw [State.hasCause, State.tryRun_causes]
    exact hput
  · exact hput

/-! ### The completed frame leaves (R19, R22) -/

/-- Every frame stays in its place, none in transmission any more. -/
def settled (l : List Queued) : List Queued :=
  l.map fun q => { q with inTx := false, replaced := false }

theorem settled_frames (l : List Queued) : (settled l).map (fun q => q.frame) = l.map fun q => q.frame :=
  map_frame_unmarked l

theorem inTx_of_mem_settled {l : List Queued} : ∀ q ∈ settled l, q.inTx = false := by
  intro q hq
  obtain ⟨x, -, rfl⟩ := List.mem_map.mp hq
  rfl

theorem State.takeCompleted_queue (s : State) :
    s.takeCompleted.link.queue = settled (s.link.queue.filter fun q => !q.inTx || q.replaced) := rfl

/-- Of a queue whose head alone is in transmission the head leaves at a completion, but for a replaced one. -/
theorem filter_completed {q : Queued} {l : List Queued} (hq : q.inTx = true)
    (hl : ∀ y ∈ l, y.inTx = false) :
    ((q :: l).filter fun q => !q.inTx || q.replaced) = if q.replaced then q :: l else l := by
  have hrest : (l.filter fun q => !q.inTx || q.replaced) = l :=
    List.filter_eq_self.mpr fun y hy => by rw [hl y hy]; rfl
  rw [List.filter_cons, hrest, hq]
  rfl

/-! ### The use of a completion (R19, R25, R51, R172) -/

theorem State.completeTransmission_of_sending {s : State} {x : Transmission}
    (h : s.link.sending = some x) : s.completeTransmission = s.takeCompleted.useCompletion x.frame := by
  unfold State.completeTransmission
  rw [h]

/-- The source of a completed frame leaves the link controller alone. -/
@[simp] theorem State.useCompletion_link (s : State) (f : OutFrame) :
    (s.useCompletion f).link = s.link := by
  unfold State.useCompletion
  split
  · simp
  · simp
  · split <;> rfl
  all_goals rfl

/-- The end of a link fault removes its cause and returns its code, and moves no other code (R25). -/
theorem State.clearFault_of_fault {s : State} (hcause : s.hasCause .linkFault = true)
    (huse : s.alarmInUse = true) :
    s.clearFault.hasCause .linkFault = false
    ∧ s.clearFault.ann .linkFault = (s.ann .linkFault).afterReturn
    ∧ ∀ c : AlarmCode, c ≠ .linkFault → s.clearFault.ann c = s.ann c := by
  have hclear : s.clearFault = (s.returnAlarm .linkFault).removeCause .linkFault := if_pos hcause
  have hann (c : AlarmCode) : s.clearFault.ann c =
      if c = .linkFault then (s.ann .linkFault).afterReturn else s.ann c := by
    rw [hclear, State.ann_congr (s := s.returnAlarm .linkFault) (by simp) c]
    exact State.returnAlarm_ann huse rfl c
  refine ⟨?_, (hann _).trans (if_pos rfl), fun c hc => (hann c).trans (if_neg hc)⟩
  rw [hclear, State.removeCause_hasCause, if_pos rfl]

/-- A completed reply that held the request slot frees it (R172). -/
theorem State.useCompletion_of_holdsSlot {f : OutFrame} (h : f.holdsSlot = true) (s : State) :
    s.useCompletion f = s.setSlot false := by
  cases f with
  | serviceReply code status data => exact if_pos h
  | _ => exact absurd h Bool.false_ne_true

/-- The completed PROPOSE of the pending number starts the objection window (R51). -/
theorem State.proposeCompleted_of_pending {s : State} {n : Byte} (hstatus : s.consent.own.status = .pending)
    (hnumber : s.consent.own.number = n) (hwindow : s.consent.own.windowStart = none) :
    s.proposeCompleted n = s.modOwn fun r =>
      { r with
        windowStart := some s.now, windowTimer := some s.now, sendLimit := none
        echoSeen := Vector.replicate 8 false } :=
  if_pos ⟨hstatus, hnumber, hwindow⟩

/-- Settles O22: what `takeCompleted` leaves of the queue, and what the source of the frame does with the
completion. -/
theorem completionTakesTheFrame : Obligations.CompletionTakesTheFrame := by
  unfold Obligations.CompletionTakesTheFrame
  refine ⟨fun s x q l hx hhead hq hl hrep => ⟨_, rfl, ?_⟩, fun s x q l hx hhead hq hl hrep => ⟨_, rfl, ?_⟩,
    fun s seq role f bits hx hcause huse => ⟨_, rfl, ?_⟩,
    fun s n k bits hx hstatus hnumber hwindow => ⟨_, rfl, ?_⟩, fun s x hx hslot => ⟨_, rfl, ?_⟩⟩
  · have hleft : s.takeCompleted.link.queue = settled l := by
      rw [State.takeCompleted_queue, hhead, filter_completed hq hl, hrep, if_neg Bool.false_ne_true]
    rw [State.completeTransmission_of_sending hx]
    dsimp only
    rw [State.useCompletion_link, hleft]
    exact ⟨settled_frames l, rfl, rfl, rfl, inTx_of_mem_settled⟩
  · have hleft : s.takeCompleted.link.queue = settled s.link.queue := by
      rw [State.takeCompleted_queue, hhead, filter_completed hq hl, if_pos hrep]
    rw [State.completeTransmission_of_sending hx]
    dsimp only
    rw [State.useCompletion_link, hleft]
    exact ⟨settled_frames _, rfl, rfl, inTx_of_mem_settled⟩
  · rw [State.completeTransmission_of_sending hx]
    exact State.clearFault_of_fault (s := s.takeCompleted) hcause huse
  · have hused : s.takeCompleted.useCompletion (.propose n k) = _ :=
      State.proposeCompleted_of_pending (s := s.takeCompleted) hstatus hnumber hwindow
    rw [State.completeTransmission_of_sending hx, hused]
    exact ⟨rfl, rfl⟩
  · rw [State.completeTransmission_of_sending hx, State.useCompletion_of_holdsSlot hslot]
    exact ⟨rfl, rfl⟩

end Sys2Proof.Machine
end

section
/-!
PROOFS. Transmit failures and the link fault; O21.
-/

set_option Elab.async false

namespace Sys2Proof.Machine

/-! ### Saturating counters -/

theorem satAdd_zero (c : Word16) : satAdd c 0 = c := by
  unfold satAdd
  bv_omega

theorem satAdd_toNat (c : Word16) (n : Nat) : (satAdd c n).toNat = min 65535 (c.toNat + n) := by
  unfold satAdd
  rw [BitVec.toNat_ofNat]
  omega

theorem satAdd_satInc (c : Word16) (n : Nat) : satAdd (satInc c) n = satAdd c (n + 1) :=
  BitVec.eq_of_toNat_eq (by rw [satAdd_toNat, satAdd_toNat, satInc_toNat]; omega)

theorem satInc_satAdd (c : Word16) (n : Nat) : satInc (satAdd c n) = satAdd c (n + 1) :=
  BitVec.eq_of_toNat_eq (by rw [satInc_toNat, satAdd_toNat, satAdd_toNat]; omega)

/-! ### The emptied queue (R24) -/

theorem State.foldl_dropFrame (l : List Queued) (s : State) :
    l.foldl (fun s q => s.dropFrame q.frame) s = { s with
      link := { s.link with txDropped := satAdd s.link.txDropped l.length }
      slotFull := if l.any fun q => q.frame.holdsSlot then false else s.slotFull } := by
  induction l generalizing s with
  | nil =>
    rw [List.length_nil, satAdd_zero]
    rfl
  | cons q l ih =>
    rw [List.foldl_cons, ih, State.dropFrame_eq, List.length_cons, List.any_cons]
    dsimp only
    rw [satAdd_satInc]
    cases q.frame.holdsSlot <;> simp

/-- Every frame of the queue is counted, and a reply among them frees the request slot. -/
theorem State.discardQueue_eq (s : State) : s.discardQueue = { s with
    link := { s.link with
      queue := [], sending := none, txDropped := satAdd s.link.txDropped s.link.queue.length }
    slotFull := if s.link.queue.any fun q => q.frame.holdsSlot then false else s.slotFull } := by
  unfold State.discardQueue
  rw [State.foldl_dropFrame]
  rfl

/-! ### A raise in quiet-out -/

/-- Station control alone says whether the station is on the link. -/
theorem State.onLink_congr {s t : State} (h : t.ctl = s.ctl) : t.onLink = s.onLink := by
  unfold State.onLink State.addressed
  rw [h]

theorem State.ne_listen_of_onLink {s : State} (h : s.onLink = true) : s.ctl.mode ≠ .listen := fun hm => by
  simp [State.onLink, hm] at h

theorem State.alarmInUse_congr {s t : State} (h : t.ctl = s.ctl) : t.alarmInUse = s.alarmInUse := by
  unfold State.alarmInUse State.strapFault
  rw [h]

/-- LOCAL_TRIP agrees with the codes, as it did before control and alarm unit were left alone. -/
theorem State.localTrip_congr {s t : State} (hc : t.ctl = s.ctl) (ha : t.alarm = s.alarm)
    (h : s.hasCause .localTrip = !s.alarm.tripsNormal) : t.hasCause .localTrip = !t.alarm.tripsNormal := by
  unfold State.hasCause at *
  rw [hc, ha, h]

/-- In quiet-out the notice of a code above WARN is dropped (R24, R155). -/
theorem State.armAndNotice_of_quiet {s : State} {c : AlarmCode} {m : Mode} (hlink : s.onLink = true)
    (hquiet : s.link.quietOut.isSome = true) (hc : c.isWarn = false) (hm : m ≠ .listen) (v : Int) :
    (s.armAndNotice c v m).link = { s.link with txDropped := satInc s.link.txDropped }
    ∧ (s.armAndNotice c v m).slotFull = s.slotFull := by
  have hasks : ¬(m = .listen ∨ (s.localArm c m).sendsNotice c = false) := by
    simp [hm, State.sendsNotice, hc]
  have hquiet' : (s.localArm c m).link.quietOut.isSome = true := by simpa using hquiet
  unfold State.armAndNotice State.askNotice
  rw [if_neg hasks, State.queueFrame_of_quiet ((State.onLink_congr (by simp)).trans hlink) hquiet', State.dropFrame_eq]
  exact ⟨by simp, by simp [OutFrame.holdsSlot]⟩

/-! ### A cause added (R8, R10) -/

@[simp] theorem State.enterHold_ctl (s : State) :
    s.enterHold.ctl = { s.ctl with mode := .hold, neutralSince := none } := by
  rw [State.enterHold_eq, State.restTarget_eq]
  split <;> simp [State.dropToHold]

theorem State.addCause_hasCause (s : State) (c d : HoldCause) :
    (s.addCause c).hasCause d = if d = c then true else s.hasCause d := by
  have hput : (s.ctl.causes.put c true).has d = if d = c then true else s.hasCause d :=
    HoldCauses.has_put _ _ _ _
  unfold State.addCause
  split
  · next h =>
    split
    · next hd => rw [hd, h]
    · rfl
  · dsimp only
    split
    · rw [State.hasCause, State.enterHold_ctl]
      exact hput
    · exact hput

/-- A cause newly added takes the station out of RUN (R10). -/
theorem State.addCause_not_run {s : State} {c : HoldCause}
    (h : s.hasCause c = true → s.ctl.mode ≠ .run) : (s.addCause c).ctl.mode ≠ .run := by
  unfold State.addCause
  split
  · next hc => exact h hc
  · dsimp only
    split
    · simp
    · next hm => exact hm

theorem State.addCause_onLink {s : State} {c : HoldCause} (h : s.onLink = true) :
    (s.addCause c).onLink = true := by
  unfold State.addCause
  split
  · exact h
  · dsimp only
    split
    · simp [State.onLink]
    · exact h

/-! ### A raise of a TRIP code (R148, R151) -/

theorem AlarmUnit.tripsNormal_of_away {a : AlarmUnit} {d : AlarmCode} (hd : d.severity = .trip)
    (h : a.stateOf d ≠ .normal) : a.tripsNormal = false := by
  have haway : a.someAway (fun c => c.severity == .trip) = true :=
    List.any_eq_true.mpr ⟨d, List.mem_of_getElem? (allCodes_getElem?_index d), by simp [hd, h]⟩
  rw [AlarmUnit.tripsNormal, haway]
  rfl

section

variable {s : State} {c d : AlarmCode}

/-- While another TRIP code is away from NORMAL a return moves no cause. -/
theorem State.returnAlarm_ctl_of_away (hd : d.severity = .trip) (hne : d ≠ c) (h : s.ann d ≠ .normal) :
    (s.returnAlarm c).ctl = s.ctl := by
  have haway : ((s.setAnn c .normal).logOwn c .returned 0).alarm.tripsNormal = false :=
    AlarmUnit.tripsNormal_of_away hd (show (s.setAnn c .normal).ann d ≠ .normal by
      rw [State.setAnn_ann_other s _ hne]
      exact h)
  unfold State.returnAlarm
  split
  · rfl
  split
  · rfl
  · rw [State.settleTrips, haway]
    rfl
  · rfl
  · rfl

theorem State.openTransfer_ctl_of_away (hd : d.severity = .trip) (hne : d ≠ .transferFail)
    (h : s.ann d ≠ .normal) : s.openTransfer.ctl = s.ctl := by
  unfold State.openTransfer State.supplyNormal
  dsimp only
  split
  · refine (State.returnAlarm_ctl_of_away hd hne ?_).trans rfl
    exact h
  · rfl

/-- The end of a supply returns TRANSFER_FAIL at most, and with another TRIP code away that moves no cause. -/
theorem State.endSupply_ctl_of_away (hd : d.severity = .trip) (hne : d ≠ .transferFail)
    (h : s.ann d ≠ .normal) : s.endSupply.ctl = s.ctl := by
  have hcleared : (s.clearReference.modRole fun r =>
      { r with supply := .returning, transferLimit := none }).openTransfer.ctl = s.ctl :=
    (State.openTransfer_ctl_of_away (s := s.clearReference.modRole fun r =>
      { r with supply := .returning, transferLimit := none }) hd hne h).trans rfl
  unfold State.endSupply
  split
  · exact hcleared
  · exact hcleared
  · rfl
  · rfl

/-- A code other than TRANSFER_FAIL stands aside from the end of a supply. -/
theorem Aside.endSupply_of_ne (hne : c ≠ .transferFail) (s : State) : Aside c 1 s s.endSupply := by
  have hopen (u : State) : Aside c 1 u u.openTransfer := by
    unfold State.openTransfer
    dsimp only
    split
    · exact (Aside.returnAlarm _ hne).after rfl
    · exact .of_alarm rfl rfl
  unfold State.endSupply
  split
  · exact (hopen _).after rfl
  · exact (hopen _).after rfl
  · exact .refl s
  · exact .refl s

theorem Aside.addLocalTrip_of_ne (hne : c ≠ .transferFail) (s : State) : Aside c 1 s s.addLocalTrip := by
  unfold State.addLocalTrip
  split
  · exact .refl s
  · exact (Aside.endSupply_of_ne hne _).after (by simp)

end

/-- Steps 1 to 3 of a raise of a TRIP code: the latch, and LOCAL_TRIP at the first (R148, R151). -/
def State.latchTrip (s : State) (c : AlarmCode) (v : Int) : State :=
  if s.alarm.tripsNormal then (s.latch c v).addLocalTrip else s.latch c v

theorem State.raiseTrip_of_inUse {s : State} (huse : s.alarmInUse = true) (c : AlarmCode) (v : Int) :
    s.raiseTrip c v = (s.latchTrip c v).armAndNotice c v s.ctl.mode :=
  if_neg (by simp [huse])

@[simp] theorem State.latchTrip_keeps (s : State) (c : AlarmCode) (v : Int) :
    (s.latchTrip c v).link = s.link ∧ (s.latchTrip c v).slotFull = s.slotFull := by
  unfold State.latchTrip State.latch
  split <;> simp [State.logOwn]

section

variable {s : State} {c : AlarmCode} (hc : c.severity = .trip) (hne : c ≠ .transferFail)
  (htrip : s.hasCause .localTrip = !s.alarm.tripsNormal)

include hc hne htrip

/-- After the first raise of a TRIP code station control is as the adding of LOCAL_TRIP left it. -/
theorem State.latchTrip_ctl (v : Int) : (s.latchTrip c v).ctl =
    if s.alarm.tripsNormal then ((s.latch c v).addCause .localTrip).ctl else s.ctl := by
  unfold State.latchTrip
  split
  · next hfirst =>
    have habsent : (s.latch c v).hasCause .localTrip = false := by
      rw [show (s.latch c v).hasCause .localTrip = s.hasCause .localTrip from rfl, htrip, hfirst]
      rfl
    have hann : ((s.latch c v).addCause .localTrip).ann c = .activeUnack :=
      (State.ann_congr (s := s.latch c v) (by simp) c).trans (s.setAnn_ann_same c .activeUnack)
    rw [State.addLocalTrip, if_neg (by simp [habsent])]
    exact State.endSupply_ctl_of_away hc hne (by rw [hann]; decide)
  · rfl

theorem State.latchTrip_tripped (hrun : s.RunIsFree) (v : Int) : (s.latchTrip c v).tripped := by
  have hctl := State.latchTrip_ctl hc hne htrip v
  cases hfirst : s.alarm.tripsNormal with
  | true =>
    rw [hfirst, if_pos rfl] at hctl
    refine ⟨?_, ?_⟩
    · rw [State.hasCause, hctl]
      exact (State.addCause_hasCause _ _ _).trans (if_pos rfl)
    · rw [hctl]
      refine State.addCause_not_run fun h => ?_
      have hpresent : s.hasCause .localTrip = true := h
      rw [htrip, hfirst] at hpresent
      exact absurd hpresent (by decide)
  | false =>
    rw [hfirst, if_neg Bool.false_ne_true] at hctl
    have hpresent : s.hasCause .localTrip = true := by rw [htrip, hfirst]; rfl
    refine ⟨?_, fun hm => ?_⟩
    · rw [State.hasCause, hctl]
      exact hpresent
    · rw [hctl] at hm
      have habsent := (HoldCauses.isEmpty_iff _).mp (hrun hm) .localTrip
      exact Bool.false_ne_true (habsent.symm.trans hpresent)

theorem State.latchTrip_onLink (hlink : s.onLink = true) (v : Int) : (s.latchTrip c v).onLink = true := by
  have hctl := State.latchTrip_ctl hc hne htrip v
  cases hfirst : s.alarm.tripsNormal with
  | true =>
    rw [hfirst, if_pos rfl] at hctl
    exact (State.onLink_congr hctl).trans (State.addCause_onLink hlink)
  | false =>
    rw [hfirst, if_neg Bool.false_ne_true] at hctl
    exact (State.onLink_congr hctl).trans hlink

end

/-- A raise of a TRIP code is ACTIVE_UNACK with its RAISED entry (R148). -/
theorem State.raiseTrip_raised {s : State} {c : AlarmCode} (hne : c ≠ .transferFail)
    (huse : s.alarmInUse = true) (v : Int) : Raised s (s.raiseTrip c v) c v := by
  have haside : Aside c 1 (s.latch c v) (s.raiseTrip c v) := by
    rw [State.raiseTrip_of_inUse huse]
    exact (Aside.guarded (n := 1) fun _ => Aside.addLocalTrip_of_ne hne _).trans
      (n := 0) (.armAndNotice _ _ _ _)
  exact ⟨haside.ann.trans (s.setAnn_ann_same c .activeUnack),
    (haside.recent _ 0 (by decide) (.of_written _ _)).mem⟩

/-- A raise is one of the whole event, if before and after it alarm unit, time and station control stay. -/
theorem Raised.congr {s s' t t' : State} {c : AlarmCode} {v : Int} (h : Raised s t c v)
    (ha : s.alarm = s'.alarm) (hn : s.now = s'.now) (hc : s.ctl = s'.ctl) (ht : t'.alarm = t.alarm) :
    Raised s' t' c v := by
  obtain ⟨hann, hentry⟩ := h
  have hsource : s.sourceNumber = s'.sourceNumber := by
    unfold State.sourceNumber State.self
    rw [hc]
  refine ⟨(State.ann_congr (congrArg AlarmUnit.table ht) c).trans hann, ?_⟩
  rw [ht, ← ha, ← hn, ← hsource]
  exact hentry

/-! ### The link fault (R20, R24) -/

/-- The link controller of a link fault: queue empty, quiet-out begun. -/
def State.linkDown (s : State) : State :=
  s.discardQueue.modLink fun l => { l with quietOut := some s.now, failCount := 0 }

theorem State.declareFault_eq (s : State) :
    s.declareFault = (s.linkDown.raiseTrip .linkFault 16).addCause .linkFault := rfl

theorem State.linkDown_link (s : State) : s.linkDown.link = { s.link with
    queue := [], sending := none, txDropped := satAdd s.link.txDropped s.link.queue.length
    quietOut := some s.now, failCount := 0 } := by
  unfold State.linkDown
  rw [State.discardQueue_eq]
  rfl

theorem State.linkDown_slotFull (s : State) : s.linkDown.slotFull =
    if s.link.queue.any fun q => q.frame.holdsSlot then false else s.slotFull := by
  unfold State.linkDown
  rw [State.discardQueue_eq]
  rfl

@[simp] theorem State.linkDown_keeps (s : State) :
    s.linkDown.now = s.now ∧ s.linkDown.ctl = s.ctl ∧ s.linkDown.alarm = s.alarm
      ∧ s.linkDown.meas = s.meas ∧ s.linkDown.heat = s.heat ∧ s.linkDown.peers = s.peers := by
  unfold State.linkDown
  simp

/-- A transmit failure before it is judged (R20). -/
def State.failed (s : State) : State :=
  s.stopDriving.modLink fun l => { l with txFail := satInc l.txFail, failCount := l.failCount + 1 }

theorem State.failTransmission_of_sending {s : State} {x : Transmission} (h : s.link.sending = some x) :
    s.failTransmission = if 16 ≤ s.link.failCount + 1 then s.failed.declareFault else s.failed := by
  unfold State.failTransmission
  rw [h]
  rfl

section

variable {s : State} (huse : s.alarmInUse = true) (htrip : s.hasCause .localTrip = !s.alarm.tripsNormal)

include huse htrip

/-- A link fault leaves of the link controller an empty queue in quiet-out, with the frames and the notice counted,
and a free request slot where a reply was discarded (R24). -/
theorem State.declareFault_link (hlink : s.onLink = true) :
    s.declareFault.link = { s.link with
      queue := [], sending := none, quietOut := some s.now, failCount := 0
      txDropped := satAdd s.link.txDropped (s.link.queue.length + 1) }
    ∧ s.declareFault.slotFull = if s.link.queue.any fun q => q.frame.holdsSlot then false else s.slotFull := by
  have hon : (s.linkDown.latchTrip .linkFault 16).onLink = true :=
    State.latchTrip_onLink rfl (by decide) (State.localTrip_congr (by simp) (by simp) htrip)
      ((State.onLink_congr (by simp)).trans hlink) 16
  have hquiet : (s.linkDown.latchTrip .linkFault 16).link.quietOut.isSome = true := by
    simp [State.linkDown_link]
  have hmode : s.linkDown.ctl.mode ≠ .listen :=
    State.ne_listen_of_onLink ((State.onLink_congr (by simp)).trans hlink)
  obtain ⟨hlost, hslot⟩ := State.armAndNotice_of_quiet (c := .linkFault) hon hquiet rfl hmode 16
  have hadd (v : State) : (v.addCause .linkFault).link = v.link ∧ (v.addCause .linkFault).slotFull = v.slotFull := by
    simp
  obtain ⟨haddLink, haddSlot⟩ := hadd (s.linkDown.raiseTrip .linkFault 16)
  have hraise := State.raiseTrip_of_inUse ((State.alarmInUse_congr (by simp)).trans huse : s.linkDown.alarmInUse = true)
    .linkFault 16
  rw [State.declareFault_eq, haddLink, haddSlot, hraise, hlost, hslot]
  simp only [State.latchTrip_keeps, State.linkDown_link, State.linkDown_slotFull, satInc_satAdd, and_self]

/-- A link fault is a raise of LINK_FAULT with value 16 that adds its own hold cause too (R24). -/
theorem State.declareFault_raised (hrun : s.RunIsFree) :
    Raised s s.declareFault .linkFault 16 ∧ s.declareFault.tripped
    ∧ s.declareFault.hasCause .linkFault = true := by
  have huse' : s.linkDown.alarmInUse = true := (State.alarmInUse_congr (by simp)).trans huse
  have hlatch : (s.linkDown.latchTrip .linkFault 16).tripped :=
    State.latchTrip_tripped rfl (by decide) (State.localTrip_congr (by simp) (by simp) htrip)
      (by simpa [State.RunIsFree] using hrun) 16
  have hctl : (s.linkDown.raiseTrip .linkFault 16).ctl = (s.linkDown.latchTrip .linkFault 16).ctl := by
    rw [State.raiseTrip_of_inUse huse']
    simp
  obtain ⟨hpresent, hmode⟩ := hlatch
  have hadded := State.addCause_hasCause (s.linkDown.raiseTrip .linkFault 16) .linkFault
  rw [State.declareFault_eq]
  refine ⟨(State.raiseTrip_raised (by decide) huse' 16).congr (by simp) (by simp) (by simp) (by simp),
    ⟨?_, State.addCause_not_run fun _ => by rwa [hctl]⟩, (hadded _).trans (if_pos rfl)⟩
  rw [hadded, if_neg (by decide), State.hasCause, hctl]
  exact hpresent

end

/-- Settles O21: a failure below the sixteenth leaves `State.failed`, the sixteenth declares a link fault from there.
-/
theorem failureAndLinkFault : Obligations.FailureAndLinkFault := by
  unfold Obligations.FailureAndLinkFault
  refine ⟨fun s x hx hfew => ⟨_, rfl, ?_⟩, fun s x hx hfifteen hlink huse hrun htrip => ⟨_, rfl, ?_⟩⟩
  · rw [State.failTransmission_of_sending hx, if_neg (by omega)]
    exact ⟨rfl, rfl⟩
  · rw [State.failTransmission_of_sending hx, if_pos (by omega)]
    obtain ⟨hlast, hslot⟩ := State.declareFault_link (s := s.failed) huse htrip hlink
    obtain ⟨hraised, htripped, hcause⟩ := State.declareFault_raised (s := s.failed) huse htrip hrun
    rw [hlast, hslot]
    refine ⟨rfl, rfl, rfl, rfl, rfl, ?_, ?_, htripped, hcause, fun ⟨q, hq, hholds⟩ => ?_, ?_, ?_, ?_⟩
    · have hlength : s.failed.link.queue.length = s.link.queue.length := List.length_map _
      rw [satAdd, hlength]
      rfl
    · exact hraised
    · have hreply : (s.failed.link.queue.any fun q => q.frame.holdsSlot) = true :=
        List.any_eq_true.mpr ⟨{ q with inTx := false, replaced := false }, List.mem_map_of_mem hq, hholds⟩
      exact if_pos hreply
    all_goals simp [State.declareFault_eq, State.failed]

end Sys2Proof.Machine
end

section
/-!
PROOFS. The address clash (R27), and what the entry to STOP leaves of the other stations' entries; O25.
-/

set_option Elab.async false

namespace Sys2Proof.Machine

/-! ### The other entries at the entry to STOP (R38) -/

/-- The straps alone say which station this is. -/
theorem State.self_congr {s t : State} (h : t.ctl.straps = s.ctl.straps) : t.self = s.self := by
  unfold State.self
  rw [h]

theorem State.self_of_frozen {s t : State} (h : t.frozen = s.frozen) : t.self = s.self := by
  simp only [State.frozen, Prod.mk.injEq] at h
  obtain ⟨-, -, hstraps, -⟩ := h
  exact State.self_congr hstraps

theorem State.entry_congr {s t : State} (h : t.peers = s.peers) (k : Station) : t.entry k = s.entry k := by
  unfold State.entry
  rw [h]

section

variable {s : State} {k : Station} (hk : s.self ≠ some k)

include hk

/-- A report fills no entry but the own one (R38). -/
theorem State.fillOwnEntry_entry (q : BitVec 4) (f : ReportFields) :
    (s.fillOwnEntry q f).entry k = s.entry k := by
  unfold State.fillOwnEntry
  split
  · next n hn =>
    split
    · exact PeerTable.entries_set_other _ _ fun hkn => hk (hkn ▸ hn)
    · rfl
  · rfl

theorem State.ownReport_entry : s.ownReport.entry k = s.entry k := by
  have hself : (s.revote.modCtl fun c => { c with reportSeq := c.reportSeq + 1 }).self = s.self :=
    State.self_congr (by simp)
  calc s.ownReport.entry k = ((s.revote.modCtl fun c => { c with reportSeq := c.reportSeq + 1 }).fillOwnEntry
          s.revote.ctl.reportSeq s.revote.reportFields).entry k := State.entry_congr (by simp [State.ownReport]) k
    _ = (s.revote.modCtl fun c => { c with reportSeq := c.reportSeq + 1 }).entry k :=
      State.fillOwnEntry_entry (hself ▸ hk) _ _
    _ = s.entry k := State.entry_congr (by simp) k

/-- The start of reporting fills no entry but the own one. -/
theorem State.startReporting_entry (m : Mode) : (s.startReporting m).entry k = s.entry k := by
  unfold State.startReporting
  split
  · have hself : s.firstWriteBlock.startReportTimer.self = s.self :=
      State.self_congr (by simp [State.startReportTimer])
    exact (State.ownReport_entry (hself ▸ hk)).trans (State.entry_congr (by simp) k)
  · split
    · have hself : s.startReportTimer.self ≠ some k := hk
      exact (State.ownReport_entry hself).trans (State.entry_congr (by simp) k)
    · rfl
  all_goals rfl

theorem State.enterStop_entry : s.enterStop.entry k = s.entry k := by
  by_cases hm : s.ctl.mode = .stop
  · rw [State.enterStop_of_stop hm]
  · have horderly : Orderly True s.halted (s.halted.stopSupply.makeSafe.stopSwing.forceWalk .stop) :=
      ((s.halted.stopSupply_orderly.trans (State.makeSafe_orderly _)).trans
        (State.stopSwing_orderly _)).trans (State.forceWalk_orderly _ _)
    have hself : (s.halted.stopSupply.makeSafe.stopSwing.forceWalk .stop).self ≠ some k :=
      State.self_of_frozen horderly.frozen ▸ hk
    rw [State.enterStop_of_ne hm, State.startReporting_entry hself]
    exact State.entry_congr (by simp [State.halted]) k

/-- A raise of a STOP code touches no entry but the own one. -/
theorem State.raiseStop_entry (c : AlarmCode) (v : Int) : (s.raiseStop c v).entry k = s.entry k := by
  unfold State.raiseStop
  split
  · rfl
  · have hlatch : (s.latch c v).enterStop.entry k = s.entry k := State.enterStop_entry (s := s.latch c v) hk
    exact (State.entry_congr (by simp) k).trans hlatch

end

theorem State.raiseStop_mode {s : State} (huse : s.alarmInUse = true) (c : AlarmCode) (v : Int) :
    (s.raiseStop c v).ctl.mode = .stop := by
  rw [State.raiseStop_of_inUse huse]
  simp

/-! ### The clash (R27) -/

theorem State.offends_of_self {s : State} {f : Frame} {n : Station} (hself : s.self = some n)
    (h : f.src = 0 ∨ f.src = stationAddress n) : s.offends f = true := by
  unfold State.offends
  rw [hself, Bool.or_eq_true, beq_iff_eq, beq_iff_eq]
  exact h

/-- The return time of ADDRESS_CLASH starts, or starts afresh (R27). -/
def State.restartClash (s : State) : State := s.modLink fun l => { l with clashTimer := some s.now }

/-- The first offending frame starts the return time and raises ADDRESS_CLASH (R27). -/
theorem State.clash_of_absent {s : State} (h : s.link.clashTimer = none) (src : BitVec 4) :
    s.clash src = s.restartClash.raiseStop .addressClash src.toNat := by
  unfold State.clash
  rw [h]
  rfl

/-- A further one restarts the return time (R27). -/
theorem State.clash_of_present {s : State} {a : Time} (h : s.link.clashTimer = some a) (src : BitVec 4) :
    s.clash src = s.restartClash := by
  unfold State.clash
  rw [h]
  rfl

/-- The return time of ADDRESS_CLASH has run and stops (R27). -/
def State.clashOver (s : State) : State := s.modLink fun l => { l with clashTimer := none }

/-- 1000 ms after the last offending frame the code returns (R27). -/
theorem State.expireClash_of_le {s : State} {a : Time} (hset : s.link.clashTimer = some a)
    (hran : 1000 ≤ s.since a) : s.expireClash = s.clashOver.returnAlarm .addressClash :=
  if_pos (State.ran_of_le hset hran)

/-- Requests of the blocks leave the return time alone. -/
theorem Asks.clashTimer {o : Option Station} {s t : State} (h : Asks o s t) :
    t.link.clashTimer = s.link.clashTimer :=
  congrArg (fun l => l.clashTimer) h.rest

/-- What an offending frame does at a station that receives. -/
theorem exec_frameOwnAddress_of_offends {s : State} {f : Frame} {n : Station} (hreceives : s.receives = true)
    (hself : s.self = some n) (h : f.src = 0 ∨ f.src = stationAddress n) :
    exec (.frameOwnAddress f) s = .next (s.clash f.src).freeBuffer :=
  congrArg _ (if_pos (by rw [hreceives, State.offends_of_self hself h]; rfl))

/-- Settles O25: the clash is a raise of a STOP code, and its return one in STOP. -/
theorem addressClash : Obligations.AddressClash := by
  unfold Obligations.AddressClash
  refine ⟨fun s f n hreceives hself huse hsrc hclear =>
      ⟨_, exec_frameOwnAddress_of_offends hreceives hself hsrc, ?_⟩,
    fun s f n a hreceives hself hsrc hset => ⟨_, exec_frameOwnAddress_of_offends hreceives hself hsrc, ?_⟩,
    fun s a hset hran huse hm => ⟨_, rfl, ?_⟩⟩
  · rw [State.clash_of_absent hclear]
    have hother (k : Station) (hk : k ≠ n) : s.self ≠ some k := fun h => hk (Option.some.inj (h.symm.trans hself))
    have hraised : Raised s (s.restartClash.raiseStop .addressClash f.src.toNat) .addressClash f.src.toNat :=
      State.raiseStop_raised (s := s.restartClash) (c := .addressClash) rfl huse f.src.toNat
    have hmode := State.raiseStop_mode (s := s.restartClash) huse .addressClash f.src.toNat
    have htimer := (s.restartClash.raiseStop_asks (o := none) .addressClash f.src.toNat).clashTimer
    have hentry (k : Station) (hk : k ≠ n) :=
      State.raiseStop_entry (s := s.restartClash) (hother k hk) .addressClash f.src.toNat
    generalize s.restartClash.raiseStop .addressClash f.src.toNat = u at *
    exact ⟨hraised, hmode, htimer, hentry⟩
  · rw [State.clash_of_present hset]
    rfl
  · have hexpired := State.expireClash_of_le hset hran
    have hann := State.returnAlarm_ann (s := s.clashOver) huse (c := .addressClash) rfl
    have hframe := State.returnAlarm_of_stop (s := s.clashOver) hm .addressClash
    have hlink : s.expireClash.link = { s.link with clashTimer := none } := by
      simp [hexpired, State.clashOver]
    rw [hexpired] at hlink ⊢
    refine ⟨hlink, ?_, (hann _).trans (if_pos rfl), fun c hc => (hann c).trans (if_neg hc), ?_⟩
    · exact (congrArg (fun t => t.ctl.mode) hframe).trans hm
    · dsimp only
      rw [hlink]
      exact hframe

end Sys2Proof.Machine
end

section
/-!
PROOFS. What the raises, the returns and the hold causes of one event do to annunciator, alarm list, causes and mode.
-/

set_option Elab.async false

namespace Sys2Proof.Machine

/-! ### Alarms and hold causes within one event -/

/-- LOCAL_TRIP is present and a TRIP code is unacknowledged: no return brings that code to NORMAL, so LOCAL_TRIP
stays (R149, R151). -/
def State.TripStands (s : State) : Prop :=
  s.hasCause .localTrip = true ∧ ∃ d : AlarmCode, d.severity = .trip ∧ (s.ann d).unack = true

/-- The station is not in RUN and its neutral time has not begun: no removal of a cause enters RUN (R9, R10). -/
def State.Grounded (s : State) : Prop := s.ctl.mode ≠ .run ∧ s.ctl.neutralSince = none

/-- Where causes alone take the mode: nowhere, or between HOLD and RUN (Table 1-3). -/
def Mode.Wavers (a b : Mode) : Prop := b = a ∨ (a = .hold ∧ b = .run) ∨ (a = .run ∧ b = .hold)

theorem Mode.Wavers.trans {a b c : Mode} (h : a.Wavers b) (h' : b.Wavers c) : a.Wavers c := by
  rcases h with rfl | ⟨rfl, rfl⟩ | ⟨rfl, rfl⟩
  · exact h'
  all_goals
    rcases h' with rfl | ⟨ha, rfl⟩ | ⟨ha, rfl⟩ <;> simp_all [Mode.Wavers]

/-- From `s` to `t` blocks have raised and returned alarms and asked for hold causes as they may within one event:
of the codes at most `codes` have moved, of the causes at most `causes`, the list has taken at most `n` entries, no
code has been acknowledged and STOP neither entered nor left. -/
structure Alerts (codes : List AlarmCode) (causes : List HoldCause) (n : Nat) (s t : State) : Prop where
  ann : ∀ c, c ∉ codes → t.ann c = s.ann c
  cause : ∀ h, h ∉ causes → t.hasCause h = s.hasCause h
  recent : ∀ e k, k + n ≤ 31 → Recent e k s.alarm.list → Recent e (k + n) t.alarm.list
  seq : ∃ k ≤ n, t.alarm.nextSeq = s.alarm.nextSeq + BitVec.ofNat 16 k
  straps : t.ctl.straps = s.ctl.straps
  params : t.ctl.params = s.ctl.params
  mode : s.ctl.mode.Wavers t.ctl.mode
  free : s.RunIsFree → t.RunIsFree
  grounded : s.Grounded → t.Grounded
  stands : s.TripStands → t.TripStands

/-- A cause added leaves RUN for HOLD (R8, R10). -/
theorem State.addCause_ctl (s : State) (x : HoldCause) : (s.addCause x).ctl =
    if s.hasCause x = true then s.ctl
    else if s.ctl.mode = .run then
      { s.ctl with causes := s.ctl.causes.put x true, mode := .hold, neutralSince := none }
    else { s.ctl with causes := s.ctl.causes.put x true } := by
  unfold State.addCause
  split
  · rfl
  · by_cases hm : s.ctl.mode = .run
    · rw [if_pos hm]
      exact (congrArg State.ctl (if_pos hm)).trans (State.enterHold_ctl _)
    · rw [if_neg hm]
      exact congrArg State.ctl (if_neg hm)

namespace Alerts

variable {codes : List AlarmCode} {causes : List HoldCause} {m n : Nat} {s t u : State}

theorem trans (h : Alerts codes causes m s t) (h' : Alerts codes causes n t u) :
    Alerts codes causes (m + n) s u where
  ann c hc := (h'.ann c hc).trans (h.ann c hc)
  cause x hx := (h'.cause x hx).trans (h.cause x hx)
  recent e k hk hr := by
    rw [← Nat.add_assoc]
    exact h'.recent e (k + m) (by omega) (h.recent e k (by omega) hr)
  seq := by
    obtain ⟨i, hi, hseq⟩ := h.seq
    obtain ⟨j, hj, hseq'⟩ := h'.seq
    exact ⟨i + j, by omega, by rw [hseq', hseq, BitVec.ofNat_add, BitVec.add_assoc]⟩
  straps := h'.straps.trans h.straps
  params := h'.params.trans h.params
  mode := h.mode.trans h'.mode
  free := h'.free ∘ h.free
  grounded := h'.grounded ∘ h.grounded
  stands := h'.stands ∘ h.stands

theorem mono (h : Alerts codes causes m s t) (hmn : m ≤ n) : Alerts codes causes n s t where
  __ := h
  recent e k hk hr := (h.recent e k (by omega) hr).mono (by omega)
  seq := by
    obtain ⟨i, hi, hseq⟩ := h.seq
    exact ⟨i, by omega, hseq⟩

/-- More codes and causes may move. -/
theorem weaken {codes' : List AlarmCode} {causes' : List HoldCause} (h : Alerts codes causes n s t)
    (hc : ∀ c ∈ codes, c ∈ codes' := by decide) (hx : ∀ x ∈ causes, x ∈ causes' := by decide) :
    Alerts codes' causes' n s t where
  __ := h
  ann c hn := h.ann c fun hm => hn (hc c hm)
  cause x hn := h.cause x fun hm => hn (hx x hm)

/-- Station control is as it was, and of the alarm unit at most the arm sequence is not. -/
theorem of_kept (hc : t.ctl = s.ctl) (ht : t.alarm.table = s.alarm.table) (hl : t.alarm.list = s.alarm.list)
    (hn : t.alarm.nextSeq = s.alarm.nextSeq) : Alerts codes causes n s t where
  ann c _ := State.ann_congr ht c
  cause x _ := by rw [State.hasCause, hc]; rfl
  recent e k _ hr := by
    rw [hl]
    exact hr.mono (Nat.le_add_right _ _)
  seq := ⟨0, Nat.zero_le n, by simpa using hn⟩
  straps := by rw [hc]
  params := by rw [hc]
  mode := by rw [hc]; exact .inl rfl
  free := by unfold State.RunIsFree; rw [hc]; exact id
  grounded := by unfold State.Grounded; rw [hc]; exact id
  stands := by
    unfold State.TripStands State.hasCause
    simp only [State.ann_congr ht, hc]
    exact id

/-- What leaves station control and alarm unit alone. -/
theorem kept (hc : t.ctl = s.ctl := by simp) (ha : t.alarm = s.alarm := by simp) : Alerts codes causes n s t :=
  of_kept hc (by rw [ha]) (by rw [ha]) (by rw [ha])

theorem refl (s : State) : Alerts codes causes n s s := kept rfl rfl

/-- What leaves station control and alarm unit alone may come before. -/
theorem after (h : Alerts codes causes n t u) (hc : t.ctl = s.ctl := by rfl) (ha : t.alarm = s.alarm := by rfl) :
    Alerts codes causes n s u := by
  rw [← Nat.zero_add n]
  exact (kept hc ha).trans h

theorem ite {p : Prop} [Decidable p] (h : p → Alerts codes causes n s t) (h' : ¬p → Alerts codes causes n s u) :
    Alerts codes causes n s (if p then t else u) := by
  split
  · next hp => exact h hp
  · next hp => exact h' hp

theorem guarded {p : Prop} [Decidable p] (h : p → Alerts codes causes n s t) :
    Alerts codes causes n s (if p then t else s) :=
  .ite h fun _ => .refl s

/-! The annunciator and the list. -/

/-- A code moves, but not from an unacknowledged state to an acknowledged one. -/
theorem setAnn {c : AlarmCode} (hc : c ∈ codes) {x : AnnState} (hx : (s.ann c).unack = true → x.unack = true) :
    Alerts codes causes 0 s (s.setAnn c x) where
  ann d hd := s.setAnn_ann_other x fun h => hd (h ▸ hc)
  cause _ _ := rfl
  recent _ _ _ hr := hr
  seq := ⟨0, Nat.le_refl 0, by simp⟩
  straps := rfl
  params := rfl
  mode := .inl rfl
  free := id
  grounded := id
  stands := fun ⟨htrip, d, hd, hun⟩ => by
    refine ⟨htrip, d, hd, ?_⟩
    by_cases h : d = c
    · subst h
      rw [State.setAnn_ann_same]
      exact hx hun
    · rwa [State.setAnn_ann_other s x h]

theorem log (c : AlarmCode) (e : ListEvent) (v : Word16) (b : BitVec 4) :
    Alerts codes causes 1 s (s.log c e v b) where
  ann _ _ := rfl
  cause _ _ := rfl
  recent _ _ hk hr := by
    rw [State.log_list]
    exact hr.written (by omega) _
  seq := ⟨1, Nat.le_refl 1, rfl⟩
  straps := rfl
  params := rfl
  mode := .inl rfl
  free := id
  grounded := id
  stands := id

/-! The hold causes. -/

theorem tryRun : Alerts codes causes 0 s s.tryRun where
  ann c _ := State.ann_congr (by simp) c
  cause _ _ := by rw [State.hasCause, State.tryRun_causes]; rfl
  recent _ _ _ hr := by simpa using hr
  seq := ⟨0, Nat.le_refl 0, by simp⟩
  straps := by unfold State.tryRun; split <;> rfl
  params := by unfold State.tryRun; split <;> rfl
  mode := by
    unfold State.tryRun
    split
    · next h => exact .inr (.inl ⟨h.1, rfl⟩)
    · exact .inl rfl
  free h := by
    unfold State.tryRun
    split
    · next hc => exact fun _ => hc.2.1
    · exact h
  grounded h := by
    have hran : s.ran s.ctl.neutralSince 200 = false := by rw [h.2]; rfl
    rw [State.tryRun_of_not (.inr (.inr (.inr hran)))]
    exact h
  stands h := by
    unfold State.TripStands State.hasCause at *
    simpa only [State.tryRun_causes, State.ann_congr (s := s) (t := s.tryRun) (by simp)] using h

/-- A cause goes; LOCAL_TRIP goes only while every TRIP code is NORMAL. -/
theorem putCause_false {x : HoldCause} (hx : x ∈ causes) (htrip : x = .localTrip → s.alarm.tripsNormal = true) :
    Alerts codes causes 0 s (s.putCause x false) where
  ann _ _ := rfl
  cause y hy := (HoldCauses.has_put _ _ _ _).trans (if_neg fun h : y = x => hy (h ▸ hx))
  recent _ _ _ hr := hr
  seq := ⟨0, Nat.le_refl 0, by simp⟩
  straps := rfl
  params := rfl
  mode := .inl rfl
  free h hm := HoldCauses.isEmpty_put_false x (h hm)
  grounded := id
  stands := fun ⟨hpresent, d, hd, hun⟩ => by
    refine ⟨(HoldCauses.has_put _ _ _ _).trans ((if_neg fun h => ?_).trans hpresent), d, hd, hun⟩
    have haway : s.alarm.tripsNormal = false :=
      AlarmUnit.tripsNormal_of_away hd fun hn => by
        rw [State.ann, hn] at hun
        exact absurd hun (by decide)
    exact absurd ((htrip h.symm).symm.trans haway) (by decide)

theorem removeCause {x : HoldCause} (hx : x ∈ causes := by decide)
    (htrip : x = .localTrip → s.alarm.tripsNormal = true := by nofun) : Alerts codes causes 0 s (s.removeCause x) :=
  .guarded fun _ => (putCause_false hx htrip).trans .tryRun

theorem settleTrips (hx : .localTrip ∈ causes) : Alerts codes causes 0 s s.settleTrips :=
  .guarded fun h => removeCause hx fun _ => h

theorem addCause {x : HoldCause} (hx : x ∈ causes := by decide) : Alerts codes causes 0 s (s.addCause x) := by
  have hcause (y : HoldCause) (hy : y ∉ causes) : (s.addCause x).hasCause y = s.hasCause y :=
    (State.addCause_hasCause _ _ _).trans (if_neg fun h : y = x => hy (h ▸ hx))
  have hstands : s.TripStands → (s.addCause x).TripStands := fun ⟨hpresent, d, hd, hun⟩ => by
    refine ⟨(State.addCause_hasCause _ _ _).trans (by split <;> simp_all), d, hd, ?_⟩
    rwa [State.ann_congr (s := s) (by simp) d]
  have hseq : ∃ k ≤ 0, (s.addCause x).alarm.nextSeq = s.alarm.nextSeq + BitVec.ofNat 16 k :=
    ⟨0, Nat.le_refl 0, by simp⟩
  refine ⟨fun c _ => State.ann_congr (by simp) c, hcause, fun _ _ _ hr => by simpa using hr, hseq, ?_, ?_, ?_, ?_, ?_,
    hstands⟩ <;> simp only [State.RunIsFree, State.Grounded, State.addCause_ctl]
  · split_ifs <;> rfl
  · split_ifs <;> rfl
  · split_ifs with _ hm
    · exact .inl rfl
    · exact .inr (.inr ⟨hm, rfl⟩)
    · exact .inl rfl
  · split_ifs with _ hm
    · exact id
    · exact fun _ h => absurd h (by decide)
    · exact fun _ h => absurd h hm
  · split_ifs with _ hm
    · exact id
    · exact fun h => absurd hm h.1
    · exact id

/-! Raises and returns. -/

/-- Outside the codes that move a requested return must not act. -/
theorem returnAlarm {c : AlarmCode} (hc : c ∈ codes := by decide) (hx : .localTrip ∈ causes := by decide) :
    Alerts codes causes 1 s (s.returnAlarm c) := by
  unfold State.returnAlarm
  split
  · exact .refl s
  split
  · exact (setAnn hc fun _ => rfl).trans (n := 1) (.log _ _ _ _)
  · next h =>
    have hun (hunack : (s.ann c).unack = true) : AnnState.normal.unack = true := by
      rw [h] at hunack
      exact absurd hunack (by decide)
    exact ((setAnn hc hun).trans (n := 1) (.log _ _ _ _)).trans (n := 0) (.settleTrips hx)
  · exact .refl s
  · exact .refl s

theorem latch {c : AlarmCode} {v : Int} (hc : c ∈ codes) : Alerts codes causes 1 s (s.latch c v) :=
  (setAnn hc fun _ => rfl).trans (n := 1) (.log _ _ _ _)

theorem armAndNotice {c : AlarmCode} {v : Int} {x : Mode} : Alerts codes causes 0 s (s.armAndNotice c v x) := by
  have hlocal : (s.localArm c x).alarm.list = s.alarm.list ∧ (s.localArm c x).alarm.nextSeq = s.alarm.nextSeq := by
    unfold State.localArm
    (repeat' split) <;> simp
  obtain ⟨hlist, hseq⟩ := hlocal
  unfold State.armAndNotice
  exact .of_kept (by simp) (by simp) (by simpa using hlist) (by simpa using hseq)

theorem raiseWarn {c : AlarmCode} {v : Int} (hc : c ∈ codes := by decide) :
    Alerts codes causes 1 s (s.raiseWarn c v) :=
  .ite (fun _ => .refl s) fun _ => (latch hc).trans (n := 0) .armAndNotice

theorem supplyNormal (hc : .transferFail ∈ codes) (hx : .localTrip ∈ causes) :
    Alerts codes causes 1 s s.supplyNormal :=
  (returnAlarm (s := s.modRole fun r => { r with supply := .normal, transferLimit := none, returnLimit := none })
    hc hx).after

theorem openTransfer (hc : .transferFail ∈ codes) (hx : .localTrip ∈ causes) :
    Alerts codes causes 1 s s.openTransfer :=
  .ite (fun _ => (supplyNormal hc hx).after) fun _ => .kept rfl rfl

theorem endSupply (hc : .transferFail ∈ codes) (hx : .localTrip ∈ causes) : Alerts codes causes 1 s s.endSupply := by
  have hopen : Alerts codes causes 1 s ((s.clearReference).modRole fun r =>
      { r with supply := .returning, transferLimit := none }).openTransfer :=
    (openTransfer hc hx).after
  unfold State.endSupply
  split
  · exact hopen
  · exact hopen
  · exact .refl s
  · exact .refl s

theorem addLocalTrip (hc : .transferFail ∈ codes) (hx : .localTrip ∈ causes) :
    Alerts codes causes 1 s s.addLocalTrip :=
  .ite (fun _ => .refl s) fun _ => (addCause hx).trans (n := 1) (.endSupply hc hx)

/-- What a raise of a TRIP code does behind its latch. -/
theorem latch_raiseTrip {c : AlarmCode} {v : Int} (huse : s.alarmInUse = true)
    (hc : .transferFail ∈ codes := by decide) (hx : .localTrip ∈ causes := by decide) :
    Alerts codes causes 1 (s.latch c v) (s.raiseTrip c v) := by
  rw [State.raiseTrip_of_inUse huse]
  exact (guarded (n := 1) fun _ => .addLocalTrip hc hx).trans (n := 0) .armAndNotice

theorem raiseTrip {c : AlarmCode} {v : Int} (hc : c ∈ codes := by decide)
    (hf : .transferFail ∈ codes := by decide) (hx : .localTrip ∈ causes := by decide) :
    Alerts codes causes 2 s (s.raiseTrip c v) := by
  cases huse : s.alarmInUse with
  | false =>
    have hnone : s.raiseTrip c v = s := if_pos (by simp [huse])
    rw [hnone]
    exact .refl s
  | true => exact (latch hc).trans (.latch_raiseTrip huse hf hx)

/-! The walk and the supply. -/

theorem enterForced {c : ForcedCause} (hc : .walkForcedStop ∈ codes) (hf : .transferFail ∈ codes)
    (hx : .localTrip ∈ causes) : Alerts codes causes 2 s (s.enterForced c) := by
  rw [State.enterForced_eq]
  exact (raiseTrip hc hf hx).after

theorem forceWalk {c : ForcedCause} (hc : .walkForcedStop ∈ codes := by decide)
    (hf : .transferFail ∈ codes := by decide) (hx : .localTrip ∈ causes := by decide) :
    Alerts codes causes 2 s (s.forceWalk c) := by
  unfold State.forceWalk
  split
  · exact .enterForced hc hf hx
  · exact .enterForced hc hf hx
  · exact .guarded fun _ => .enterForced hc hf hx
  · exact .guarded fun _ => .enterForced hc hf hx
  · exact .kept rfl rfl
  all_goals exact .refl s

theorem clearForced {c : ForcedCause} (hc : .walkForcedStop ∈ codes := by decide)
    (hx : .localTrip ∈ causes := by decide) : Alerts codes causes 1 s (s.clearForced c) :=
  .ite (fun _ => .refl s) fun _ =>
    .ite (fun _ => (returnAlarm hc hx).after) fun _ => .kept rfl rfl

theorem walkTakesDrag {k : Station} (hc : .walkForcedStop ∈ codes := by decide)
    (hf : .transferFail ∈ codes := by decide) (hx : .localTrip ∈ causes := by decide) :
    Alerts codes causes 3 s (s.walkTakesDrag k) := by
  have hforced : Alerts codes causes 3 s
      (if (if (s.entry k).shows .walkSupply then s else s.forceWalk .supply).allSupplying then
        (if (s.entry k).shows .walkSupply then s else s.forceWalk .supply).clearForced .supply
      else if (s.entry k).shows .walkSupply then s else s.forceWalk .supply) :=
    (ite (n := 2) (fun _ => .refl s) fun _ => .forceWalk hc hf hx).trans (n := 1)
      (.guarded fun _ => .clearForced hc hx)
  unfold State.walkTakesDrag
  split
  · exact .kept
  · exact hforced
  · exact hforced
  · exact hforced
  · exact .kept
  all_goals exact .refl s

theorem dragTakesWalk {w : WalkState} (hf : .transferFail ∈ codes := by decide)
    (hx : .localTrip ∈ causes := by decide) : Alerts codes causes 1 s (s.dragTakesWalk w) := by
  have hreturn : Alerts codes causes 1 s s.returnSupply :=
    ite (fun _ => (openTransfer hf hx).after) fun _ => .kept rfl rfl
  unfold State.dragTakesWalk
  split
  · exact hreturn
  · exact hreturn
  · exact hreturn
  · exact hreturn
  · exact .kept
  · exact .refl s

theorem dutiesTake {k : Station} {f : ReportFields} (hc : .walkForcedStop ∈ codes := by decide)
    (hf : .transferFail ∈ codes := by decide) (hx : .localTrip ∈ causes := by decide)
    (hw : .walkActive ∈ causes := by decide) : Alerts codes causes 4 s (s.dutiesTake k f) :=
  (guarded (n := 3) fun _ => .walkTakesDrag hc hf hx).trans (n := 1)
    (.guarded fun _ => (guarded (n := 1) fun _ => .dragTakesWalk hf hx).trans (n := 0)
      (.guarded fun _ => .ite (fun _ => .addCause hw) fun _ => .removeCause hw))

end Alerts

/-! ### What a raise leaves at the end of its event -/

/-- A station that LOCAL_TRIP keeps out of RUN. -/
theorem State.TripStands.tripped {s : State} (h : s.TripStands) (hrun : s.RunIsFree) : s.tripped :=
  ⟨h.1, fun hm => Bool.false_ne_true (((HoldCauses.isEmpty_iff _).mp (hrun hm) .localTrip).symm.trans h.1)⟩

/-- A raise of a TRIP code adds LOCAL_TRIP, or finds it (R151). -/
theorem State.raiseTrip_tripStands {s : State} {c : AlarmCode} (hc : c.severity = .trip)
    (huse : s.alarmInUse = true) (h : s.alarm.tripsNormal = false → s.hasCause .localTrip = true) (v : Int) :
    (s.raiseTrip c v).TripStands := by
  have hlatch (hpresent : s.hasCause .localTrip = true) : (s.latch c v).TripStands :=
    ⟨hpresent, c, hc, congrArg AnnState.unack (s.setAnn_ann_same c .activeUnack)⟩
  have hadded : ((s.latch c v).addCause .localTrip).TripStands :=
    ⟨(State.addCause_hasCause _ _ _).trans (if_pos rfl), c, hc, congrArg AnnState.unack
      ((State.ann_congr (s := s.latch c v) (by simp) c).trans (s.setAnn_ann_same c .activeUnack))⟩
  have htrip : (s.latchTrip c v).TripStands := by
    unfold State.latchTrip State.addLocalTrip
    split
    · split
      · next hpresent => exact hlatch hpresent
      · exact (Alerts.endSupply (codes := [.transferFail]) (causes := [.localTrip]) (by decide) (by decide)).stands
          hadded
    · next hfirst => exact hlatch (h (by simpa using hfirst))
  rw [State.raiseTrip_of_inUse huse]
  exact (Alerts.armAndNotice (codes := []) (causes := [])).stands htrip

section

variable {codes : List AlarmCode} {causes : List HoldCause} {m n : Nat} {s u t : State} {c : AlarmCode} {v : Int}

/-- The source of the own list entries follows the straps alone (R154). -/
theorem State.sourceNumber_congr (h : t.ctl.straps = s.ctl.straps) : t.sourceNumber = s.sourceNumber := by
  unfold State.sourceNumber
  rw [State.self_congr h]

/-- A code latched within the event is raised at its end, if nothing behind its latch moves it. -/
theorem RaisedAmong.of_latch (hbefore : Alerts codes causes m s u) (hm : m < 32) (hnow : u.now = s.now)
    {codes' : List AlarmCode} {causes' : List HoldCause} (hafter : Alerts codes' causes' n (u.latch c v) t)
    (hn : n ≤ 31) (hc : c ∉ codes') : RaisedAmong s t c v := by
  obtain ⟨k, hk, hseq⟩ := hbefore.seq
  refine ⟨(hafter.ann c hc).trans (u.setAnn_ann_same c .activeUnack), _,
    (hafter.recent _ 0 (by omega) (.of_written _ _)).mem, ?_, ?_⟩
  · show (u.alarm.nextSeq - s.alarm.nextSeq).toNat < 32
    rw [hseq]
    have hback : s.alarm.nextSeq + BitVec.ofNat 16 k - s.alarm.nextSeq = BitVec.ofNat 16 k := by
      rw [BitVec.add_comm, BitVec.add_sub_cancel]
    rw [hback, BitVec.toNat_ofNat]
    omega
  · show (⟨u.alarm.nextSeq, u.now, c, .raised, alarmValue v, u.sourceNumber⟩ : AlarmEntry) = _
    rw [hnow, State.sourceNumber_congr hbefore.straps]
    rfl

/-- A code latched before all else in the event is raised with the entry that was next at its start. -/
theorem Raised.of_latch (ha : u.alarm = s.alarm) (hnow : u.now = s.now) (hstraps : u.ctl.straps = s.ctl.straps)
    (hafter : Alerts codes causes n (u.latch c v) t) (hn : n ≤ 31) (hc : c ∉ codes) : Raised s t c v := by
  refine ⟨(hafter.ann c hc).trans (u.setAnn_ann_same c .activeUnack), ?_⟩
  have hentry := (hafter.recent _ 0 (by omega) (.of_written
    ⟨u.alarm.nextSeq, u.now, c, .raised, alarmValue v, u.sourceNumber⟩ u.alarm.list)).mem
  rw [ha, hnow, State.sourceNumber_congr hstraps] at hentry
  exact hentry

end

end Sys2Proof.Machine
end

section
/-!
PROOFS. A STATE_REPORT that reaches the peer table, and what its entry holds; O30.
-/

set_option Elab.async false

namespace Sys2Proof.Machine

/-! ### The report reaches the peer table (R26 to R29, R33) -/

theorem stationOf_stationAddress (n : Station) : stationOf (stationAddress n).toNat = some n := by
  revert n
  decide

theorem stationAddress_injective : Function.Injective stationAddress := fun a b h => by
  have hab : some a = some b := by rw [← stationOf_stationAddress a, h, stationOf_stationAddress b]
  exact Option.some.inj hab

/-- Byte 0 gives sequence and role back (Table 12-6). -/
theorem reportBytes_head (seq : BitVec 4) (role : BitVec 3) (f : ReportFields) :
    reportSeqOf (reportBytes seq role f) = seq ∧ reportRoleOf (reportBytes seq role f) = role :=
  ⟨BitVec.extractLsb'_append_eq_right,
    (BitVec.extractLsb'_append_eq_of_le (Nat.le_refl 4)).trans BitVec.extractLsb'_append_eq_right⟩

/-- Byte 1 gives mode, hold flag, brake-set flag and alarm summary back (Table 12-6). -/
theorem reportFlags_extract (mode summary : BitVec 2) (hold brake : Bool) :
    let b : Byte := 0#2 ++ summary ++ BitVec.ofBool brake ++ BitVec.ofBool hold ++ mode
    b.extractLsb' 0 2 = mode ∧ b.getLsbD 2 = hold ∧ b.getLsbD 3 = brake ∧ b.extractLsb' 4 2 = summary := by
  revert mode summary hold brake
  decide

theorem word16_of_bytes (w : Word16) : (w.extractLsb' 8 8 ++ w.extractLsb' 0 8 : Word16) = w :=
  (BitVec.extractLsb'_append_extractLsb'_eq_extractLsb' rfl).trans BitVec.extractLsb'_eq_self

/-- Bytes 1 to 22 give the fields back (Table 12-6). -/
theorem reportFieldsOf_reportBytes (seq : BitVec 4) (role : BitVec 3) (f : ReportFields) :
    reportFieldsOf (reportBytes seq role f) = f := by
  obtain ⟨hmode, hhold, hbrake, hsummary⟩ := reportFlags_extract f.mode f.summary f.holdFlag f.brakeSet
  have hstatus : (f.propStatus ++ f.propKind : Byte).extractLsb' 4 4 = f.propStatus :=
    BitVec.extractLsb'_append_eq_left
  have hkind : (f.propStatus ++ f.propKind : Byte).extractLsb' 0 4 = f.propKind :=
    BitVec.extractLsb'_append_eq_right
  have hword (w : Word16) := word16_of_bytes w
  simp only [reportFieldsOf, reportBytes, ReportFields.bytes, bytes16, byteAt, word16At, List.getD_cons_succ,
    List.getD_cons_zero, List.cons_append, List.nil_append, hmode, hhold, hbrake, hsummary, hstatus, hkind, hword]

/-- The frame of a report of another station passes the checks of R27 and R28. -/
theorem State.report_fits {s : State} {n : Station} (hn : s.self ≠ some n) (seq : BitVec 4) (role : BitVec 3)
    (f : ReportFields) :
    s.offends (headerFrame (broadcast 4 n) 1 (reportBytes seq role f)) = false
    ∧ frameFits (headerFrame (broadcast 4 n) 1 (reportBytes seq role f)) = true := by
  have hnonzero : (stationAddress n == 0) = false :=
    (by decide : ∀ k : Station, (stationAddress k == 0) = false) n
  constructor
  · unfold State.offends
    cases hself : s.self with
    | none => simpa [headerFrame, broadcast] using hnonzero
    | some me =>
      have hother : stationAddress n ≠ stationAddress me := fun h =>
        hn (hself.trans (congrArg some (stationAddress_injective h.symm)))
      simpa [headerFrame, broadcast, hother] using hnonzero
  · simp [frameFits, headerFrame, broadcast, isStationAddress_stationAddress]

/-- A report of another station goes to the peer table, and the buffer is free again. -/
theorem exec_stateReport {s : State} {n : Station} (h : s.hears n) (seq : BitVec 4) (role : BitVec 3)
    (f : ReportFields) : exec (.stateReport (broadcast 4 n) (reportBytes seq role f)) s =
      .next (s.takeReport n (reportBytes seq role f)).freeBuffer := by
  obtain ⟨hreceives, hn⟩ := h
  obtain ⟨hoffends, hfits⟩ := State.report_fits hn seq role f
  have hhand : s.handReport (headerFrame (broadcast 4 n) 1 (reportBytes seq role f)) =
      s.takeReport n (reportBytes seq role f) := by
    unfold State.handReport
    rw [show (headerFrame (broadcast 4 n) 1 (reportBytes seq role f)).src = stationAddress n from rfl,
      stationOf_stationAddress]
    rfl
  exact congrArg Host.Outcome.next ((State.receive_of_fit hreceives hoffends hfits _).trans (by rw [hhand]))

theorem State.modEntry_entry (s : State) (n k : Station) (g : PeerEntry → PeerEntry) :
    (s.modEntry n g).entry k = if k = n then g (s.entry n) else s.entry k := by
  split
  · next hk =>
    rw [hk]
    exact PeerTable.entries_set_same _ _ _
  · next hk => exact PeerTable.entries_set_other _ _ hk

/-- A duplicate has counted at its entry (R34). -/
def State.duplicated (s : State) (n : Station) : State := s.modEntry n fun e => { e with dups := satInc e.dups }

theorem State.duplicated_entry (s : State) (n k : Station) : (s.duplicated n).entry k =
    if k = n then { s.entry n with dups := satInc (s.entry n).dups } else s.entry k :=
  s.modEntry_entry n k _

section

variable {s : State} {n : Station} {seq : BitVec 4} {role : BitVec 3} {f : ReportFields}

/-- The peer table judges a report at a loaded station: unusable, duplicate, or taken (R33 to R35). -/
theorem State.takeReport_of_loaded (h : s.loaded = true) : s.takeReport n (reportBytes seq role f) =
    if reportUsable role f = false then s.countMalformed
    else if (s.entry n).status = .fresh ∧ seq = (s.entry n).lastSeq then
      s.duplicated n
    else s.acceptReport n seq role f := by
  obtain ⟨hseq, hrole⟩ := reportBytes_head seq role f
  unfold State.takeReport
  dsimp only
  rw [hseq, hrole, reportFieldsOf_reportBytes, h]
  cases reportUsable role f <;> rfl

theorem exec_stateReport_of_unusable (hload : s.loaded = true) (hn : s.hears n) (h : reportUsable role f = false) :
    exec (.stateReport (broadcast 4 n) (reportBytes seq role f)) s = .next s.malformed := by
  rw [exec_stateReport hn, State.takeReport_of_loaded hload, if_pos h]
  rfl

theorem exec_stateReport_of_duplicate (hload : s.loaded = true) (hn : s.hears n) (h : reportUsable role f = true)
    (hfresh : (s.entry n).status = .fresh) :
    exec (.stateReport (broadcast 4 n) (reportBytes (s.entry n).lastSeq role f)) s =
      .next (s.duplicated n).freeBuffer := by
  rw [exec_stateReport hn, State.takeReport_of_loaded hload, if_neg (by simp [h]), if_pos ⟨hfresh, rfl⟩]

theorem exec_stateReport_of_taken (hload : s.loaded = true) (hn : s.hears n) (h : reportUsable role f = true)
    (hnew : ¬((s.entry n).status = .fresh ∧ seq = (s.entry n).lastSeq)) :
    exec (.stateReport (broadcast 4 n) (reportBytes seq role f)) s =
      .next (s.acceptReport n seq role f).freeBuffer := by
  rw [exec_stateReport hn, State.takeReport_of_loaded hload, if_neg (by simp [h]), if_neg hnew]

/-- The judgement of R33 in the words of the manual. -/
theorem reportUsable_eq_false_iff : reportUsable role f = false ↔
    f.mode = 0 ∨ role = 0 ∨ 4 < role.toNat ∨ 7 < f.derate.toNat ∨ 3 < f.supply.toNat
      ∨ 2 < f.propKind.toNat ∨ 3 < f.propStatus.toNat ∨ (f.supply ≠ 0 ∧ role ≠ 2)
      ∨ ((f.refLeft ≠ 0 ∨ f.refRight ≠ 0) ∧ role ≠ 4) := by
  have hrole : (Role.ofCode role.toNat).isSome = false ↔ role = 0 ∨ 4 < role.toNat := by
    revert role
    decide
  have hdrag : Role.drag.bits = 2 := rfl
  have hwalk : Role.walk.bits = 4 := rfl
  unfold reportUsable
  simp only [Bool.and_eq_false_iff, Bool.or_eq_false_iff, hrole, hdrag, hwalk, bne_eq_false_iff_eq, beq_eq_false_iff_ne,
    decide_eq_false_iff_not, not_le, or_assoc]

end

/-! ### The stages of a report taken (R35) -/

/-- The entry has taken the report. -/
def State.filed (s : State) (n : Station) (seq : BitVec 4) (role : BitVec 3) (f : ReportFields) : State :=
  s.modEntry n fun e => e.afterReport s.now seq role f

/-- The codes that the report in entry `n`, formerly `old`, raises (R42 to R44). -/
def State.alerted (s : State) (n : Station) (old : PeerEntry) : State :=
  ((s.raiseUnlisted n old).raiseMismatch n old).findConflict n

/-- PEER_STOP added, echo and held proposal noted (R45, R53, R58). -/
def State.noted (s : State) (n : Station) (f : ReportFields) (stop : Bool) : State :=
  ((s.addPeerStop stop).noteEcho n f).updateHeld n f

/-- PEER_LOST and PEER_STALE returned (R40, R41). -/
def State.recovered (s : State) (lost : Bool) : State := (s.returnLost lost).returnStale

/-- The causes that a report removes at last (R39, R45, R103). -/
def State.released (s : State) (n : Station) (stop : Bool) : State :=
  ((s.removePeerStop stop).partnerTakes n).completePicture

/-- What station, consent engine and duties have made of the report when the returns begin. -/
def State.attended (s : State) (n : Station) (seq : BitVec 4) (role : BitVec 3) (f : ReportFields) : State :=
  (((s.filed n seq role f).alerted n (s.entry n)).noted n f (s.peers.someMark fun e => e.stopMark)).dutiesTake n f

/-- The returns behind the duties. -/
def State.calmed (s : State) (n : Station) (lost mismatch stop : Bool) : State :=
  (((s.recovered lost).returnMismatch mismatch).endConflict).released n stop

theorem State.acceptReport_eq (s : State) (n : Station) (seq : BitVec 4) (role : BitVec 3) (f : ReportFields) :
    s.acceptReport n seq role f = (s.attended n seq role f).calmed n (s.peers.someMark fun e => e.lostMark)
      (s.peers.someMark fun e => e.mismatchMark) (s.peers.someMark fun e => e.stopMark) := rfl

/-! ### The entries (R35) -/

/-- From `s` to `t` no entry has changed but for a stale mark. -/
def State.SameTable (s t : State) : Prop :=
  ∀ k : Station, t.entry k = { s.entry k with staleMark := (t.entry k).staleMark }

theorem State.SameTable.of_entries {s t : State} (h : t.peers.entries = s.peers.entries) : s.SameTable t := fun k => by
  have hk : t.entry k = s.entry k := by
    unfold State.entry
    rw [h]
  rw [hk]

theorem State.SameTable.trans {s t u : State} (h : s.SameTable t) (h' : t.SameTable u) : s.SameTable u := fun k => by
  have hk := h' k
  rw [h k] at hk
  exact hk

@[simp] theorem State.findConflict_entries (s : State) (n : Station) :
    (s.findConflict n).peers.entries = s.peers.entries := by
  unfold State.findConflict
  split <;> simp

@[simp] theorem State.endConflict_entries (s : State) : s.endConflict.peers.entries = s.peers.entries := by
  unfold State.endConflict
  split <;> simp

theorem State.returnStale_sameTable (s : State) : s.SameTable s.returnStale := fun k => by
  unfold State.returnStale
  split
  · simp [State.entry]
  · rfl

theorem State.calmed_sameTable (s : State) (n : Station) (lost mismatch stop : Bool) :
    s.SameTable (s.calmed n lost mismatch stop) := by
  have hlost : s.SameTable (s.returnLost lost) := .of_entries (by simp)
  exact (hlost.trans (State.returnStale_sameTable _)).trans
    (.of_entries (by simp [State.calmed, State.released, State.recovered]))

@[simp] theorem State.attended_entries (s : State) (n : Station) (seq : BitVec 4) (role : BitVec 3) (f : ReportFields) :
    (s.attended n seq role f).peers.entries = (s.filed n seq role f).peers.entries := by
  have hkept (a : State) (old : PeerEntry) (stop : Bool) :
      (((a.alerted n old).noted n f stop).dutiesTake n f).peers.entries = a.peers.entries := by
    simp [State.noted, State.alerted]
  exact hkept _ _ _

/-- After the report the table is as after its filing, but for stale marks. -/
theorem State.acceptReport_sameTable (s : State) (n : Station) (seq : BitVec 4) (role : BitVec 3) (f : ReportFields) :
    (s.filed n seq role f).SameTable (s.acceptReport n seq role f) :=
  (State.SameTable.of_entries (s.attended_entries n seq role f)).trans (State.calmed_sameTable _ _ _ _ _)

theorem State.filed_entry (s : State) (n k : Station) (seq : BitVec 4) (role : BitVec 3) (f : ReportFields) :
    (s.filed n seq role f).entry k = if k = n then (s.entry n).afterReport s.now seq role f else s.entry k :=
  s.modEntry_entry n k _

/-- The gap count rises by the table of R35. -/
theorem gapAdd_eq (status : EntryStatus) (d : BitVec 4) : gapAdd status d.toNat =
    match status with
    | .fresh => d.toNat - 1
    | .stale => if d = 0 then 15 else d.toNat - 1
    | .absent => 0 := by
  cases status with
  | stale => simp [gapAdd, BitVec.toNat_eq]
  | fresh => rfl
  | absent => rfl

/-- A role other than the roster's (R43). -/
theorem PeerEntry.mismatches_eq (e : PeerEntry) (role : BitVec 3) :
    e.mismatches role = e.expected.any fun r => role != r.bits := by
  unfold PeerEntry.mismatches
  cases e.expected <;> rfl

/-- Entry `n` after the report, but for its stale mark (R35, R41, R43 to R45). -/
theorem State.acceptReport_entry (s : State) (n : Station) (seq : BitVec 4) (role : BitVec 3) (f : ReportFields) :
    let t := s.acceptReport n seq role f
    t.entry n = { (s.entry n).afterReport s.now seq role f with staleMark := (t.entry n).staleMark } :=
  (s.acceptReport_sameTable n seq role f n).trans (by rw [State.filed_entry, if_pos rfl])

theorem State.acceptReport_entry_other (s : State) {n k : Station} (hk : k ≠ n) (seq : BitVec 4) (role : BitVec 3)
    (f : ReportFields) :
    let t := s.acceptReport n seq role f
    t.entry k = { s.entry k with staleMark := (t.entry k).staleMark } :=
  (s.acceptReport_sameTable n seq role f k).trans (by rw [State.filed_entry, if_neg hk])

/-! ### RX_MALFORMED -/

@[simp] theorem State.queueFrame_rxMalformed (s : State) (f : OutFrame) :
    (s.queueFrame f).link.rxMalformed = s.link.rxMalformed := by
  unfold State.queueFrame State.joinFullQueue State.dropFrame
  (repeat' split) <;> simp

@[simp] theorem State.armAndNotice_rxMalformed (s : State) (c : AlarmCode) (v : Int) (m : Mode) :
    (s.armAndNotice c v m).link.rxMalformed = s.link.rxMalformed := by
  unfold State.armAndNotice State.askNotice
  split <;> simp

@[simp] theorem State.raiseWarn_rxMalformed (s : State) (c : AlarmCode) (v : Int) :
    (s.raiseWarn c v).link.rxMalformed = s.link.rxMalformed := by
  unfold State.raiseWarn State.latch State.logOwn
  split <;> simp

@[simp] theorem State.raiseTrip_rxMalformed (s : State) (c : AlarmCode) (v : Int) :
    (s.raiseTrip c v).link.rxMalformed = s.link.rxMalformed := by
  cases huse : s.alarmInUse with
  | false => rw [State.raiseTrip, if_pos (by simp [huse])]
  | true => simp [State.raiseTrip_of_inUse huse]

@[simp] theorem State.forceWalk_rxMalformed (s : State) (c : ForcedCause) :
    (s.forceWalk c).link.rxMalformed = s.link.rxMalformed := by
  unfold State.forceWalk State.enterForced
  (repeat' split) <;> simp

@[simp] theorem State.dutiesTake_rxMalformed (s : State) (n : Station) (f : ReportFields) :
    (s.dutiesTake n f).link.rxMalformed = s.link.rxMalformed := by
  have hwalk (u : State) : (u.walkTakesDrag n).link.rxMalformed = u.link.rxMalformed := by
    unfold State.walkTakesDrag
    dsimp only
    (repeat' split) <;> simp
  unfold State.dutiesTake
  dsimp only
  (repeat' split) <;> simp [hwalk]

@[simp] theorem State.alerted_rxMalformed (s : State) (n : Station) (old : PeerEntry) :
    (s.alerted n old).link.rxMalformed = s.link.rxMalformed := by
  unfold State.alerted State.findConflict State.raiseMismatch State.raiseUnlisted
  (repeat' split) <;> simp

/-- A report taken counts nothing in RX_MALFORMED. -/
theorem State.acceptReport_rxMalformed (s : State) (n : Station) (seq : BitVec 4) (role : BitVec 3)
    (f : ReportFields) : (s.acceptReport n seq role f).link.rxMalformed = s.link.rxMalformed := by
  simp [State.acceptReport_eq, State.calmed, State.released, State.recovered, State.attended, State.noted, State.filed]

/-! ### O30 -/

/-- Settles O30: the three outcomes of `State.takeReport`. -/
theorem reportDiscarded : Obligations.ReportDiscarded := by
  unfold Obligations.ReportDiscarded
  refine ⟨fun s n seq role f hload hn h =>
      exec_stateReport_of_unusable hload hn (reportUsable_eq_false_iff.mpr h),
    fun s n role f hload hn husable hfresh =>
      ⟨_, exec_stateReport_of_duplicate hload hn husable hfresh, (s.duplicated_entry n n).trans (if_pos rfl),
        fun k hk => (s.duplicated_entry n k).trans (if_neg hk), rfl⟩,
    fun s n seq role f hload hn h hnew => ?_⟩
  have husable : reportUsable role f = true := by
    rw [← Bool.not_eq_false]
    exact fun hf => h (reportUsable_eq_false_iff.mp hf)
  have hnew' : ¬((s.entry n).status = .fresh ∧ seq = (s.entry n).lastSeq) := fun ⟨hfresh, hseq⟩ =>
    hnew.elim (fun h => h hfresh) fun h => h hseq
  have hentry : (s.acceptReport n seq role f).freeBuffer.entry n = _ := s.acceptReport_entry n seq role f
  refine ⟨_, exec_stateReport_of_taken hload hn husable hnew', ?_⟩
  dsimp only
  rw [hentry]
  exact ⟨rfl, rfl, rfl, rfl, s.acceptReport_rxMalformed n seq role f⟩

end Sys2Proof.Machine
end

section
/-!
PROOFS. The ageing of an entry: what STALE and ABSENT raise and return; O31.
-/

set_option Elab.async false

namespace Sys2Proof.Machine

/-! ### The judgements over the whole table (R42 to R45) -/

namespace Alerts

variable {codes : List AlarmCode} {causes : List HoldCause} {s : State}

/-- ROLE_CONFLICT and its cause move only where the event makes a conflict present. -/
theorem findConflict {n : Station}
    (h : (!s.peers.conflict && s.conflictNow) = true → .roleConflict ∈ codes ∧ .roleConflict ∈ causes
      := by exact fun _ => by decide)
    (hf : .transferFail ∈ codes := by decide) (hx : .localTrip ∈ causes := by decide) :
    Alerts codes causes 2 s (s.findConflict n) :=
  .guarded fun hg => ((raiseTrip (h hg).1 hf hx).after).trans (n := 0) (.addCause (h hg).2)

/-- ROLE_CONFLICT and its cause move only where the event makes a conflict absent. -/
theorem endConflict
    (h : (s.peers.conflict && !s.conflictNow) = true → .roleConflict ∈ codes ∧ .roleConflict ∈ causes
      := by exact fun _ => by decide)
    (hx : .localTrip ∈ causes := by decide) : Alerts codes causes 1 s s.endConflict :=
  .guarded fun hg => ((returnAlarm (h hg).1 hx).after).trans (n := 0) (.removeCause (h hg).2)

/-- ROLE_MISMATCH moves only where the event leaves no mismatch mark. -/
theorem returnMismatch {before : Bool}
    (h : (before && !s.peers.someMark fun e => e.mismatchMark) = true → .roleMismatch ∈ codes
      := by exact fun _ => by decide)
    (hx : .localTrip ∈ causes := by decide) : Alerts codes causes 1 s (s.returnMismatch before) :=
  .guarded fun hg => .returnAlarm (h hg) hx

theorem removePeerStop {before : Bool} (hx : .peerStop ∈ causes := by decide) :
    Alerts codes causes 0 s (s.removePeerStop before) :=
  .guarded fun _ => .removeCause hx

end Alerts

/-! ### STALE (R36, R40) -/

/-- The entry of station `n` is STALE (R40). -/
def State.gone (s : State) (n : Station) : State := s.modEntry n fun e => { e with status := .stale, staleMark := true }

theorem State.gone_entry (s : State) (n k : Station) : (s.gone n).entry k =
    if k = n then { s.entry n with status := .stale, staleMark := true } else s.entry k :=
  s.modEntry_entry n k _

/-- What follows PEER_STALE (R44, R104, R134, R138). -/
def State.staleHeard (s : State) (n : Station) : State :=
  (((s.findConflict n).partnerStale n).walkDragStale n).endConflict

theorem State.goStale_eq (s : State) (n : Station) : s.goStale n =
    (if (s.entry n).expected.isSome then (s.gone n).raiseWarn .peerStale (stationNumber n)
    else s.gone n).staleHeard n := by
  have hexpected : ((s.gone n).entry n).expected = (s.entry n).expected := by rw [State.gone_entry, if_pos rfl]
  rw [← hexpected]
  rfl

/-- The codes that may move behind PEER_STALE. -/
abbrev staleCodes : List AlarmCode := [.roleConflict, .transferFail, .followLost, .walkAborted]

theorem State.staleHeard_alerts (s : State) (n : Station) :
    Alerts staleCodes [.localTrip, .roleConflict] 5 s (s.staleHeard n) := by
  have hpartner (u : State) : Alerts staleCodes [.localTrip, .roleConflict] 1 u (u.partnerStale n) :=
    .guarded fun _ => (Alerts.raiseWarn).after
  have habort (u : State) (v : Int) : Alerts staleCodes [.localTrip, .roleConflict] 1 u (u.abortWalk v) :=
    .ite (fun _ => (Alerts.raiseWarn).after (by simp) (by simp)) fun _ => .kept
  have hwalk (u : State) : Alerts staleCodes [.localTrip, .roleConflict] 1 u (u.walkDragStale n) :=
    .guarded fun _ => (habort u _).trans (n := 0) (.kept (State.endReturning_keeps _).2.2.1)
  exact (((Alerts.findConflict).trans (hpartner _)).trans (hwalk _)).trans .endConflict

/-- ENTRY_GOES_STALE when it is due. -/
theorem exec_entryGoesStale_of_due {s : State} {n : Station} (h : s.staleDue n = true) :
    exec (.entryGoesStale n) s = .next (s.goStale n) :=
  congrArg Host.Outcome.next (if_pos h)

theorem State.goStale_entry (s : State) (n k : Station) : (s.goStale n).entry k =
    if k = n then { s.entry n with status := .stale, staleMark := true } else s.entry k := by
  have hkept : (s.goStale n).peers.entries = (s.gone n).peers.entries := by
    rw [State.goStale_eq]
    split <;> simp [State.staleHeard]
  have hk : (s.goStale n).entry k = (s.gone n).entry k := by
    unfold State.entry
    rw [hkept]
  rw [hk, State.gone_entry]

/-- PEER_STALE is the first entry of its event (R40). -/
theorem State.goStale_raised {s : State} {n : Station} (huse : s.alarmInUse = true)
    (hroster : (s.entry n).expected.isSome = true) (hmask : s.masked .peerStale = false) :
    Raised s (s.goStale n) .peerStale (stationNumber n) := by
  have hraise : (s.gone n).raiseWarn .peerStale (stationNumber n) =
      ((s.gone n).latch .peerStale (stationNumber n)).armAndNotice .peerStale (stationNumber n) s.ctl.mode :=
    if_neg (by
      rw [show (s.gone n).masked .peerStale = s.masked .peerStale from rfl,
        show (s.gone n).alarmInUse = s.alarmInUse from rfl, hmask, huse]
      decide)
  rw [State.goStale_eq, if_pos hroster, hraise]
  exact Raised.of_latch (u := s.gone n) rfl rfl rfl (Alerts.armAndNotice.trans (State.staleHeard_alerts _ n))
    (by decide) (by decide)

/-! ### ABSENT (R36, R37, R39, R41) -/

/-- The entry of station `n` is ABSENT (R37). -/
def State.vanished (s : State) (n : Station) : State := s.modEntry n PeerEntry.afterAbsence

theorem State.vanished_entry (s : State) (n k : Station) : (s.vanished n).entry k =
    if k = n then (s.entry n).afterAbsence else s.entry k :=
  s.modEntry_entry n k _

/-- What follows PEER_LOST and PICTURE_INCOMPLETE (R42 to R45, R103, R121, R131, R136, R138). -/
def State.absenceHeard (s : State) (n : Station) (mismatch stop : Bool) : State :=
  ((((((((((s.findConflict n).leadAbsent n).walkDragAbsent n).walkAbsentAtDrag n).dropHeldOf n).returnMismatch
    mismatch).endConflict).removePeerStop stop).returnUnlisted n).walkAbsentHeld n)

theorem State.goAbsent_eq (s : State) (n : Station) : s.goAbsent n =
    ((s.vanished n).rosterLost n).absenceHeard n (s.peers.someMark fun e => e.mismatchMark)
      (s.peers.someMark fun e => e.stopMark) := rfl

/-- The codes that may move behind PEER_LOST. -/
abbrev absenceCodes : List AlarmCode :=
  [.roleConflict, .transferFail, .walkForcedStop, .roleMismatch, .unlistedStation]

/-- The causes that may come or go behind PICTURE_INCOMPLETE. -/
abbrev absenceCauses : List HoldCause := [.localTrip, .roleConflict, .partnerLost, .peerStop, .walkActive]

theorem State.absenceHeard_alerts (s : State) (n : Station) (mismatch stop : Bool) :
    Alerts absenceCodes absenceCauses 8 s (s.absenceHeard n mismatch stop) := by
  have hlead (u : State) : Alerts absenceCodes absenceCauses 0 u (u.leadAbsent n) := .guarded fun _ => .addCause
  have hended (u : State) : Alerts absenceCodes absenceCauses 0 u u.endReturning := .kept
  have hwalk (u : State) : Alerts absenceCodes absenceCauses 2 u (u.walkDragAbsent n) :=
    .guarded fun _ => Alerts.trans (m := 2) .forceWalk (hended _)
  have hdrag (u : State) : Alerts absenceCodes absenceCauses 1 u (u.walkAbsentAtDrag n) :=
    .guarded fun _ => .endSupply (by decide) (by decide)
  have hheld (u : State) : Alerts absenceCodes absenceCauses 0 u (u.dropHeldOf n) := .kept
  have hunlisted (u : State) : Alerts absenceCodes absenceCauses 1 u (u.returnUnlisted n) :=
    .guarded fun _ => .returnAlarm
  have hactive (u : State) : Alerts absenceCodes absenceCauses 0 u (u.walkAbsentHeld n) :=
    .guarded fun _ => .removeCause
  have hraises (u : State) : Alerts absenceCodes absenceCauses 5 u
      (((((u.findConflict n).leadAbsent n).walkDragAbsent n).walkAbsentAtDrag n).dropHeldOf n) :=
    ((((Alerts.findConflict).trans (hlead _)).trans (hwalk _)).trans (hdrag _)).trans (hheld _)
  have hreturns (u : State) : Alerts absenceCodes absenceCauses 2 u
      (((u.returnMismatch mismatch).endConflict).removePeerStop stop) :=
    ((Alerts.returnMismatch).trans (n := 1) .endConflict).trans (n := 0) .removePeerStop
  exact (((hraises s).trans (hreturns _)).trans (hunlisted _)).trans (hactive _)

/-- ENTRY_GOES_ABSENT when it is due. -/
theorem exec_entryGoesAbsent_of_due {s : State} {n : Station} (h : s.absentDue n = true) :
    exec (.entryGoesAbsent n) s = .next (s.goAbsent n) :=
  congrArg Host.Outcome.next (if_pos h)

theorem State.goAbsent_entry (s : State) (n k : Station) : (s.goAbsent n).entry k =
    if k = n then (s.entry n).afterAbsence else s.entry k := by
  have hkept : (s.goAbsent n).peers.entries = (s.vanished n).peers.entries := by
    rw [State.goAbsent_eq]
    simp [State.absenceHeard]
  have hk : (s.goAbsent n).entry k = (s.vanished n).entry k := by
    unfold State.entry
    rw [hkept]
  rw [hk, State.vanished_entry]

/-- PEER_LOST is the first entry of its event, with LOCAL_TRIP and PICTURE_INCOMPLETE (R39, R41, R151). -/
theorem State.goAbsent_raised {s : State} {n : Station} (huse : s.alarmInUse = true) (hrun : s.RunIsFree)
    (htrip : s.hasCause .localTrip = !s.alarm.tripsNormal) (hroster : (s.entry n).expected.isSome = true) :
    Raised s (s.goAbsent n) .peerLost (stationNumber n) ∧ (s.goAbsent n).tripped
      ∧ (s.goAbsent n).hasCause .pictureIncomplete = true := by
  have hexpected : ((s.vanished n).entry n).expected.isSome = true := by
    rw [State.vanished_entry, if_pos rfl]
    exact hroster
  have hlost : (s.vanished n).rosterLost n =
      ((s.vanished n).raiseTrip .peerLost (stationNumber n)).addCause .pictureIncomplete := if_pos hexpected
  have hstands : ((s.vanished n).raiseTrip .peerLost (stationNumber n)).TripStands :=
    State.raiseTrip_tripStands (s := s.vanished n) rfl huse (fun h => htrip.trans (congrArg not h)) _
  have hadded := Alerts.addCause (codes := []) (causes := [.pictureIncomplete]) (x := .pictureIncomplete)
    (s := (s.vanished n).raiseTrip .peerLost (stationNumber n))
  rw [State.goAbsent_eq, hlost]
  generalize hv : ((s.vanished n).raiseTrip .peerLost (stationNumber n)).addCause .pictureIncomplete = v at hadded ⊢
  have hheard := v.absenceHeard_alerts n (s.peers.someMark fun e => e.mismatchMark)
    (s.peers.someMark fun e => e.stopMark)
  have hraised : Alerts [.peerLost, .transferFail] [.localTrip] 2 (s.vanished n)
      ((s.vanished n).raiseTrip .peerLost (stationNumber n)) := .raiseTrip
  have hfree : v.RunIsFree := hadded.free (hraised.free hrun)
  have hlatch : Alerts absenceCodes (.pictureIncomplete :: absenceCauses) 1
      ((s.vanished n).latch .peerLost (stationNumber n)) v :=
    hv ▸ (Alerts.latch_raiseTrip (s := s.vanished n) huse).trans (n := 0) .addCause
  have hpresent : v.hasCause .pictureIncomplete = true :=
    hv ▸ (State.addCause_hasCause _ _ _).trans (if_pos rfl)
  refine ⟨Raised.of_latch (u := s.vanished n) rfl rfl rfl (hlatch.trans hheard.weaken) (by decide) (by decide),
    (hheard.stands (hadded.stands hstands)).tripped (hheard.free hfree),
    (hheard.cause _ (by decide)).trans hpresent⟩

/-- Settles O31: an entry ages by `State.goStale` and `State.goAbsent`, or the command finds nothing due. -/
theorem entriesAge : Obligations.EntriesAge := by
  unfold Obligations.EntriesAge
  refine ⟨fun s n hload hn hstatus hage huse => ⟨_, exec_entryGoesStale_of_due ?_,
      (s.goStale_entry n n).trans (if_pos rfl), fun k hk => (s.goStale_entry n k).trans (if_neg hk),
      State.goStale_raised huse, by simp, by simp⟩,
    fun s n hload hn hstatus hage huse hrun htrip => ⟨_, exec_entryGoesAbsent_of_due ?_,
      (s.goAbsent_entry n n).trans (if_pos rfl), fun k hk => (s.goAbsent_entry n k).trans (if_neg hk),
      State.goAbsent_raised huse hrun htrip, by simp, by simp⟩,
    fun s n h => congrArg Host.Outcome.next (if_neg ?_), fun s n h => congrArg Host.Outcome.next (if_neg ?_)⟩
  · simp [State.staleDue, hload, hn, hstatus, hage]
  · simp [State.absentDue, hload, hn, hstatus, hage]
  · rcases h with h | h <;> simp [State.staleDue, h]
  · rcases h with h | h <;> simp [State.absentDue, h]

end Sys2Proof.Machine
end

section
/-!
PROOFS. What a report taken leaves of the judgements over the table, and of the alarms and causes stage by stage.
-/

set_option Elab.async false

namespace Sys2Proof.Machine

/-! ### Judgements that read the table alike -/

/-- A mark is set in some entry. -/
theorem State.someMark_iff (s : State) (mark : PeerEntry → Bool) :
    s.peers.someMark mark = true ↔ ∃ m : Station, mark (s.entry m) = true := by
  unfold PeerTable.someMark
  rw [Vector.any_iff_exists]
  exact ⟨fun ⟨i, hi, h⟩ => ⟨⟨i, hi⟩, h⟩, fun ⟨m, h⟩ => ⟨m, m.isLt, h⟩⟩

theorem State.ownRole_congr {s t : State} (h : t.ctl.straps = s.ctl.straps) : t.ownRole = s.ownRole := by
  unfold State.ownRole
  rw [h]

theorem State.is_congr {s t : State} (h : t.ctl.straps = s.ctl.straps) (r : Role) : t.is r = s.is r := by
  unfold State.is
  rw [State.ownRole_congr h]

/-- A station has one role. -/
theorem State.is_of_is {s : State} {r : Role} (h : s.is r = true) (q : Role) : s.is q = decide (q = r) := by
  simp only [State.is, beq_iff_eq] at h
  simp [State.is, h, eq_comm, beq_eq_decide]

section

variable {s t : State} (h : s.SameTable t)

include h

/-- Stale marks apart, the same marks are set. -/
theorem State.SameTable.someMark (mark : PeerEntry → Bool)
    (hmark : ∀ e b, mark { e with staleMark := b } = mark e := by intros; rfl) :
    t.peers.someMark mark = s.peers.someMark mark := by
  rw [Bool.eq_iff_iff, State.someMark_iff, State.someMark_iff]
  refine exists_congr fun m => ?_
  rw [h m, hmark]

theorem State.SameTable.expected (k : Station) : (t.entry k).expected = (s.entry k).expected := by rw [h k]

theorem State.SameTable.roleCount (hstraps : t.ctl.straps = s.ctl.straps) (r : Role) :
    t.roleCount r = s.roleCount r := by
  have hheard : t.heardAs r = s.heardAs r := by
    unfold State.heardAs State.others
    rw [State.self_congr hstraps]
    refine List.filter_congr fun m _ => ?_
    rw [h m]
    rfl
  unfold State.roleCount
  rw [hheard, State.is_congr hstraps]

/-- Stale marks apart, the same conflict is present (R44). -/
theorem State.SameTable.conflictNow (hstraps : t.ctl.straps = s.ctl.straps) : t.conflictNow = s.conflictNow := by
  unfold State.conflictNow State.overfull
  rw [h.someMark fun e => e.changeMark, h.roleCount hstraps, h.roleCount hstraps, h.roleCount hstraps,
    h.roleCount hstraps]

end

/-- How many stations of a role are heard, self among them, counted over the stations in one pass (R44). -/
theorem State.roleCount_eq (t : State) (r : Role) : t.roleCount r = (if t.is r then 1 else 0)
    + (allStations.filter fun m =>
        t.self != some m && (t.entry m).status != .absent && (t.entry m).role == r.bits).length := by
  unfold State.roleCount State.heardAs State.others
  rw [List.filter_filter]
  congr 2
  refine List.filter_congr fun m _ => ?_
  rw [PeerEntry.present, Bool.and_comm, Bool.and_assoc]

/-- The conflicts of R44 in the words of the manual. -/
theorem State.conflictNow_iff (t : State) : t.conflictNow = true ↔
    2 < t.roleCount .hoist ∨ 2 < t.roleCount .drag ∨ 2 < t.roleCount .swing ∨ 1 < t.roleCount .walk
      ∨ ∃ m : Station, (t.entry m).changeMark = true := by
  unfold State.conflictNow State.overfull
  simp only [Bool.or_eq_true, decide_eq_true_eq, State.someMark_iff, or_assoc]

theorem State.rosterOf_congr {s t : State} (h : ∀ k, (t.entry k).expected = (s.entry k).expected) (r : Role) :
    t.rosterOf r = s.rosterOf r :=
  List.filter_congr fun k _ => by rw [h k]

theorem State.mem_rosterOf {s : State} {r : Role} {k : Station} :
    k ∈ s.rosterOf r ↔ (s.entry k).expected = some r := by
  have hall : k ∈ allStations := by
    revert k
    decide
  simp [State.rosterOf, hall]

theorem State.walkStation_congr {s t : State} (h : ∀ k, (t.entry k).expected = (s.entry k).expected) :
    t.walkStation = s.walkStation :=
  congrArg List.head? (State.rosterOf_congr h .walk)

theorem State.expected_of_walkStation {s : State} {n : Station} (h : s.walkStation = some n) :
    (s.entry n).expected = some .walk :=
  State.mem_rosterOf.mp (List.mem_of_head? h)

/-! ### The stages and their alarms -/

/-- Before the alarms a report fills its entry alone. -/
theorem State.filed_keeps (s : State) (n : Station) (seq : BitVec 4) (role : BitVec 3) (f : ReportFields) :
    (s.filed n seq role f).ctl = s.ctl ∧ (s.filed n seq role f).alarm = s.alarm ∧ (s.filed n seq role f).now = s.now
    ∧ (s.filed n seq role f).consent = s.consent ∧ (s.filed n seq role f).walk = s.walk
    ∧ (s.filed n seq role f).role = s.role ∧ (s.filed n seq role f).drive = s.drive
    ∧ (s.filed n seq role f).out = s.out ∧ (s.filed n seq role f).meas = s.meas
    ∧ (s.filed n seq role f).pending = s.pending ∧ (s.filed n seq role f).peers.conflict = s.peers.conflict :=
  ⟨rfl, rfl, rfl, rfl, rfl, rfl, rfl, rfl, rfl, rfl, rfl⟩

/-- Filing a report changes nothing that the roster gave. -/
theorem State.filed_expected (s : State) (n : Station) (seq : BitVec 4) (role : BitVec 3) (f : ReportFields)
    (k : Station) : ((s.filed n seq role f).entry k).expected = (s.entry k).expected := by
  rw [State.filed_entry]
  split
  · next hk => rw [hk]; rfl
  · rfl

/-- The codes that a report may move. -/
abbrev reportCodes : List AlarmCode :=
  [.unlistedStation, .roleMismatch, .roleConflict, .transferFail, .walkForcedStop, .peerLost, .peerStale, .followLost]

/-- The causes that a report may add or remove. -/
abbrev reportCauses : List HoldCause :=
  [.localTrip, .roleConflict, .peerStop, .walkActive, .partnerLost, .pictureIncomplete]

namespace Alerts

variable {codes : List AlarmCode} {causes : List HoldCause} {s : State} {k : Station} {old : PeerEntry}

theorem raiseUnlisted (hc : .unlistedStation ∈ codes := by decide) :
    Alerts codes causes 1 s (s.raiseUnlisted k old) :=
  .guarded fun _ => .raiseWarn hc

/-- ROLE_MISMATCH moves only where a mismatch mark becomes set. -/
theorem raiseMismatch
    (h : (!old.mismatchMark && (s.entry k).mismatchMark) = true → .roleMismatch ∈ codes := by exact fun _ => by decide)
    (hf : .transferFail ∈ codes := by decide) (hx : .localTrip ∈ causes := by decide) :
    Alerts codes causes 2 s (s.raiseMismatch k old) :=
  .guarded fun hg => .raiseTrip (h hg) hf hx

theorem noted {f : ReportFields} {stop : Bool} (hx : .peerStop ∈ causes := by decide) :
    Alerts codes causes 0 s (s.noted k f stop) := by
  have hstop : Alerts codes causes 0 s (s.addPeerStop stop) := .guarded fun _ => .addCause hx
  exact hstop.trans (n := 0) (.kept (by simp [State.noted]) (by simp [State.noted]))

theorem recovered {lost : Bool} (hl : .peerLost ∈ codes := by decide) (hs : .peerStale ∈ codes := by decide)
    (hx : .localTrip ∈ causes := by decide) : Alerts codes causes 2 s (s.recovered lost) :=
  (guarded (n := 1) fun _ => .returnAlarm hl hx).trans (n := 1) (.guarded fun _ => (returnAlarm hs hx).after)

theorem released {stop : Bool} (hf : .followLost ∈ codes := by decide) (hx : .localTrip ∈ causes := by decide)
    (hs : .peerStop ∈ causes := by decide) (hp : .partnerLost ∈ causes := by decide)
    (hi : .pictureIncomplete ∈ causes := by decide) : Alerts codes causes 1 s (s.released k stop) := by
  have hpartner (u : State) : Alerts codes causes 1 u (u.partnerTakes k) :=
    .ite (fun _ => (removeCause hp).mono (Nat.zero_le 1)) fun _ => .guarded fun _ => (returnAlarm hf hx).after
  exact (((removePeerStop hs).trans (hpartner _)).trans (n := 0) (.ite (fun _ => .refl _) fun _ => .removeCause hi))

end Alerts

section

variable {codes : List AlarmCode} {causes : List HoldCause} (s : State) (n : Station) (old : PeerEntry)

/-- Until the conflict is judged, straps and table are as they were. -/
theorem State.raiseMismatch_conflictNow :
    ((s.raiseUnlisted n old).raiseMismatch n old).conflictNow = s.conflictNow := by
  have hevent : Alerts reportCodes reportCauses 3 s ((s.raiseUnlisted n old).raiseMismatch n old) :=
    (Alerts.raiseUnlisted).trans .raiseMismatch
  exact (State.SameTable.of_entries (by simp)).conflictNow hevent.straps

/-- ROLE_MISMATCH and ROLE_CONFLICT move at the raises only where the report sets a mark or makes a conflict. -/
theorem Alerts.alerted
    (hm : (!old.mismatchMark && (s.entry n).mismatchMark) = true → .roleMismatch ∈ codes := by exact fun _ => by decide)
    (hc : (!s.peers.conflict && s.conflictNow) = true → .roleConflict ∈ codes ∧ .roleConflict ∈ causes
      := by exact fun _ => by decide)
    (hu : .unlistedStation ∈ codes := by decide) (hf : .transferFail ∈ codes := by decide)
    (hx : .localTrip ∈ causes := by decide) : Alerts codes causes 5 s (s.alerted n old) := by
  have hmismatch : (!old.mismatchMark && ((s.raiseUnlisted n old).entry n).mismatchMark) = true →
      .roleMismatch ∈ codes := by
    rw [State.entry_congr (s := s) (by simp) n]
    exact hm
  have hconflict : (!((s.raiseUnlisted n old).raiseMismatch n old).peers.conflict
      && ((s.raiseUnlisted n old).raiseMismatch n old).conflictNow) = true →
      .roleConflict ∈ codes ∧ .roleConflict ∈ causes := by
    rw [s.raiseMismatch_conflictNow n old]
    simpa using hc
  exact ((Alerts.raiseUnlisted hu).trans (.raiseMismatch hmismatch hf hx)).trans (.findConflict hconflict hf hx)

/-- A conflict that the report makes is present once it is raised (R44). -/
theorem State.alerted_conflict : (s.alerted n old).peers.conflict = (s.peers.conflict || s.conflictNow) := by
  have hfind (u : State) : (u.findConflict n).peers.conflict = (u.peers.conflict || u.conflictNow) := by
    unfold State.findConflict
    cases hp : u.peers.conflict <;> cases hc : u.conflictNow <;> simp [hp]
  rw [State.alerted, hfind, s.raiseMismatch_conflictNow n old]
  simp

end

section

variable {codes : List AlarmCode} {causes : List HoldCause} (s : State) (n : Station) (seq : BitVec 4)
  (role : BitVec 3) (f : ReportFields)

/-- The duties leave straps and table as they are after the filing. -/
theorem State.attended_sameTable : (s.filed n seq role f).SameTable (s.attended n seq role f) :=
  .of_entries (s.attended_entries n seq role f)

/-- A report up to its returns. -/
theorem Alerts.attended
    (hm : (!(s.entry n).mismatchMark && (s.entry n).mismatches role) = true → .roleMismatch ∈ codes
      := by exact fun _ => by decide)
    (hc : (!s.peers.conflict && (s.filed n seq role f).conflictNow) = true →
      .roleConflict ∈ codes ∧ .roleConflict ∈ causes := by exact fun _ => by decide)
    (hu : .unlistedStation ∈ codes := by decide) (hf : .transferFail ∈ codes := by decide)
    (hw : .walkForcedStop ∈ codes := by decide) (hx : .localTrip ∈ causes := by decide)
    (hs : .peerStop ∈ causes := by decide) (ha : .walkActive ∈ causes := by decide) :
    Alerts codes causes 9 s (s.attended n seq role f) := by
  have hmark : (!(s.entry n).mismatchMark && ((s.filed n seq role f).entry n).mismatchMark) = true →
      .roleMismatch ∈ codes := by
    rw [State.filed_entry, if_pos rfl]
    exact hm
  have halerted : Alerts codes causes 5 s ((s.filed n seq role f).alerted n (s.entry n)) :=
    (Alerts.alerted (s.filed n seq role f) n (s.entry n) hmark hc hu hf hx).after
  exact (halerted.trans (.noted hs)).trans (.dutiesTake hw hf hx ha)

theorem State.attended_conflict : (s.attended n seq role f).peers.conflict =
    (s.peers.conflict || (s.filed n seq role f).conflictNow) := by
  have hkept (u : State) (stop : Bool) : ((u.noted n f stop).dutiesTake n f).peers.conflict = u.peers.conflict := by
    simp [State.noted]
  exact (hkept _ _).trans ((s.filed n seq role f).alerted_conflict n (s.entry n))

end

section

variable {codes : List AlarmCode} {causes : List HoldCause} (s : State) (n : Station) (lost mismatch stop : Bool)

/-- The returns but for ROLE_MISMATCH, ROLE_CONFLICT and what follows them leave straps and table. -/
theorem State.recovered_sameTable : s.SameTable (s.recovered lost) :=
  (State.SameTable.of_entries (by simp)).trans (s.returnLost lost).returnStale_sameTable

theorem State.recovered_conflict : (s.recovered lost).peers.conflict = s.peers.conflict := by
  unfold State.recovered State.returnStale
  split <;> simp

theorem State.returnMismatch_conflictNow :
    ((s.recovered lost).returnMismatch mismatch).conflictNow = s.conflictNow := by
  have hevent : Alerts reportCodes reportCauses 3 s ((s.recovered lost).returnMismatch mismatch) :=
    (Alerts.recovered).trans .returnMismatch
  exact ((s.recovered_sameTable lost).trans (.of_entries (by simp))).conflictNow hevent.straps

/-- The returns of a report move ROLE_MISMATCH and ROLE_CONFLICT only where it leaves no mark or ends a conflict. -/
theorem Alerts.calmed
    (hm : (mismatch && !s.peers.someMark fun e => e.mismatchMark) = true → .roleMismatch ∈ codes
      := by exact fun _ => by decide)
    (hc : (s.peers.conflict && !s.conflictNow) = true → .roleConflict ∈ codes ∧ .roleConflict ∈ causes
      := by exact fun _ => by decide)
    (hl : .peerLost ∈ codes := by decide) (hs : .peerStale ∈ codes := by decide) (hf : .followLost ∈ codes := by decide)
    (hx : .localTrip ∈ causes := by decide) (hstop : .peerStop ∈ causes := by decide)
    (hp : .partnerLost ∈ causes := by decide) (hi : .pictureIncomplete ∈ causes := by decide) :
    Alerts codes causes 5 s (s.calmed n lost mismatch stop) := by
  have hmark : (mismatch && !(s.recovered lost).peers.someMark fun e => e.mismatchMark) = true →
      .roleMismatch ∈ codes := by
    rw [(s.recovered_sameTable lost).someMark fun e => e.mismatchMark]
    exact hm
  have hconflict : (((s.recovered lost).returnMismatch mismatch).peers.conflict
      && !((s.recovered lost).returnMismatch mismatch).conflictNow) = true →
      .roleConflict ∈ codes ∧ .roleConflict ∈ causes := by
    rw [s.returnMismatch_conflictNow]
    simpa [State.recovered_conflict] using hc
  exact (((Alerts.recovered hl hs hx).trans (.returnMismatch hmark hx)).trans (.endConflict hconflict hx)).trans
    (.released hf hx hstop hp hi)

/-- A conflict that is no longer there is absent at the end (R44). -/
theorem State.calmed_conflict :
    (s.calmed n lost mismatch stop).peers.conflict = (s.peers.conflict && s.conflictNow) := by
  have hend (u : State) : u.endConflict.peers.conflict = (u.peers.conflict && u.conflictNow) := by
    unfold State.endConflict
    cases hp : u.peers.conflict <;> cases hc : u.conflictNow <;> simp [hp]
  have hreleased (u : State) : (u.released n stop).peers.conflict = u.peers.conflict := by simp [State.released]
  rw [State.calmed, hreleased, hend, s.returnMismatch_conflictNow]
  simp [State.recovered_conflict]

end

end Sys2Proof.Machine
end

section
/-!
PROOFS. The codes that a report taken raises and returns by unlisted stations, role mismatches and role conflicts
(R42 to R44).
-/

set_option Elab.async false

namespace Sys2Proof.Machine

/-! ### LOCAL_TRIP beside the codes (R151) -/

theorem State.alarmInUse_of_straps {s t : State} (h : t.ctl.straps = s.ctl.straps) : t.alarmInUse = s.alarmInUse := by
  unfold State.alarmInUse State.strapFault
  rw [h]

/-- With a TRIP code away from NORMAL, LOCAL_TRIP is present. -/
def State.TripsShown (s : State) : Prop := s.alarm.tripsNormal = false → s.hasCause .localTrip = true

theorem AlarmUnit.tripsNormal_eq_false_iff (a : AlarmUnit) :
    a.tripsNormal = false ↔ ∃ d : AlarmCode, d.severity = .trip ∧ a.stateOf d ≠ .normal := by
  constructor
  · intro h
    simp only [AlarmUnit.tripsNormal, AlarmUnit.someAway, Bool.not_eq_false', List.any_eq_true, Bool.and_eq_true,
      beq_iff_eq, bne_iff_ne] at h
    obtain ⟨d, -, hd⟩ := h
    exact ⟨d, hd⟩
  · exact fun ⟨d, hd, haway⟩ => AlarmUnit.tripsNormal_of_away hd haway

/-- Where no TRIP code moves and LOCAL_TRIP neither comes nor goes, the two go on together. -/
theorem Alerts.shown {codes : List AlarmCode} {causes : List HoldCause} {n : Nat} {s t : State}
    (h : Alerts codes causes n s t) (hc : ∀ c ∈ codes, c.severity ≠ .trip := by decide)
    (hx : .localTrip ∉ causes := by decide) (hs : s.TripsShown) : t.TripsShown := fun ht => by
  obtain ⟨d, hd, haway⟩ := (AlarmUnit.tripsNormal_eq_false_iff _).mp ht
  have hann : t.ann d = s.ann d := h.ann d fun hmem => hc d hmem hd
  rw [h.cause _ hx]
  exact hs (AlarmUnit.tripsNormal_of_away hd fun hn => haway (hann.trans hn))

theorem State.raiseMismatch_shown {s : State} (huse : s.alarmInUse = true) (hs : s.TripsShown) (n : Station)
    (old : PeerEntry) : (s.raiseMismatch n old).TripsShown := by
  unfold State.raiseMismatch
  split
  · exact fun _ => (State.raiseTrip_tripStands rfl huse hs _).1
  · exact hs

section

variable {s : State} {n : Station} {seq : BitVec 4} {role : BitVec 3} {f : ReportFields}

/-- What a report taken may move. -/
theorem State.acceptReport_alerts : Alerts reportCodes reportCauses 14 s (s.acceptReport n seq role f) :=
  (Alerts.attended s n seq role f).trans (.calmed _ n _ _ _)

/-- The report behind the judgement of the conflict. -/
theorem Alerts.afterConflict {codes : List AlarmCode} {causes : List HoldCause} (u : State) (stop : Bool)
    (hf : .transferFail ∈ codes := by decide) (hw : .walkForcedStop ∈ codes := by decide)
    (hx : .localTrip ∈ causes := by decide) (hs : .peerStop ∈ causes := by decide)
    (ha : .walkActive ∈ causes := by decide) : Alerts codes causes 4 u ((u.noted n f stop).dutiesTake n f) :=
  (Alerts.noted hs).trans (.dutiesTake hw hf hx ha)

/-! ### UNLISTED_STATION (R42) -/

theorem State.acceptReport_unlisted (huse : s.alarmInUse = true) (hunlisted : (s.entry n).unlisted = true)
    (habsent : (s.entry n).status = .absent) (hmask : s.masked .unlistedStation = false) :
    RaisedAmong s (s.acceptReport n seq role f) .unlistedStation (stationNumber n) := by
  have hraise : (s.filed n seq role f).raiseUnlisted n (s.entry n) =
      ((s.filed n seq role f).latch .unlistedStation (stationNumber n)).armAndNotice .unlistedStation
        (stationNumber n) s.ctl.mode :=
    (if_pos (by simp [hunlisted, habsent])).trans (if_neg (by
      rw [show (s.filed n seq role f).masked .unlistedStation = s.masked .unlistedStation from rfl,
        show (s.filed n seq role f).alarmInUse = s.alarmInUse from rfl, hmask, huse]
      decide))
  have hattended : Alerts (reportCodes.erase .unlistedStation) reportCauses 8
      ((s.filed n seq role f).latch .unlistedStation (stationNumber n)) (s.attended n seq role f) := by
    unfold State.attended State.alerted
    rw [hraise]
    exact (((Alerts.armAndNotice).trans (n := 2) .raiseMismatch).trans (n := 2) .findConflict).trans
      (n := 4) (.afterConflict _ _)
  exact RaisedAmong.of_latch (m := 0) (u := s.filed n seq role f) (.kept (codes := []) (causes := []) rfl rfl)
    (by decide) rfl (hattended.trans (n := 5) (.calmed _ n _ _ _)) (by decide) (by decide)

/-! ### ROLE_MISMATCH (R43) -/

/-- The mark that the report leaves is the judgement of its role. -/
theorem State.filed_mismatchMark : ((s.filed n seq role f).entry n).mismatchMark = (s.entry n).mismatches role := by
  rw [State.filed_entry, if_pos rfl]
  rfl

theorem State.attended_marked (h : (s.entry n).mismatches role = true) :
    ((s.attended n seq role f).peers.someMark fun e => e.mismatchMark) = true := by
  rw [(s.attended_sameTable n seq role f).someMark fun e => e.mismatchMark]
  exact (State.someMark_iff _ _).mpr ⟨n, State.filed_mismatchMark.trans h⟩

/-- No mark is left where the report leaves none. -/
theorem State.acceptReport_someMark (mark : PeerEntry → Bool)
    (hmark : ∀ e b, mark { e with staleMark := b } = mark e := by intros; rfl) :
    (s.acceptReport n seq role f).peers.someMark mark = (s.attended n seq role f).peers.someMark mark := by
  rw [(s.acceptReport_sameTable n seq role f).someMark mark hmark,
    (s.attended_sameTable n seq role f).someMark mark hmark]

theorem State.acceptReport_mismatch_raised (huse : s.alarmInUse = true) (hrun : s.RunIsFree)
    (htrip : s.hasCause .localTrip = !s.alarm.tripsNormal) (hdiffers : (s.entry n).mismatches role = true)
    (hclear : (s.entry n).mismatchMark = false) :
    RaisedAmong s (s.acceptReport n seq role f) .roleMismatch (stationNumber n)
      ∧ (s.acceptReport n seq role f).tripped := by
  have hbefore : Alerts [.unlistedStation] [] 1 s ((s.filed n seq role f).raiseUnlisted n (s.entry n)) :=
    (Alerts.raiseUnlisted).after
  have hmark : (((s.filed n seq role f).raiseUnlisted n (s.entry n)).entry n).mismatchMark =
      (s.entry n).mismatches role := by
    rw [State.entry_congr (s := s.filed n seq role f) (by rw [(State.raiseUnlisted_keeps _ _ _).2.2.2.1]) n,
      State.filed_mismatchMark]
  have hraise : ((s.filed n seq role f).raiseUnlisted n (s.entry n)).raiseMismatch n (s.entry n) =
      ((s.filed n seq role f).raiseUnlisted n (s.entry n)).raiseTrip .roleMismatch (stationNumber n) :=
    if_pos (by rw [hmark, hdiffers, hclear]; rfl)
  have hnow : ((s.filed n seq role f).raiseUnlisted n (s.entry n)).now = s.now := by simp [State.filed]
  have hattended : s.attended n seq role f =
      ((((s.filed n seq role f).raiseUnlisted n (s.entry n)).raiseTrip .roleMismatch (stationNumber n)).findConflict n
        |>.noted n f (s.peers.someMark fun e => e.stopMark)).dutiesTake n f := by
    rw [← hraise]
    rfl
  generalize (s.filed n seq role f).raiseUnlisted n (s.entry n) = u at hbefore hnow hattended
  have huse' : u.alarmInUse = true := (State.alarmInUse_of_straps hbefore.straps).trans huse
  have hstands : (u.raiseTrip .roleMismatch (stationNumber n)).TripStands :=
    State.raiseTrip_tripStands rfl huse' (hbefore.shown (hs := fun h => htrip.trans (congrArg not h))) _
  have hreturns : Alerts (reportCodes.erase .roleMismatch) reportCauses 5 (s.attended n seq role f)
      (s.acceptReport n seq role f) :=
    .calmed _ n _ _ _ fun h => by simp [State.attended_marked hdiffers] at h
  have hrest : Alerts (reportCodes.erase .roleMismatch) reportCauses 11 (u.raiseTrip .roleMismatch (stationNumber n))
      (s.acceptReport n seq role f) := by
    rw [hattended] at hreturns
    exact ((Alerts.findConflict).trans (n := 4) (.afterConflict _ _)).trans hreturns
  exact ⟨RaisedAmong.of_latch hbefore (by decide) hnow ((Alerts.latch_raiseTrip huse').trans hrest) (by decide)
    (by decide), (hrest.stands hstands).tripped (State.acceptReport_alerts.free hrun)⟩

/-- A mark that was set raises nothing further. -/
theorem State.acceptReport_mismatch_kept (hdiffers : (s.entry n).mismatches role = true)
    (hset : (s.entry n).mismatchMark = true) :
    (s.acceptReport n seq role f).ann .roleMismatch = s.ann .roleMismatch := by
  have hraises : Alerts (reportCodes.erase .roleMismatch) reportCauses 9 s (s.attended n seq role f) :=
    .attended s n seq role f fun h => by simp [hset] at h
  have hreturns : Alerts (reportCodes.erase .roleMismatch) reportCauses 5 (s.attended n seq role f)
      (s.acceptReport n seq role f) :=
    .calmed _ n _ _ _ fun h => by simp [State.attended_marked hdiffers] at h
  exact (hraises.trans hreturns).ann _ (by decide)

theorem State.acceptReport_mismatch_returned (huse : s.alarmInUse = true)
    (hbefore : ∃ m : Station, (s.entry m).mismatchMark = true)
    (hafter : ∀ m : Station, ((s.acceptReport n seq role f).entry m).mismatchMark = false) :
    (s.acceptReport n seq role f).ann .roleMismatch = (s.ann .roleMismatch).afterReturn := by
  have hnone : ((s.attended n seq role f).peers.someMark fun e => e.mismatchMark) = false := by
    rw [← State.acceptReport_someMark fun e => e.mismatchMark, ← Bool.not_eq_true, State.someMark_iff]
    simpa using hafter
  have hagrees : (s.entry n).mismatches role = false := by
    rw [← Bool.not_eq_true]
    exact fun h => Bool.false_ne_true (hnone.symm.trans (State.attended_marked h))
  have hsome : (s.peers.someMark fun e => e.mismatchMark) = true := (State.someMark_iff _ _).mpr hbefore
  have hraises : Alerts (reportCodes.erase .roleMismatch) reportCauses 11 s
      ((s.attended n seq role f).recovered (s.peers.someMark fun e => e.lostMark)) :=
    (Alerts.attended s n seq role f fun h => by simp [hagrees] at h).trans .recovered
  have hmark := (s.attended n seq role f).recovered_sameTable (s.peers.someMark fun e => e.lostMark)
    |>.someMark fun e => e.mismatchMark
  rw [State.acceptReport_eq, State.calmed]
  generalize (s.attended n seq role f).recovered (s.peers.someMark fun e => e.lostMark) = u at hraises hmark ⊢
  have huse' : u.alarmInUse = true := (State.alarmInUse_of_straps hraises.straps).trans huse
  have hreturn : u.returnMismatch (s.peers.someMark fun e => e.mismatchMark) = u.returnAlarm .roleMismatch :=
    if_pos (by rw [hmark, hnone, hsome]; rfl)
  have hrest (v : State) : Alerts (reportCodes.erase .roleMismatch) reportCauses 2 v
      (v.endConflict.released n (s.peers.someMark fun e => e.stopMark)) :=
    (Alerts.endConflict).trans .released
  rw [(hrest _).ann _ (by decide), hreturn, State.returnAlarm_ann huse' rfl, if_pos rfl, hraises.ann _ (by decide)]

/-! ### ROLE_CONFLICT (R44) -/

/-- The conflict after the report is the one that it is judged by. -/
theorem State.attended_conflictNow : (s.attended n seq role f).conflictNow = (s.filed n seq role f).conflictNow :=
  (s.attended_sameTable n seq role f).conflictNow
    (Alerts.attended (codes := reportCodes) (causes := reportCauses) s n seq role f).straps

theorem State.acceptReport_conflictNow :
    (s.acceptReport n seq role f).conflictNow = (s.filed n seq role f).conflictNow :=
  (s.acceptReport_sameTable n seq role f).conflictNow State.acceptReport_alerts.straps

theorem State.acceptReport_conflict :
    (s.acceptReport n seq role f).peers.conflict = (s.acceptReport n seq role f).conflictNow := by
  rw [State.acceptReport_conflictNow, State.acceptReport_eq, State.calmed_conflict, State.attended_conflict,
    State.attended_conflictNow]
  cases s.peers.conflict <;> simp

/-- The peer table with a conflict present, before ROLE_CONFLICT is raised. -/
def State.conflicted (s : State) : State := s.modPeers fun t => { t with conflict := true }

/-- An event that makes a conflict present raises ROLE_CONFLICT and adds LOCAL_TRIP and its own cause (R44, R151). -/
theorem State.findConflict_raised {u : State} (huse : u.alarmInUse = true) (hshown : u.TripsShown)
    (hno : u.peers.conflict = false) (hnow : u.conflictNow = true) (n : Station) :
    Alerts [.transferFail] reportCauses 1 (u.conflicted.latch .roleConflict (stationNumber n)) (u.findConflict n)
      ∧ (u.findConflict n).TripStands ∧ (u.findConflict n).hasCause .roleConflict = true := by
  have hfind : u.findConflict n = (u.conflicted.raiseTrip .roleConflict (stationNumber n)).addCause .roleConflict :=
    if_pos (by rw [hno, hnow]; rfl)
  have hadded : Alerts [.transferFail] reportCauses 0 (u.conflicted.raiseTrip .roleConflict (stationNumber n))
      ((u.conflicted.raiseTrip .roleConflict (stationNumber n)).addCause .roleConflict) := .addCause
  have hstands := State.raiseTrip_tripStands (s := u.conflicted) (c := .roleConflict) rfl huse hshown (stationNumber n)
  rw [hfind]
  exact ⟨(Alerts.latch_raiseTrip (s := u.conflicted) huse).trans hadded, hadded.stands hstands,
    (State.addCause_hasCause _ _ _).trans (if_pos rfl)⟩

/-- The report up to the judgement of the conflict. -/
def State.matched (s : State) (n : Station) (seq : BitVec 4) (role : BitVec 3) (f : ReportFields) : State :=
  ((s.filed n seq role f).raiseUnlisted n (s.entry n)).raiseMismatch n (s.entry n)

theorem State.matched_keeps : (s.matched n seq role f).peers = (s.filed n seq role f).peers
    ∧ (s.matched n seq role f).now = s.now := by
  simp [State.matched, State.filed]

theorem State.matched_shown (huse : s.alarmInUse = true) (htrip : s.hasCause .localTrip = !s.alarm.tripsNormal) :
    (s.matched n seq role f).TripsShown ∧ Alerts reportCodes reportCauses 3 s (s.matched n seq role f) := by
  have hunlisted : Alerts [.unlistedStation] [] 1 s ((s.filed n seq role f).raiseUnlisted n (s.entry n)) :=
    (Alerts.raiseUnlisted).after
  exact ⟨State.raiseMismatch_shown ((State.alarmInUse_of_straps hunlisted.straps).trans huse)
    (hunlisted.shown (hs := fun h => htrip.trans (congrArg not h))) n (s.entry n),
    hunlisted.weaken.trans .raiseMismatch⟩

theorem State.acceptReport_conflict_raised (huse : s.alarmInUse = true) (hrun : s.RunIsFree)
    (htrip : s.hasCause .localTrip = !s.alarm.tripsNormal) (hno : s.peers.conflict = false)
    (hnow : (s.acceptReport n seq role f).conflictNow = true) :
    RaisedAmong s (s.acceptReport n seq role f) .roleConflict (stationNumber n)
      ∧ (s.acceptReport n seq role f).tripped ∧ (s.acceptReport n seq role f).hasCause .roleConflict = true := by
  rw [State.acceptReport_conflictNow] at hnow
  obtain ⟨hshown, hbefore⟩ := State.matched_shown (n := n) (seq := seq) (role := role) (f := f) huse htrip
  obtain ⟨hpeers, htime⟩ := State.matched_keeps (s := s) (n := n) (seq := seq) (role := role) (f := f)
  have hno' : (s.matched n seq role f).peers.conflict = false := by rw [hpeers]; exact hno
  have hnow' : (s.matched n seq role f).conflictNow = true :=
    ((s.filed n seq role f).raiseMismatch_conflictNow n (s.entry n)).trans hnow
  obtain ⟨hlatched, hstands, hcause⟩ := State.findConflict_raised
    ((State.alarmInUse_of_straps hbefore.straps).trans huse) hshown hno' hnow' n
  have hpresent : Alerts reportCodes reportCauses 0 (s.matched n seq role f) (s.matched n seq role f).conflicted :=
    .kept rfl rfl
  have hduties : Alerts (reportCodes.erase .roleConflict) (reportCauses.erase .roleConflict) 4
      ((s.matched n seq role f).findConflict n) (s.attended n seq role f) := .afterConflict _ _
  have hreturns : Alerts (reportCodes.erase .roleConflict) (reportCauses.erase .roleConflict) 5
      (s.attended n seq role f) (s.acceptReport n seq role f) :=
    .calmed _ n _ _ _ (hc := fun h => by simp [State.attended_conflictNow, hnow] at h)
  have hrest := hduties.trans hreturns
  have hafter : Alerts (reportCodes.erase .roleConflict) reportCauses 10
      ((s.matched n seq role f).conflicted.latch .roleConflict (stationNumber n)) (s.acceptReport n seq role f) :=
    hlatched.weaken.trans hrest.weaken
  exact ⟨RaisedAmong.of_latch (hbefore.trans hpresent) (by decide) htime hafter (by decide) (by decide),
    (hrest.stands hstands).tripped (State.acceptReport_alerts.free hrun), (hrest.cause _ (by decide)).trans hcause⟩

/-- A conflict that stays, or stays away, moves nothing. -/
theorem State.acceptReport_conflict_kept (h : s.peers.conflict = (s.acceptReport n seq role f).conflictNow) :
    (s.acceptReport n seq role f).ann .roleConflict = s.ann .roleConflict
      ∧ (s.acceptReport n seq role f).hasCause .roleConflict = s.hasCause .roleConflict := by
  rw [State.acceptReport_conflictNow] at h
  have hraises : Alerts (reportCodes.erase .roleConflict) (reportCauses.erase .roleConflict) 9 s
      (s.attended n seq role f) :=
    .attended s n seq role f (hc := fun hg => by simp [h] at hg)
  have hreturns : Alerts (reportCodes.erase .roleConflict) (reportCauses.erase .roleConflict) 5
      (s.attended n seq role f) (s.acceptReport n seq role f) :=
    .calmed _ n _ _ _ (hc := fun hg => by simp [State.attended_conflict, State.attended_conflictNow, h] at hg)
  exact ⟨(hraises.trans hreturns).ann _ (by decide), (hraises.trans hreturns).cause _ (by decide)⟩

theorem State.acceptReport_conflict_returned (huse : s.alarmInUse = true) (hwas : s.peers.conflict = true)
    (hnow : (s.acceptReport n seq role f).conflictNow = false) :
    (s.acceptReport n seq role f).ann .roleConflict = (s.ann .roleConflict).afterReturn
      ∧ (s.acceptReport n seq role f).hasCause .roleConflict = false := by
  rw [State.acceptReport_conflictNow] at hnow
  have hraises : Alerts (reportCodes.erase .roleConflict) (reportCauses.erase .roleConflict) 12 s
      (((s.attended n seq role f).recovered (s.peers.someMark fun e => e.lostMark)).returnMismatch
        (s.peers.someMark fun e => e.mismatchMark)) :=
    ((Alerts.attended s n seq role f (hc := fun h => by simp [hwas] at h)).trans .recovered).trans .returnMismatch
  have hpeers : (((s.attended n seq role f).recovered (s.peers.someMark fun e => e.lostMark)).returnMismatch
      (s.peers.someMark fun e => e.mismatchMark)).peers.conflict = true := by
    simp [State.recovered_conflict, State.attended_conflict, hwas]
  have hguard := (s.attended n seq role f).returnMismatch_conflictNow (s.peers.someMark fun e => e.lostMark)
    (s.peers.someMark fun e => e.mismatchMark)
  rw [State.acceptReport_eq, State.calmed]
  generalize ((s.attended n seq role f).recovered (s.peers.someMark fun e => e.lostMark)).returnMismatch
    (s.peers.someMark fun e => e.mismatchMark) = u at *
  have hend : u.endConflict = ((u.modPeers fun t => { t with conflict := false }).returnAlarm .roleConflict).removeCause
      .roleConflict := if_pos (by rw [hguard, State.attended_conflictNow, hpeers, hnow]; rfl)
  have huse' : (u.modPeers fun t => { t with conflict := false }).alarmInUse = true :=
    (State.alarmInUse_of_straps hraises.straps).trans huse
  have hrest (v : State) : Alerts (reportCodes.erase .roleConflict) (reportCauses.erase .roleConflict) 1 v
      (v.released n (s.peers.someMark fun e => e.stopMark)) := .released
  have hann : u.endConflict.ann .roleConflict = (u.ann .roleConflict).afterReturn := by
    rw [hend]
    exact (State.ann_congr (by simp) _).trans ((State.returnAlarm_ann huse' rfl _).trans (if_pos rfl))
  refine ⟨?_, ?_⟩
  · rw [(hrest _).ann _ (by decide), hann, hraises.ann _ (by decide)]
  · rw [(hrest _).cause _ (by decide), hend]
    exact (State.removeCause_hasCause _ _ _).trans (if_pos rfl)

end

end Sys2Proof.Machine
end

section
/-!
PROOFS. What the raises and added causes of a report leave of proposal and walk, and the clauses of O29 about the entry,
the proposals and WALK_ACTIVE.
-/

set_option Elab.async false

namespace Sys2Proof.Machine

/-! ### A station in RUN stays there at a return (R8, R149) -/

theorem State.removeCause_run {s : State} (h : s.ctl.mode = .run) (x : HoldCause) :
    (s.removeCause x).ctl.mode = .run := by
  have hput : (s.putCause x false).ctl.mode = .run := h
  rw [State.removeCause_eq, State.tryRun_of_not (.inl (by rw [hput]; decide)), ite_self]
  exact hput

theorem State.returnAlarm_run {s : State} (h : s.ctl.mode = .run) (c : AlarmCode) :
    (s.returnAlarm c).ctl.mode = .run := by
  have hsettle (u : State) (hu : u.ctl.mode = .run) : u.settleTrips.ctl.mode = .run := by
    unfold State.settleTrips
    split
    · exact State.removeCause_run hu _
    · exact hu
  unfold State.returnAlarm
  split
  · exact h
  split
  · exact h
  · exact hsettle _ h
  · exact h
  · exact h

/-- From `s` to `t` codes have been returned and causes removed: the driving lines are as they were, and a station in
RUN is still there. -/
structure Eases (s t : State) : Prop where
  lines : t.out.lines = s.out.lines
  run : s.ctl.mode = .run → t.ctl.mode = .run

namespace Eases

variable {s t u : State}

theorem kept (ho : t.out = s.out := by rfl) (hc : t.ctl = s.ctl := by rfl) : Eases s t :=
  ⟨by rw [ho], by rw [hc]; exact id⟩

theorem trans (h : Eases s t) (h' : Eases t u) : Eases s u := ⟨h'.lines.trans h.lines, h'.run ∘ h.run⟩

theorem ite {p : Prop} [Decidable p] (h : p → Eases s t) (h' : ¬p → Eases s u) : Eases s (if p then t else u) := by
  split
  · next hp => exact h hp
  · next hp => exact h' hp

theorem guarded {p : Prop} [Decidable p] (h : p → Eases s t) : Eases s (if p then t else s) := .ite h fun _ => .kept

theorem removeCause {x : HoldCause} : Eases s (s.removeCause x) :=
  ⟨s.removeCause_lines x, fun h => State.removeCause_run h x⟩

theorem returnAlarm {c : AlarmCode} : Eases s (s.returnAlarm c) :=
  ⟨s.returnAlarm_lines c, fun h => State.returnAlarm_run h c⟩

/-- What leaves outputs and station control, and then a return. -/
theorem returned {c : AlarmCode} (ho : t.out = s.out := by rfl) (hc : t.ctl = s.ctl := by rfl) :
    Eases s (t.returnAlarm c) :=
  (kept ho hc).trans .returnAlarm

theorem calmed (s : State) (n : Station) (lost mismatch stop : Bool) : Eases s (s.calmed n lost mismatch stop) := by
  have hrecovered : Eases s (s.recovered lost) := (guarded fun _ => .returnAlarm).trans (.guarded fun _ => .returned)
  have hmismatch (u : State) : Eases u (u.returnMismatch mismatch) := .guarded fun _ => .returnAlarm
  have hconflict (u : State) : Eases u u.endConflict := .guarded fun _ => (returned).trans .removeCause
  have hstop (u : State) : Eases u (u.removePeerStop stop) := .guarded fun _ => .removeCause
  have hpartner (u : State) : Eases u (u.partnerTakes n) :=
    .ite (fun _ => .removeCause) fun _ => .guarded fun _ => .returned
  have hpicture (u : State) : Eases u u.completePicture := .ite (fun _ => .kept) fun _ => .removeCause
  exact ((hrecovered.trans (hmismatch _)).trans (hconflict _)).trans (((hstop _).trans (hpartner _)).trans (hpicture _))

end Eases

theorem State.endSupply_brakeSet (s : State) : s.endSupply.out.brakeSet = s.out.brakeSet := by
  have hreturn (u : State) (c : AlarmCode) : (u.returnAlarm c).out.brakeSet = u.out.brakeSet :=
    congrArg (fun l => l.2.2.1) (u.returnAlarm_lines c)
  have hopen (u : State) : u.openTransfer.out.brakeSet = u.out.brakeSet := by
    unfold State.openTransfer
    dsimp only
    split
    · exact (hreturn _ _).trans rfl
    · rfl
  unfold State.endSupply
  split
  · exact (hopen _).trans rfl
  · exact (hopen _).trans rfl
  · rfl
  · rfl

/-! ### Proposal and walk while codes are raised and causes added -/

/-- Walk and own proposal as a stop request takes them (R134). -/
def State.WalkStopped (s t : State) : Prop :=
  (s.walk.state = .transfer → t.walk.state = .idle)
    ∧ (s.walk.state = .stepping → t.walk.state = .stopping)
    ∧ (s.walk.state ≠ .transfer → t.consent.own = s.consent.own)
    ∧ (s.walk.state ≠ .transfer → s.walk.state ≠ .stepping → t.walk = s.walk)

/-- The held proposal and a PENDING own one stay. -/
structure Consenting (s t : State) : Prop where
  held : t.consent.held = s.consent.held
  pending : s.consent.own.status = .pending → t.consent.own = s.consent.own

theorem Consenting.of_kept {s t : State} (h : t.consent = s.consent := by simp) : Consenting s t :=
  ⟨by rw [h], fun _ => by rw [h]⟩

theorem Consenting.trans {s t u : State} (h : Consenting s t) (h' : Consenting t u) : Consenting s u where
  held := h'.held.trans h.held
  pending hp := by
    have hown := h.pending hp
    exact (h'.pending (by rw [hown]; exact hp)).trans hown

theorem Consenting.ite {s t u : State} {p : Prop} [Decidable p] (h : p → Consenting s t) (h' : ¬p → Consenting s u) :
    Consenting s (if p then t else u) := by
  split
  · next hp => exact h hp
  · next hp => exact h' hp

/-- From `s` to `t` codes have been raised and causes added: the held proposal, a PENDING own one and the brake stay,
and so do walk and own proposal unless the station has dropped from RUN, which is a stop request to the walk (R10). -/
structure Sheds (s t : State) : Prop extends Consenting s t where
  brake : t.out.brakeSet = s.out.brakeSet
  straps : t.ctl.straps = s.ctl.straps
  grounded : s.Grounded → t.Grounded
  walk : (t.walk = s.walk ∧ t.consent.own = s.consent.own ∧ t.ctl.mode = s.ctl.mode)
    ∨ (s.ctl.mode = .run ∧ t.Grounded ∧ (s.is .walk = true → s.WalkStopped t))

/-- A stop request to a walk station. -/
theorem State.stopWalk_walkStopped {s : State} (h : s.is .walk = true) : s.WalkStopped s.stopWalk
    ∧ s.stopWalk.out.brakeSet = s.out.brakeSet ∧ s.stopWalk.consent.held = s.consent.held
    ∧ (s.consent.own.status = .pending → s.stopWalk.consent.own = s.consent.own) := by
  by_cases hstep : s.walk.state = .stepping
  · rw [State.stopWalk_of_stepping hstep]
    exact ⟨⟨fun ht => absurd (hstep.symm.trans ht) (by decide), fun _ => rfl, fun _ => rfl,
      fun _ hs => absurd hstep hs⟩, rfl, rfl, fun _ => rfl⟩
  by_cases htransfer : s.walk.state = .transfer
  · rw [State.stopWalk_of_transfer h htransfer]
    refine ⟨⟨fun _ => rfl, fun hs => absurd hs hstep, fun ht => absurd htransfer ht, fun ht => absurd htransfer ht⟩,
      rfl, rfl, fun hp => ?_⟩
    have hown : s.consent.own.status ≠ .active ∧ s.consent.own.status ≠ .withdrawing := by rw [hp]; decide
    show ({ s.consent.own with status := _ } : OwnRecord) = _
    rw [show (s.enterWalk .idle).consent.own.status = s.consent.own.status from rfl,
      if_neg (not_or.mpr hown)]
  · rw [State.stopWalk_of_other hstep htransfer]
    exact ⟨⟨fun ht => absurd ht htransfer, fun hs => absurd hs hstep, fun _ => rfl, fun _ _ => rfl⟩, rfl, rfl,
      fun _ => rfl⟩

namespace Sheds

variable {s t u : State}

/-- What leaves proposals, walk, brake and station control. -/
theorem kept (hw : t.walk = s.walk := by simp) (hc : t.consent = s.consent := by simp)
    (hb : t.out.brakeSet = s.out.brakeSet := by simp) (hm : t.ctl = s.ctl := by simp) : Sheds s t :=
  ⟨.of_kept hc, hb, by rw [hm], by unfold State.Grounded; rw [hm]; exact id, .inl ⟨hw, by rw [hc], by rw [hm]⟩⟩

theorem refl (s : State) : Sheds s s := kept rfl rfl rfl rfl

theorem trans (h : Sheds s t) (h' : Sheds t u) : Sheds s u where
  __ := h.toConsenting.trans h'.toConsenting
  brake := h'.brake.trans h.brake
  straps := h'.straps.trans h.straps
  grounded := h'.grounded ∘ h.grounded
  walk := by
    obtain ⟨hwalk, hown, hmode⟩ | ⟨hrun, hground, hstop⟩ := h.walk
    · obtain ⟨hwalk', hown', hmode'⟩ | ⟨hrun', hground', hstop'⟩ := h'.walk
      · exact .inl ⟨hwalk'.trans hwalk, hown'.trans hown, hmode'.trans hmode⟩
      · refine .inr ⟨hmode ▸ hrun', hground', fun hw => ?_⟩
        rw [State.is_congr h.straps] at hstop'
        unfold State.WalkStopped at *
        rw [← hwalk, ← hown]
        exact hstop' hw
    · obtain ⟨hwalk', hown', -⟩ | ⟨hrun', -⟩ := h'.walk
      · refine .inr ⟨hrun, h'.grounded hground, fun hw => ?_⟩
        unfold State.WalkStopped
        rw [hwalk', hown']
        exact hstop hw
      · exact absurd hrun' hground.1

theorem ite {p : Prop} [Decidable p] (h : p → Sheds s t) (h' : ¬p → Sheds s u) : Sheds s (if p then t else u) := by
  split
  · next hp => exact h hp
  · next hp => exact h' hp

theorem guarded {p : Prop} [Decidable p] (h : p → Sheds s t) : Sheds s (if p then t else s) :=
  .ite h fun _ => .refl s

/-- The entry to HOLD is a stop request to the walk of a walk station (R10). -/
theorem enterHold (hrun : s.ctl.mode = .run) : Sheds s s.enterHold := by
  have hground : s.enterHold.Grounded := by simp [State.Grounded]
  have hrest : s.dropToHold.restTarget.walk = s.walk ∧ s.dropToHold.restTarget.consent = s.consent
      ∧ s.dropToHold.restTarget.out.brakeSet = s.out.brakeSet ∧ s.dropToHold.restTarget.is .walk = s.is .walk := by
    rw [State.restTarget_eq]
    exact ⟨rfl, rfl, rfl, rfl⟩
  obtain ⟨hwalk, hconsent, hbrake, hrole⟩ := hrest
  have hstraps : s.enterHold.ctl.straps = s.ctl.straps := by simp
  rw [State.enterHold_eq] at *
  split
  · next h =>
    rw [if_pos h] at hground hstraps
    obtain ⟨hstop, hbrake', hheld, hpending⟩ := State.stopWalk_walkStopped (hrole.trans h)
    rw [hconsent] at hheld hpending
    refine ⟨⟨hheld, hpending⟩, hbrake'.trans hbrake, hstraps, fun _ => hground, .inr ⟨hrun, hground, fun _ => ?_⟩⟩
    unfold State.WalkStopped at *
    rwa [hwalk, hconsent] at hstop
  · next h =>
    rw [if_neg h] at hground hstraps
    exact ⟨.of_kept hconsent, hbrake, hstraps, fun _ => hground,
      .inr ⟨hrun, hground, fun hw => absurd hw h⟩⟩

theorem addCause {x : HoldCause} : Sheds s (s.addCause x) := by
  have hput : Sheds s (s.putCause x true) :=
    ⟨.of_kept rfl, rfl, rfl, id, .inl ⟨rfl, rfl, rfl⟩⟩
  exact .ite (fun _ => .refl s) fun _ => .ite (fun h => hput.trans (.enterHold h)) fun _ => hput

theorem latch {c : AlarmCode} {v : Int} : Sheds s (s.latch c v) := .kept (by simp) (by simp) rfl (by simp)

theorem armAndNotice {c : AlarmCode} {v : Int} {m : Mode} : Sheds s (s.armAndNotice c v m) :=
  .kept (by simp) (by simp) (by simp) (by simp)

theorem raiseWarn {c : AlarmCode} {v : Int} : Sheds s (s.raiseWarn c v) :=
  .ite (fun _ => .refl s) fun _ => (latch).trans .armAndNotice

/-- The first raise of a TRIP code but TRANSFER_FAIL adds LOCAL_TRIP; the end of a supply touches neither walk nor
causes. -/
theorem addLocalTrip {d : AlarmCode} (hd : d.severity = .trip) (hne : d ≠ .transferFail) (h : s.ann d ≠ .normal) :
    Sheds s s.addLocalTrip := by
  have hann : (s.addCause .localTrip).ann d ≠ .normal := by
    rwa [State.ann_congr (s := s) (by simp) d]
  exact .ite (fun _ => .refl s) fun _ => (addCause).trans
    (.kept (by simp) (by simp) (State.endSupply_brakeSet _) (State.endSupply_ctl_of_away hd hne hann))

theorem raiseTrip {c : AlarmCode} {v : Int} (hc : c.severity = .trip := by rfl) (hne : c ≠ .transferFail := by decide) :
    Sheds s (s.raiseTrip c v) := by
  have haway : (s.latch c v).ann c ≠ .normal := by
    rw [show (s.latch c v).ann c = .activeUnack from s.setAnn_ann_same c .activeUnack]
    decide
  have htrip : Sheds s (s.latchTrip c v) :=
    .ite (fun _ => (latch).trans (.addLocalTrip hc hne haway)) fun _ => .latch
  exact .ite (fun _ => .refl s) fun _ => htrip.trans .armAndNotice

/-- The report up to the judgement of echo and held proposal. -/
theorem alerted (s : State) (n : Station) (old : PeerEntry) : Sheds s (s.alerted n old) := by
  have hraise (u : State) : Sheds u.conflicted
      ((u.conflicted.raiseTrip .roleConflict (stationNumber n)).addCause .roleConflict) :=
    (raiseTrip).trans .addCause
  have hpresent (u : State) : Sheds u u.conflicted := kept rfl rfl rfl rfl
  have hconflict (u : State) : Sheds u (u.findConflict n) := .guarded fun _ => (hpresent u).trans (hraise u)
  exact ((guarded fun _ => .raiseWarn).trans (.guarded fun _ => .raiseTrip)).trans (hconflict _)

end Sheds

/-! ### Proposal and walk at a report -/

section

variable (s : State) (n : Station) (seq : BitVec 4) (role : BitVec 3) (f : ReportFields)

/-- The report until the consent engine reads it: entry filled, codes raised, PEER_STOP added. -/
def State.heeded : State :=
  ((s.filed n seq role f).alerted n (s.entry n)).addPeerStop (s.peers.someMark fun e => e.stopMark)

/-- Echo and held proposal noted too (R53, R58). -/
def State.consulted : State := ((s.heeded n seq role f).noteEcho n f).updateHeld n f

theorem State.consulted_keeps : let h := s.heeded n seq role f
    let t := s.consulted n seq role f
    t.peers = h.peers ∧ t.ctl = h.ctl ∧ t.alarm = h.alarm ∧ t.walk = h.walk ∧ t.out = h.out ∧ t.drive = h.drive
      ∧ t.role = h.role := by
  simp [State.consulted]

theorem State.attended_eq_consulted : s.attended n seq role f = (s.consulted n seq role f).dutiesTake n f := rfl

theorem Sheds.heeded : Sheds s (s.heeded n seq role f) := by
  have hfiled : Sheds s (s.filed n seq role f) := .kept rfl rfl rfl rfl
  exact (hfiled.trans (.alerted _ n _)).trans (.guarded fun _ => .addCause)

/-- Walk, supply and WALK_ACTIVE leave the held proposal and a PENDING own one (R58, R66). -/
theorem Consenting.dutiesTake : Consenting s (s.dutiesTake n f) := by
  have hforced (u : State) : Consenting u (u.enterForced .supply) := by
    have hbraked : Consenting u (u.braked .supply) := .of_kept rfl
    exact hbraked.trans (Sheds.raiseTrip).toConsenting
  have hforce (u : State) : Consenting u (u.forceWalk .supply) := by
    unfold State.forceWalk
    split
    · exact hforced u
    · exact hforced u
    all_goals exact .of_kept rfl
  have hend (u : State) : Consenting u u.endReturning := by
    have hclear (v : State) : Consenting v v.clearProposal := by
      refine ⟨?_, fun hp => ?_⟩
      · unfold State.clearProposal
        dsimp only
        (repeat' split) <;> simp
      · rw [State.clearProposal, hp]
    have hidle : Consenting u (u.enterWalk .idle) := .of_kept rfl
    exact .ite (fun _ => hidle.trans (hclear _)) fun _ => .of_kept rfl
  have hshown (u : State) : Consenting u
      (if (if (u.entry n).shows .walkSupply then u else u.forceWalk .supply).allSupplying then
        (if (u.entry n).shows .walkSupply then u else u.forceWalk .supply).clearForced .supply
      else if (u.entry n).shows .walkSupply then u else u.forceWalk .supply) :=
    (Consenting.ite (fun _ => .of_kept rfl) fun _ => hforce u).trans (.ite (fun _ => .of_kept) fun _ => .of_kept rfl)
  have hwalk (u : State) : Consenting u (u.walkTakesDrag n) := by
    unfold State.walkTakesDrag
    split
    · exact .of_kept
    · exact hshown u
    · exact hshown u
    · exact hshown u
    · exact hend u
    all_goals exact .of_kept rfl
  have hactive (u : State) (w : WalkState) : Consenting u (u.walkActive w) :=
    .ite (fun _ => (Sheds.addCause).toConsenting) fun _ => .of_kept
  exact (Consenting.ite (fun _ => hwalk s) fun _ => .of_kept rfl).trans
    (.ite (fun _ => (Consenting.ite (fun _ => .of_kept) fun _ => .of_kept rfl).trans
      (.ite (fun _ => hactive _ _) fun _ => .of_kept rfl)) fun _ => .of_kept rfl)

/-- The returns leave consent engine and walk. -/
theorem State.calmed_keeps (lost mismatch stop : Bool) :
    (s.calmed n lost mismatch stop).consent = s.consent ∧ (s.calmed n lost mismatch stop).walk = s.walk
      ∧ (s.calmed n lost mismatch stop).role = s.role := by
  simp [State.calmed, State.recovered, State.released]

/-- After a report of status 0 to 3 the held record is as the table of R58 says. -/
theorem HeldRecord.afterReport_eq (h : HeldRecord) (hstatus : f.propStatus.toNat ≤ 3) : h.afterReport f =
    if f.propNumber = h.number then
      (if f.propStatus = 0 then none
      else some { h with
        confirmed := true
        reported :=
          if f.propStatus = 1 then .pending else if f.propStatus = 2 then .active else .withdrawing })
    else if f.propNumber ≠ 0 ∧ 1 ≤ (f.propNumber.toNat + 255 - h.number.toNat) % 255
        ∧ (f.propNumber.toNat + 255 - h.number.toNat) % 255 ≤ 127 then none
    else if f.propNumber = 0 ∧ h.confirmed = true then none
    else some h := by
  have hcode : ∀ b : BitVec 4, b.toNat ≤ 3 → b ≠ 0 → ProposalStatus.ofCode b.toNat =
      if b = 1 then .pending else if b = 2 then .active else .withdrawing := by decide
  have hnewer : isNewer f.propNumber h.number = true ↔ f.propNumber ≠ 0
      ∧ 1 ≤ (f.propNumber.toNat + 255 - h.number.toNat) % 255
      ∧ (f.propNumber.toNat + 255 - h.number.toNat) % 255 ≤ 127 := by
    simp [isNewer, and_assoc]
  unfold HeldRecord.afterReport
  simp only [hnewer]
  by_cases h0 : f.propStatus = 0
  · simp only [h0, if_true]
  · simp only [h0, if_false, hcode _ hstatus h0]

end

end Sys2Proof.Machine
end

section
/-!
PROOFS. The clauses of O29 about the entry, the own and the held proposal, and WALK_ACTIVE.
-/

set_option Elab.async false

namespace Sys2Proof.Machine

/-- The gap count by the sequence itself (R35). -/
theorem gapAdd_sub (status : EntryStatus) (seq last : BitVec 4) : gapAdd status (seq - last).toNat =
    match status with
    | .fresh => (seq - last).toNat - 1
    | .stale => if seq = last then 15 else (seq - last).toNat - 1
    | .absent => 0 := by
  cases status with
  | stale => simp only [gapAdd_eq, sub_eq_zero]
  | fresh => rfl
  | absent => rfl

section

variable {s : State} {n : Station} {seq : BitVec 4} {role : BitVec 3} {f : ReportFields}

/-- What the alarms of a report leave for the consent engine to read: the straps and the roster. -/
theorem State.heeded_reads : (s.heeded n seq role f).self = s.self
    ∧ ∀ k, ((s.heeded n seq role f).entry k).expected = (s.entry k).expected := by
  refine ⟨State.self_congr (Sheds.heeded s n seq role f).straps, fun k => ?_⟩
  have htable : (s.filed n seq role f).SameTable (s.heeded n seq role f) :=
    .of_entries (by simp [State.heeded, State.alerted])
  rw [htable.expected, State.filed_expected]

theorem State.consulted_reads : (s.consulted n seq role f).ctl.straps = s.ctl.straps
    ∧ ∀ k, ((s.consulted n seq role f).entry k).expected = (s.entry k).expected := by
  obtain ⟨hpeers, hctl, -⟩ := s.consulted_keeps n seq role f
  refine ⟨by rw [hctl, (Sheds.heeded s n seq role f).straps], fun k => ?_⟩
  rw [State.entry_congr hpeers, State.heeded_reads.2]

theorem State.acceptReport_consent : (s.acceptReport n seq role f).consent = (s.attended n seq role f).consent :=
  ((s.attended n seq role f).calmed_keeps n _ _ _).1

/-- An echo of the own PENDING proposal is noted (R53). -/
theorem State.acceptReport_echo {me : Station} (hme : s.self = some me) (hn : n ≠ me)
    (hpending : s.consent.own.status = .pending) (hwindow : s.consent.own.windowStart.isSome = true)
    (hroster : (s.entry n).expected.isSome = true) (hproposer : f.echoProposer = byteOf (stationNumber me))
    (hnumber : f.echoNumber = s.consent.own.number) : (s.acceptReport n seq role f).consent.own =
      { s.consent.own with echoSeen := s.consent.own.echoSeen.set n true } := by
  obtain ⟨hself, hexpected⟩ := s.heeded_reads (n := n) (seq := seq) (role := role) (f := f)
  have hown := (Sheds.heeded s n seq role f).pending hpending
  have hstation : stationOf (byteOf (stationNumber me)).toNat = some me :=
    (by decide : ∀ k : Station, stationOf (byteOf (stationNumber k)).toNat = some k) me
  have hlisted : n ∈ (s.heeded n seq role f).rosterOthers := by
    have hall : n ∈ allStations := (by decide : ∀ k : Station, k ∈ allStations) n
    simp [State.rosterOthers, State.others, hself, hme, hexpected, hroster, hall, Ne.symm hn]
  have hecho : (s.heeded n seq role f).noteEcho n f =
      (s.heeded n seq role f).modOwn fun r => { r with echoSeen := r.echoSeen.set n true } :=
    if_pos ⟨hown ▸ hpending, hown ▸ hwindow, hlisted, by rw [hproposer, hstation, hself, hme], hown ▸ hnumber⟩
  have hnoted : (s.consulted n seq role f).consent.own =
      { s.consent.own with echoSeen := s.consent.own.echoSeen.set n true } := by
    have hkept (u : State) : (u.updateHeld n f).consent.own = u.consent.own := by
      unfold State.updateHeld State.modConsent
      dsimp only
      (repeat' split) <;> rfl
    rw [State.consulted, hkept, hecho, ← hown]
    rfl
  rw [State.acceptReport_consent, State.attended_eq_consulted,
    (Consenting.dutiesTake _ n f).pending (by rw [hnoted]; exact hpending)]
  exact hnoted

/-- The held proposal of the reporting station follows its report (R58). -/
theorem State.acceptReport_held : (s.acceptReport n seq role f).consent.held =
    s.consent.held.bind fun h => if h.proposer = n then h.afterReport f else some h := by
  have hheld := (Sheds.heeded s n seq role f).held
  have hecho : ((s.heeded n seq role f).noteEcho n f).consent.held = s.consent.held := by
    rw [← hheld]
    unfold State.noteEcho
    dsimp only
    split <;> rfl
  rw [State.acceptReport_consent, State.attended_eq_consulted, (Consenting.dutiesTake _ n f).held, ← hecho]
  unfold State.consulted State.updateHeld State.modConsent
  dsimp only
  split
  · next h heq =>
    rw [heq, Option.bind_some]
    split
    · rfl
    · exact heq
  · next heq => rw [heq]; rfl

/-- WALK_ACTIVE is held by hoist and swing stations as the walk station's report shows (R121). -/
theorem State.acceptReport_walkActive (hheld : s.is .hoist = true ∨ s.is .swing = true)
    (hwalk : s.walkStation = some n) :
    (s.acceptReport n seq role f).hasCause .walkActive = decide (2 ≤ f.phase.toNat % 8) := by
  have hwalking : ∀ p : Byte, (WalkState.ofPhase p).walking = decide (2 ≤ p.toNat % 8) := by decide
  obtain ⟨hstraps, hexpected⟩ := s.consulted_reads (n := n) (seq := seq) (role := role) (f := f)
  have hstation := (State.walkStation_congr hexpected).trans hwalk
  have hreturns : Alerts reportCodes (reportCauses.erase .walkActive) 5 (s.attended n seq role f)
      (s.acceptReport n seq role f) := .calmed _ n _ _ _
  rw [hreturns.cause _ (by decide), State.attended_eq_consulted, ← hwalking]
  rw [← State.is_congr hstraps, ← State.is_congr hstraps] at hheld
  generalize s.consulted n seq role f = u at *
  have hrole : u.is .walk = false ∧ u.is .drag = false ∧ u.heldByWalk = true := by
    rcases hheld with h | h
    · simp [State.heldByWalk, State.is_of_is h]
    · simp [State.heldByWalk, State.is_of_is h]
  obtain ⟨hwalk', hdrag, hholds⟩ := hrole
  have hduties : u.dutiesTake n f = u.walkActive (.ofPhase f.phase) := by
    simp [State.dutiesTake, State.walkWorks, hwalk', hdrag, hholds, hstation]
  rw [hduties]
  unfold State.walkActive
  split
  · next h => rw [State.addCause_hasCause, if_pos rfl, h]
  · next h => rw [State.removeCause_hasCause, if_pos rfl]; exact (Bool.not_eq_true _ ▸ h).symm

end

end Sys2Proof.Machine
end

section
/-!
PROOFS. The walk station at a report of a roster drag (R127, R136, R138); the walk clause of O29.
-/

set_option Elab.async false

namespace Sys2Proof.Machine

/-! ### The forced causes (R136) -/

theorem ForcedCauses.put_false_of_isEmpty {x : ForcedCauses} (h : x.isEmpty = true) (c : ForcedCause) :
    x.put c false = x := by
  obtain ⟨a, b, d⟩ := x
  cases c <;> simp_all [ForcedCauses.isEmpty, ForcedCauses.put]

theorem State.clearForced_walk (s : State) (c : ForcedCause) :
    (s.clearForced c).walk = { s.walk with forced := s.walk.forced.put c false } := by
  unfold State.clearForced
  split
  · next h => rw [ForcedCauses.put_false_of_isEmpty h]
  · dsimp only
    split
    · simp
    · rfl

theorem State.clearForced_ann {s : State} (huse : s.alarmInUse = true) {c : ForcedCause}
    (hbefore : s.walk.forced.isEmpty = false) (hafter : (s.walk.forced.put c false).isEmpty = true) :
    (s.clearForced c).ann .walkForcedStop = (s.ann .walkForcedStop).afterReturn := by
  have hclear : s.clearForced c = (s.modWalk fun w => { w with forced := w.forced.put c false }).returnAlarm
      .walkForcedStop :=
    (if_neg (by simp [hbefore])).trans (if_pos hafter)
  rw [hclear, State.returnAlarm_ann (by exact huse) rfl, if_pos rfl]
  rfl

/-- Behind its raise a FORCED walk stays as it was forced. -/
theorem State.enterForced_forced (s : State) (hwalk : s.is .walk = true) (c : ForcedCause) :
    (s.enterForced c).walk = (s.braked c).walk ∧ (s.enterForced c).out.brakeSet = true := by
  have hraise : Sheds (s.braked c) (s.enterForced c) := Sheds.raiseTrip
  refine ⟨?_, hraise.brake⟩
  obtain ⟨hkept, -, -⟩ | ⟨-, -, hstop⟩ := hraise.walk
  · exact hkept
  · obtain ⟨-, -, -, hkept⟩ := hstop hwalk
    exact hkept (show WalkState.forced ≠ .transfer by decide) (show WalkState.forced ≠ .stepping by decide)

/-! ### The roster drags as the walk station sees them -/

theorem State.SameTable.rosterOf {s t : State} (h : s.SameTable t) (r : Role) : t.rosterOf r = s.rosterOf r :=
  State.rosterOf_congr h.expected r

theorem State.allSupplying_iff (s : State) : s.allSupplying = true ↔
    ∀ m ∈ s.rosterOf .drag, (s.entry m).status = .fresh ∧ (s.entry m).fields.supply = 2 := by
  simp [State.allSupplying, PeerEntry.supplying, PeerEntry.shows, SupplyState.code, byteOf]

theorem State.allHandedBack_iff (s : State) : s.allHandedBack = true ↔
    ∀ m ∈ s.rosterOf .drag, (s.entry m).status = .absent ∨ (s.entry m).fields.supply = 0 := by
  simp [State.allHandedBack, PeerEntry.shows, SupplyState.code, byteOf]

theorem State.SameTable.drags {s t : State} (h : s.SameTable t) :
    t.allSupplying = s.allSupplying ∧ t.allHandedBack = s.allHandedBack := by
  unfold State.allSupplying State.allHandedBack
  rw [h.rosterOf]
  constructor <;> exact congrArg₂ List.all rfl (funext fun m => by rw [h m]; rfl)

/-! ### The sequencer at a drag's report, by walk state -/

section

variable {u : State} {n : Station}

theorem State.walkTakesDrag_of_transfer (h : u.walk.state = .transfer) :
    u.walkTakesDrag n = if u.allSupplying then (u.enterWalk .stepping).setBrake false else u := by
  unfold State.walkTakesDrag State.takeUpSupply
  simp only [h, true_and]

theorem State.walkTakesDrag_of_returning (h : u.walk.state = .returning) :
    u.walkTakesDrag n = if u.allHandedBack then (u.enterWalk .idle).clearProposal else u := by
  unfold State.walkTakesDrag State.endReturning
  simp only [h, true_and]

theorem State.walkTakesDrag_of_resting (h : u.walk.state = .idle ∨ u.walk.state = .proposing ∨ u.walk.state = .halted) :
    u.walkTakesDrag n = u := by
  unfold State.walkTakesDrag
  rcases h with h | h | h <;> simp only [h]

/-- A drag that shows another supply state forces the walk; no supply is taken for complete then (R136). -/
theorem State.walkTakesDrag_of_lost
    (h : u.walk.state = .stepping ∨ u.walk.state = .stopping ∨ u.walk.state = .forced)
    (hlost : (u.entry n).shows .walkSupply = false) (hall : u.allSupplying = false) :
    u.walkTakesDrag n = u.forceWalk .supply := by
  have hall' : (u.forceWalk .supply).allSupplying = false := by
    rw [(State.SameTable.of_entries (s := u) (by simp)).drags.1, hall]
  unfold State.walkTakesDrag
  rcases h with h | h | h <;> simp [h, hlost, hall']

theorem State.walkTakesDrag_of_supplied
    (h : u.walk.state = .stepping ∨ u.walk.state = .stopping ∨ u.walk.state = .forced)
    (hshown : (u.entry n).shows .walkSupply = true) :
    u.walkTakesDrag n = if u.allSupplying then u.clearForced .supply else u := by
  unfold State.walkTakesDrag
  rcases h with h | h | h <;> simp only [h, hshown, if_true]

end

/-! ### The report of a roster drag at the walk station -/

section

variable {s : State} {n : Station} {seq : BitVec 4} {role : BitVec 3} {f : ReportFields}

/-- Alarms and causes until the duties begin. -/
theorem Alerts.consulted : Alerts (reportCodes.erase .walkForcedStop) reportCauses 5 s (s.consulted n seq role f) :=
  ((Alerts.alerted _ n _).after (s := s)).trans (n := 0) .noted

/-- The reporting entry and the roster when the duties begin. -/
theorem State.consulted_table : (s.filed n seq role f).SameTable (s.consulted n seq role f) :=
  .of_entries (by simp [State.consulted, State.heeded, State.alerted])

theorem State.acceptReport_table_consulted :
    (s.consulted n seq role f).SameTable (s.acceptReport n seq role f) := by
  rw [State.acceptReport_eq, State.attended_eq_consulted]
  exact (State.SameTable.of_entries (by simp)).trans (State.calmed_sameTable _ _ _ _ _)

theorem State.consulted_shows : ((s.consulted n seq role f).entry n).shows .walkSupply = decide (f.supply = 2) := by
  have hfields : ((s.consulted n seq role f).entry n).fields = f := by
    rw [State.consulted_table n, State.filed_entry, if_pos rfl]
    rfl
  rw [PeerEntry.shows, hfields]
  rfl

theorem State.consulted_inputs : (s.consulted n seq role f).now = s.now ∧ (s.consulted n seq role f).meas = s.meas
    ∧ (s.consulted n seq role f).pending = s.pending := by
  simp [State.consulted, State.heeded, State.alerted, State.filed]

/-- A drag that shows another supply state is not in walk supply. -/
theorem State.consulted_lost (hdrag : (s.entry n).expected = some .drag) (hlost : f.supply ≠ 2) :
    (s.consulted n seq role f).allSupplying = false := by
  rw [← Bool.not_eq_true]
  intro h
  have hn : n ∈ (s.consulted n seq role f).rosterOf .drag :=
    State.mem_rosterOf.mpr ((State.consulted_reads.2 n).trans hdrag)
  have hsupplying : ((s.consulted n seq role f).entry n).supplying = true := List.all_eq_true.mp h n hn
  rw [PeerEntry.supplying, State.consulted_shows, decide_eq_false hlost, Bool.and_false] at hsupplying
  exact Bool.false_ne_true hsupplying

theorem State.inService_of_alerts {codes : List AlarmCode} {causes : List HoldCause} {k : Nat} {t : State}
    (h : Alerts codes causes k s t) (hs : s.inService = true) : t.inService = true := by
  have hconfigured : t.configured = s.configured := by unfold State.configured; rw [h.params]
  have haddressed : t.addressed = s.addressed := by unfold State.addressed; rw [h.straps]
  have honLink : t.onLink = s.onLink := by
    unfold State.onLink
    rw [haddressed]
    obtain hm | ⟨hm, hm'⟩ | ⟨hm, hm'⟩ := h.mode <;> simp [*]
  rw [State.inService, hconfigured, honLink]
  exact hs

/-- On the walk station a roster drag's report goes to the walk sequencer alone. -/
theorem State.attended_eq_walkTakesDrag (hwalk : s.is .walk = true) (hservice : s.inService = true)
    (hdrag : (s.entry n).expected = some .drag) :
    s.attended n seq role f = (s.consulted n seq role f).walkTakesDrag n := by
  obtain ⟨hstraps, hexpected⟩ := s.consulted_reads (n := n) (seq := seq) (role := role) (f := f)
  have hworks : (s.consulted n seq role f).walkWorks = true := by
    rw [State.walkWorks, State.is_congr hstraps, hwalk, State.inService_of_alerts Alerts.consulted hservice]
    rfl
  have hnotes : (s.consulted n seq role f).isRosterDrag n = true := by
    rw [State.isRosterDrag, hexpected, hdrag]
    rfl
  have hother : ((s.consulted n seq role f).walkTakesDrag n).walkStation ≠ some n := fun h => by
    have hentry := State.expected_of_walkStation h
    rw [State.entry_congr (s := s.consulted n seq role f) (by simp), hexpected, hdrag] at hentry
    exact absurd hentry (by decide)
  rw [State.attended_eq_consulted, State.dutiesTake]
  simp only [hworks, hnotes, Bool.and_self, if_true, if_neg hother]

/-- The walk when the sequencer takes the report: as it was, or stopped by the loss of RUN (R134). -/
theorem State.consulted_walk (hwalk : s.is .walk = true) : let u := s.consulted n seq role f
    u.out.brakeSet = s.out.brakeSet
    ∧ ((u.walk = s.walk ∧ u.consent.own.status = s.consent.own.status ∧ u.ctl.mode = s.ctl.mode)
      ∨ (s.ctl.mode = .run ∧ u.Grounded ∧ (s.walk.state = .transfer → u.walk.state = .idle)
        ∧ (s.walk.state = .stepping → u.walk.state = .stopping)
        ∧ (s.walk.state ≠ .transfer → u.consent.own.status = s.consent.own.status)
        ∧ (s.walk.state ≠ .transfer → s.walk.state ≠ .stepping → u.walk = s.walk))) := by
  obtain ⟨-, hctl, -, hwalk', hout, -⟩ := s.consulted_keeps n seq role f
  have hstatus : (s.consulted n seq role f).consent.own.status = (s.heeded n seq role f).consent.own.status := by
    unfold State.consulted State.updateHeld State.noteEcho State.modOwn State.modConsent
    dsimp only
    (repeat' split) <;> rfl
  have hground : (s.consulted n seq role f).Grounded ↔ (s.heeded n seq role f).Grounded := by
    unfold State.Grounded
    rw [hctl]
  have hheeded := Sheds.heeded s n seq role f
  dsimp only
  rw [hout, hwalk', hstatus, hground, hctl]
  refine ⟨hheeded.brake, hheeded.walk.imp (fun ⟨hw, ho, hm⟩ => ⟨hw, by rw [ho], hm⟩) fun ⟨hm, hg, hstop⟩ => ?_⟩
  obtain ⟨hidle, hstopping, hown, hkept⟩ := hstop hwalk
  exact ⟨hm, hg, hidle, hstopping, fun h => by rw [hown h], hkept⟩

/-- A moving walk still moves when the sequencer takes the report. -/
theorem State.consulted_moving (hwalk : s.is .walk = true)
    (h : s.walk.state = .stepping ∨ s.walk.state = .stopping) : let u := s.consulted n seq role f
    (u.walk.state = s.walk.state ∨ u.walk.state = .stopping)
      ∧ (u.walk.state = .stepping ∨ u.walk.state = .stopping) := by
  obtain ⟨-, ⟨hkept, -⟩ | ⟨-, -, -, hstopping, -, hkept⟩⟩ := State.consulted_walk (n := n) (seq := seq) (role := role)
    (f := f) hwalk
  · exact ⟨.inl (by rw [hkept]), by rw [hkept]; exact h⟩
  · have hstopped : (s.consulted n seq role f).walk.state = .stopping := by
      rcases h with h | h
      · exact hstopping h
      · rw [hkept (by rw [h]; decide) (by rw [h]; decide), h]
    exact ⟨.inr hstopped, .inr hstopped⟩

/-- In other walk states than TRANSFER and STEPPING a stop request leaves walk and own proposal. -/
theorem State.consulted_walk_of_still (hwalk : s.is .walk = true) (htransfer : s.walk.state ≠ .transfer)
    (hstep : s.walk.state ≠ .stepping) : let u := s.consulted n seq role f
    u.walk = s.walk ∧ u.consent.own.status = s.consent.own.status := by
  obtain ⟨-, ⟨hkept, hown, -⟩ | ⟨-, -, -, -, hown, hkept⟩⟩ := State.consulted_walk (n := n) (seq := seq) (role := role)
    (f := f) hwalk
  · exact ⟨hkept, hown⟩
  · exact ⟨hkept htransfer hstep, hown htransfer⟩

section

variable (hwalk : s.is .walk = true) (hservice : s.inService = true) (hdrag : (s.entry n).expected = some .drag)

include hwalk hservice hdrag

/-- What the returns leave of the sequencer's work. -/
theorem State.acceptReport_sequenced : let u := s.consulted n seq role f
    let t := s.acceptReport n seq role f
    t.walk = (u.walkTakesDrag n).walk ∧ t.consent = (u.walkTakesDrag n).consent
      ∧ t.out.brakeSet = (u.walkTakesDrag n).out.brakeSet
      ∧ ((u.walkTakesDrag n).ctl.mode = .run → t.ctl.mode = .run) ∧ (u.Grounded → t.ctl.mode ≠ .run) := by
  have hv := State.attended_eq_walkTakesDrag (seq := seq) (role := role) (f := f) hwalk hservice hdrag
  have heases := Eases.calmed (s.attended n seq role f) n (s.peers.someMark fun e => e.lostMark)
    (s.peers.someMark fun e => e.mismatchMark) (s.peers.someMark fun e => e.stopMark)
  have hreturns : Alerts reportCodes reportCauses 5 (s.attended n seq role f) (s.acceptReport n seq role f) :=
    .calmed _ n _ _ _
  have hduties : Alerts reportCodes reportCauses 3 (s.consulted n seq role f)
      ((s.consulted n seq role f).walkTakesDrag n) := .walkTakesDrag
  obtain ⟨hconsent, hkept, -⟩ := (s.attended n seq role f).calmed_keeps n (s.peers.someMark fun e => e.lostMark)
    (s.peers.someMark fun e => e.mismatchMark) (s.peers.someMark fun e => e.stopMark)
  rw [hv] at heases hreturns hconsent hkept
  rw [State.acceptReport_eq, hv] at *
  exact ⟨hkept, hconsent, congrArg (fun l => l.2.2.1) heases.lines, heases.run,
    fun h => ((hreturns.grounded ∘ hduties.grounded) h).1⟩

/-- TRANSFER ends in STEPPING once every drag is in walk supply (R127). -/
theorem State.acceptReport_transfer (h : s.walk.state = .transfer)
    (hrun : s.ctl.mode = .run → (s.acceptReport n seq role f).ctl.mode = .run) :
    let t := s.acceptReport n seq role f
    if t.allSupplying = true then t.walk.state = .stepping ∧ t.walk.supplyLimit = none ∧ t.out.brakeSet = false
    else t.walk = s.walk ∧ t.out.brakeSet = s.out.brakeSet := by
  obtain ⟨hwalk', -, hbrake, -, hground⟩ := State.acceptReport_sequenced (seq := seq) (role := role) (f := f) hwalk
    hservice hdrag
  obtain ⟨hbrake', ⟨hkept, -, -⟩ | ⟨hwas, hgrounded, -⟩⟩ := State.consulted_walk (n := n) (seq := seq) (role := role)
    (f := f) hwalk
  · rw [State.walkTakesDrag_of_transfer (hkept ▸ h)] at hwalk' hbrake
    dsimp only
    rw [State.acceptReport_table_consulted.drags.1, hwalk', hbrake]
    split
    · exact ⟨rfl, rfl, rfl⟩
    · exact ⟨hkept, hbrake'⟩
  · exact absurd (hrun hwas) (hground hgrounded)

/-- A report that drops the station from RUN abandons TRANSFER (R134). -/
theorem State.acceptReport_transfer_dropped (h : s.walk.state = .transfer) (hwas : s.ctl.mode = .run)
    (hleft : (s.acceptReport n seq role f).ctl.mode ≠ .run) : (s.acceptReport n seq role f).walk.state = .idle := by
  obtain ⟨hwalk', -, -, hrun, -⟩ := State.acceptReport_sequenced (seq := seq) (role := role) (f := f) hwalk hservice
    hdrag
  obtain ⟨-, ⟨hkept, -, hmode⟩ | ⟨-, -, hidle, -⟩⟩ := State.consulted_walk (n := n) (seq := seq) (role := role) (f := f)
    hwalk
  · refine absurd (hrun ?_) hleft
    rw [State.walkTakesDrag_of_transfer (hkept ▸ h)]
    split
    · exact hmode.trans hwas
    · exact hmode.trans hwas
  · rw [hwalk', State.walkTakesDrag_of_resting (.inl (hidle h))]
    exact hidle h

/-- A drag that shows another supply state forces a moving walk (R136). -/
theorem State.acceptReport_forces (huse : s.alarmInUse = true)
    (h : s.walk.state = .stepping ∨ s.walk.state = .stopping) (hlost : f.supply ≠ 2) :
    let t := s.acceptReport n seq role f
    t.walk.state = .forced ∧ t.camsStopped ∧ t.walk.forced = ⟨false, true, false⟩
      ∧ RaisedAmong s t .walkForcedStop s.meas.angleA := by
  obtain ⟨hwalk', -, hbrake, -⟩ := State.acceptReport_sequenced (seq := seq) (role := role) (f := f) hwalk hservice
    hdrag
  obtain ⟨-, hmoves⟩ := State.consulted_moving (n := n) (seq := seq) (role := role) (f := f) hwalk h
  have hevent : Alerts (reportCodes.erase .walkForcedStop) reportCauses 5 s (s.consulted n seq role f) := .consulted
  have hforced : (s.consulted n seq role f).walkTakesDrag n = (s.consulted n seq role f).enterForced .supply := by
    rw [State.walkTakesDrag_of_lost (hmoves.imp_right .inl) (State.consulted_shows.trans (decide_eq_false hlost))
      (State.consulted_lost hdrag hlost)]
    unfold State.forceWalk
    rcases hmoves with h | h <;> simp only [h]
  obtain ⟨hkept, hset⟩ := (s.consulted n seq role f).enterForced_forced ((State.is_congr hevent.straps _).trans hwalk)
    .supply
  obtain ⟨hnow, hmeas, -⟩ := s.consulted_inputs (n := n) (seq := seq) (role := role) (f := f)
  have hbraked : Alerts (reportCodes.erase .walkForcedStop) reportCauses 0 (s.consulted n seq role f)
      ((s.consulted n seq role f).braked .supply) := .kept rfl rfl
  have hreturns : Alerts (reportCodes.erase .walkForcedStop) reportCauses 5 (s.attended n seq role f)
      (s.acceptReport n seq role f) := .calmed _ n _ _ _
  rw [State.attended_eq_walkTakesDrag hwalk hservice hdrag, hforced, State.enterForced_eq,
    hmeas] at hreturns
  rw [hforced] at hwalk' hbrake
  rw [hkept] at hwalk'
  have huse' := (State.alarmInUse_of_straps hbraked.straps).trans
    ((State.alarmInUse_of_straps hevent.straps).trans huse)
  have hnow' : ((s.consulted n seq role f).braked .supply).now = s.now := hnow
  have hstopped : ((s.consulted n seq role f).braked .supply).walk.state = .forced
      ∧ ((s.consulted n seq role f).braked .supply).walk.reference = 0
      ∧ ((s.consulted n seq role f).braked .supply).walk.left = 0
      ∧ ((s.consulted n seq role f).braked .supply).walk.right = 0
      ∧ ((s.consulted n seq role f).braked .supply).walk.forced = ⟨false, true, false⟩ := ⟨rfl, rfl, rfl, rfl, rfl⟩
  have hbefore := hevent.trans hbraked
  generalize (s.consulted n seq role f).braked .supply = v at *
  have hafter : Alerts (reportCodes.erase .walkForcedStop) reportCauses 6 (v.latch .walkForcedStop s.meas.angleA)
      (s.acceptReport n seq role f) :=
    (Alerts.latch_raiseTrip huse').trans hreturns
  obtain ⟨hstate, hreference, hleft, hright, hcause⟩ := hstopped
  dsimp only
  unfold State.camsStopped
  rw [hwalk', hbrake]
  exact ⟨hstate, ⟨hreference, hleft, hright, hset⟩, hcause,
    RaisedAmong.of_latch hbefore (by decide) hnow' hafter (by decide) (by decide)⟩

/-- A drag in walk supply leaves a moving walk its state. -/
theorem State.acceptReport_moves (h : s.walk.state = .stepping ∨ s.walk.state = .stopping) (hsupplied : f.supply = 2) :
    let t := s.acceptReport n seq role f
    t.walk.state = s.walk.state ∨ t.walk.state = .stopping := by
  obtain ⟨hwalk', -⟩ := State.acceptReport_sequenced (seq := seq) (role := role) (f := f) hwalk hservice hdrag
  obtain ⟨hstate, hmoves⟩ := State.consulted_moving (n := n) (seq := seq) (role := role) (f := f) hwalk h
  dsimp only
  rw [hwalk', State.walkTakesDrag_of_supplied (hmoves.imp_right .inl)
    (State.consulted_shows.trans (decide_eq_true hsupplied))]
  split
  · rw [State.clearForced_walk]
    exact hstate
  · exact hstate

/-- In FORCED the supply cause follows what the drags show (R136). -/
theorem State.acceptReport_forced (huse : s.alarmInUse = true) (h : s.walk.state = .forced) :
    let t := s.acceptReport n seq role f
    t.walk.state = .forced
    ∧ t.walk.forced = { s.walk.forced with
        supply := decide (f.supply ≠ 2) || (s.walk.forced.supply && !t.allSupplying) }
    ∧ (s.walk.forced.isEmpty = false → t.walk.forced.isEmpty = true →
        t.ann .walkForcedStop = (s.ann .walkForcedStop).afterReturn) := by
  obtain ⟨hwalk', -⟩ := State.acceptReport_sequenced (seq := seq) (role := role) (f := f) hwalk hservice hdrag
  have hevent : Alerts (reportCodes.erase .walkForcedStop) reportCauses 5 s (s.consulted n seq role f) := .consulted
  have hreturns : Alerts (reportCodes.erase .walkForcedStop) reportCauses 5 (s.attended n seq role f)
      (s.acceptReport n seq role f) := .calmed _ n _ _ _
  obtain ⟨hkept, -⟩ := State.consulted_walk_of_still (n := n) (seq := seq) (role := role) (f := f) hwalk
    (by rw [h]; decide) (by rw [h]; decide)
  rw [State.attended_eq_walkTakesDrag hwalk hservice hdrag] at hreturns
  have hann := hreturns.ann .walkForcedStop (by decide)
  dsimp only
  rw [State.acceptReport_table_consulted.drags.1, hwalk', hann]
  by_cases hsupplied : f.supply = 2
  · rw [State.walkTakesDrag_of_supplied (.inr (.inr (hkept ▸ h)))
      (State.consulted_shows.trans (decide_eq_true hsupplied))]
    by_cases hall : (s.consulted n seq role f).allSupplying = true
    · rw [if_pos hall, State.clearForced_walk, hkept, ← hevent.ann .walkForcedStop (by decide)]
      refine ⟨h, by simp [hsupplied, hall, ForcedCauses.put], fun hbefore hafter => ?_⟩
      exact State.clearForced_ann ((State.alarmInUse_of_straps hevent.straps).trans huse) (hkept ▸ hbefore)
        (hkept ▸ hafter)
    · rw [if_neg hall, hkept]
      exact ⟨h, by simp [hsupplied, hall], fun hbefore hafter => absurd (hbefore.symm.trans hafter) (by decide)⟩
  · have hforced : (s.consulted n seq role f).walkTakesDrag n =
        (s.consulted n seq role f).modWalk fun w => { w with forced := w.forced.put .supply true } := by
      rw [State.walkTakesDrag_of_lost (.inr (.inr (hkept ▸ h)))
        (State.consulted_shows.trans (decide_eq_false hsupplied))
        (State.consulted_lost hdrag hsupplied)]
      unfold State.forceWalk
      rw [hkept, h]
    have hnow : ((s.consulted n seq role f).walkTakesDrag n).walk =
        { s.walk with forced := s.walk.forced.put .supply true } := by
      rw [hforced, ← hkept]
      rfl
    rw [hnow]
    refine ⟨h, by rw [decide_eq_true hsupplied, Bool.true_or]; rfl, fun _ hempty => ?_⟩
    simp [ForcedCauses.put, ForcedCauses.isEmpty] at hempty

/-- RETURNING ends once every drag is handed back (R138). -/
theorem State.acceptReport_returning (h : s.walk.state = .returning) :
    let t := s.acceptReport n seq role f
    t.walk.state = (if t.allHandedBack = true then .idle else .returning)
    ∧ t.consent.own.status = (if t.allHandedBack = true ∧ (s.consent.own.status = .active
        ∨ s.consent.own.status = .withdrawing) then .idle else s.consent.own.status) := by
  obtain ⟨hwalk', hconsent, -⟩ := State.acceptReport_sequenced (seq := seq) (role := role) (f := f) hwalk hservice hdrag
  obtain ⟨hkept, hstatus⟩ := State.consulted_walk_of_still (n := n) (seq := seq) (role := role) (f := f) hwalk
    (by rw [h]; decide) (by rw [h]; decide)
  have hlead : ((s.consulted n seq role f).enterWalk .idle).swingLead = false := by
    have hrole : ((s.consulted n seq role f).enterWalk .idle).is .walk = true :=
      (State.is_congr State.consulted_reads.1 _).trans hwalk
    rw [State.swingLead, State.is_of_is hrole]
    rfl
  dsimp only
  rw [State.acceptReport_table_consulted.drags.2, hwalk', hconsent, State.walkTakesDrag_of_returning (hkept ▸ h)]
  split
  · next hback =>
    rw [State.clearProposal_eq (.inr hlead), ← hstatus]
    exact ⟨rfl, by simp only [hback, true_and]; rfl⟩
  · next hback =>
    exact ⟨hkept ▸ h, by simp [hback, hstatus]⟩

/-- Other walk states take nothing from a drag's report. -/
theorem State.acceptReport_resting
    (h : s.walk.state = .idle ∨ s.walk.state = .proposing ∨ s.walk.state = .halted) :
    (s.acceptReport n seq role f).walk = s.walk := by
  obtain ⟨hwalk', -⟩ := State.acceptReport_sequenced (seq := seq) (role := role) (f := f) hwalk hservice hdrag
  obtain ⟨hkept, -⟩ := State.consulted_walk_of_still (n := n) (seq := seq) (role := role) (f := f) hwalk
    (by rcases h with h | h | h <;> rw [h] <;> decide) (by rcases h with h | h | h <;> rw [h] <;> decide)
  rw [hwalk', State.walkTakesDrag_of_resting (hkept ▸ h), hkept]

end

end

end Sys2Proof.Machine
end

section
/-!
PROOFS. A drag at a report of the walk station (R129, R130); the supply clause of O29.
-/

set_option Elab.async false

namespace Sys2Proof.Machine

/-! ### The supply while codes are raised and causes added -/

/-- Supply, driving lines, reference and duty stay, with TRANSFER_FAIL and LOCAL_TRIP; of the drive a target alone may
go, in supply state NORMAL (R10). -/
structure State.SupplyKept (s t : State) : Prop where
  role : t.role = s.role
  lines : t.out.lines = s.out.lines
  reference : t.drive.reference = s.drive.reference
  duty : t.drive.duty = s.drive.duty
  drive : s.role.supply ≠ .normal → t.drive = s.drive
  fail : t.ann .transferFail = s.ann .transferFail
  trip : t.hasCause .localTrip = s.hasCause .localTrip

/-- From `s` to `t` codes have been raised and causes added: the supply stays unless LOCAL_TRIP has come (R131). -/
structure Sustains (s t : State) : Prop where
  stands : s.TripStands → t.TripStands
  supply : s.SupplyKept t ∨ (s.hasCause .localTrip = false ∧ t.TripStands)

namespace Sustains

variable {s t u : State}

theorem trans (h : Sustains s t) (h' : Sustains t u) : Sustains s u where
  stands := h'.stands ∘ h.stands
  supply := by
    obtain hkept | ⟨habsent, hstands⟩ := h.supply
    · obtain hkept' | ⟨habsent', hstands'⟩ := h'.supply
      · exact .inl {
          role := hkept'.role.trans hkept.role
          lines := hkept'.lines.trans hkept.lines
          reference := hkept'.reference.trans hkept.reference
          duty := hkept'.duty.trans hkept.duty
          drive := fun hs => (hkept'.drive (by rw [hkept.role]; exact hs)).trans (hkept.drive hs)
          fail := hkept'.fail.trans hkept.fail
          trip := hkept'.trip.trans hkept.trip }
      · exact .inr ⟨hkept.trip.symm.trans habsent', hstands'⟩
    · exact .inr ⟨habsent, h'.stands hstands⟩

/-- What leaves drive, role logic and driving lines, and of the alarms TRANSFER_FAIL and LOCAL_TRIP. -/
theorem of_alerts {n : Nat} (h : Alerts (reportCodes.erase .transferFail) (reportCauses.erase .localTrip) n s t)
    (hr : t.role = s.role := by simp) (hd : t.drive = s.drive := by simp)
    (ho : t.out.lines = s.out.lines := by simp) : Sustains s t :=
  ⟨h.stands, .inl ⟨hr, ho, by rw [hd], by rw [hd], fun _ => hd, h.ann _ (by decide), h.cause _ (by decide)⟩⟩

theorem refl (s : State) : Sustains s s := of_alerts (n := 0) (.refl s) rfl rfl rfl

theorem ite {p : Prop} [Decidable p] (h : p → Sustains s t) (h' : ¬p → Sustains s u) :
    Sustains s (if p then t else u) := by
  split
  · next hp => exact h hp
  · next hp => exact h' hp

theorem guarded {p : Prop} [Decidable p] (h : p → Sustains s t) : Sustains s (if p then t else s) :=
  .ite h fun _ => .refl s

theorem enterHold_supply (s : State) : s.enterHold.out.lines = s.out.lines ∧ s.enterHold.drive =
    { s.drive with target := if s.role.supply = .normal then 0 else s.drive.target } := by
  have hstop (u : State) (hw : u.is .walk = true) : u.stopWalk.out = u.out ∧ u.stopWalk.drive = u.drive := by
    by_cases hstep : u.walk.state = .stepping
    · rw [State.stopWalk_of_stepping hstep]
      exact ⟨rfl, rfl⟩
    by_cases htransfer : u.walk.state = .transfer
    · rw [State.stopWalk_of_transfer hw htransfer]
      exact ⟨rfl, rfl⟩
    · rw [State.stopWalk_of_other hstep htransfer]
      exact ⟨rfl, rfl⟩
  have hrest : s.dropToHold.restTarget.out.lines = s.out.lines ∧ s.dropToHold.restTarget.drive =
      { s.drive with target := if s.role.supply = .normal then 0 else s.drive.target } := by
    rw [State.restTarget_eq]
    exact ⟨rfl, rfl⟩
  rw [State.enterHold_eq]
  split
  · next h =>
    obtain ⟨hout, hdrive⟩ := hstop s.dropToHold.restTarget ((State.restTarget_is _ _).trans h)
    rw [hout, hdrive]
    exact hrest
  · exact hrest

theorem addCause {x : HoldCause} (hx : x ∈ reportCauses.erase .localTrip) : Sustains s (s.addCause x) := by
  have hevent : Alerts (reportCodes.erase .transferFail) (reportCauses.erase .localTrip) 0 s (s.addCause x) :=
    .addCause hx
  refine ⟨hevent.stands, .inl ?_⟩
  have hdrive : (s.addCause x).out.lines = s.out.lines ∧ ((s.addCause x).drive = s.drive
      ∨ (s.addCause x).drive = { s.drive with target := if s.role.supply = .normal then 0 else s.drive.target }) := by
    unfold State.addCause
    split
    · exact ⟨rfl, .inl rfl⟩
    · dsimp only
      split
      · obtain ⟨hout, hdrive⟩ := enterHold_supply (s.putCause x true)
        exact ⟨hout, .inr hdrive⟩
      · exact ⟨rfl, .inl rfl⟩
  obtain ⟨hout, hdrive⟩ := hdrive
  refine ⟨by simp, hout, ?_, ?_, fun hs => ?_, hevent.ann _ (by decide), hevent.cause _ (by decide)⟩
  · rcases hdrive with h | h <;> rw [h]
  · rcases hdrive with h | h <;> rw [h]
  · rcases hdrive with h | h <;> rw [h]
    rw [if_neg hs]

theorem raiseTrip {c : AlarmCode} {v : Int} (hc : c ∈ reportCodes.erase .transferFail := by decide)
    (htrip : c.severity = .trip := by rfl) : Sustains s (s.raiseTrip c v) := by
  have hlatch : Sustains s ((s.latch c v).armAndNotice c v s.ctl.mode) := by
    have hevent : Alerts (reportCodes.erase .transferFail) (reportCauses.erase .localTrip) 1 s
        ((s.latch c v).armAndNotice c v s.ctl.mode) :=
      (Alerts.latch hc).trans .armAndNotice
    exact of_alerts hevent
  cases huse : s.alarmInUse with
  | false =>
    have hnone : s.raiseTrip c v = s := if_pos (by simp [huse])
    rw [hnone]
    exact .refl s
  | true =>
    cases hfirst : s.alarm.tripsNormal with
    | false =>
      rw [State.raiseTrip_of_inUse huse, State.latchTrip, if_neg (by simp [hfirst])]
      exact hlatch
    | true =>
      cases hlocal : s.hasCause .localTrip with
      | true =>
        rw [State.raiseTrip_of_inUse huse, State.latchTrip, if_pos hfirst, State.addLocalTrip,
          if_pos (show (s.latch c v).hasCause .localTrip = true from hlocal)]
        exact hlatch
      | false =>
        have hstands := State.raiseTrip_tripStands (s := s) htrip huse (fun h => by simp [hfirst] at h) v
        exact ⟨fun _ => hstands, .inr ⟨hlocal, hstands⟩⟩

theorem consulted (s : State) (n : Station) (seq : BitVec 4) (role : BitVec 3) (f : ReportFields) :
    Sustains s (s.consulted n seq role f) := by
  have hfiled : Sustains s (s.filed n seq role f) := of_alerts (n := 0) (.kept rfl rfl) rfl rfl rfl
  have hunlisted (u : State) : Sustains u (u.raiseUnlisted n (s.entry n)) :=
    .guarded fun _ => of_alerts (n := 1) .raiseWarn
  have hmismatch (u : State) : Sustains u (u.raiseMismatch n (s.entry n)) := .guarded fun _ => .raiseTrip
  have hpresent (u : State) : Sustains u u.conflicted := of_alerts (n := 0) (.kept rfl rfl) rfl rfl rfl
  have hraise (u : State) : Sustains u ((u.raiseTrip .roleConflict (stationNumber n)).addCause .roleConflict) :=
    (raiseTrip).trans (.addCause (by decide))
  have hconflict (u : State) : Sustains u (u.findConflict n) := .guarded fun _ => (hpresent u).trans (hraise _)
  have hstop (u : State) (b : Bool) : Sustains u (u.addPeerStop b) := .guarded fun _ => .addCause (by decide)
  have hnoted (u : State) : Sustains u ((u.noteEcho n f).updateHeld n f) := of_alerts (n := 0) .kept
  exact ((hfiled.trans (hunlisted _)).trans (hmismatch _)).trans (((hconflict _).trans (hstop _ _)).trans (hnoted _))

end Sustains

/-! ### The return of the supply (R130) -/

/-- The transfer output opens: NORMAL at once with the feedback low, else the return limit starts. -/
theorem State.openTransfer_spec {s : State} (huse : s.alarmInUse = true) : let t := s.openTransfer
    t.role.supply = (if s.feedbackLow = true then .normal else s.role.supply)
    ∧ t.role.transferLimit = (if s.feedbackLow = true then none else s.role.transferLimit)
    ∧ t.role.returnLimit = (if s.feedbackLow = true then none else some s.now)
    ∧ t.out.transferClosed = false
    ∧ t.ann .transferFail =
      (if s.feedbackLow = true then (s.ann .transferFail).afterReturn else s.ann .transferFail) := by
  have hlow : ((s.setTransfer false).modRole fun r => { r with returnLimit := some s.now }).feedbackLow =
      s.feedbackLow := rfl
  unfold State.openTransfer
  dsimp only
  rw [hlow]
  split
  · unfold State.supplyNormal
    rw [State.returnAlarm_ann (by exact huse) rfl, if_pos rfl]
    exact ⟨by simp, by simp, by simp, congrArg (fun l => l.2.2.2) (State.returnAlarm_lines _ _), rfl⟩
  · exact ⟨rfl, rfl, rfl, rfl, rfl⟩

/-- The supply state RETURNING before the output opens. -/
def State.handingBack (s : State) : State := s.modRole fun r => { r with supply := .returning, transferLimit := none }

theorem State.returnSupply_eq (s : State) :
    s.returnSupply = if s.drive.reference = 0 then s.handingBack.openTransfer else s.handingBack := rfl

/-- The supply is given back: the output opens at once with the reference at 0. -/
theorem State.returnSupply_spec {s : State} (huse : s.alarmInUse = true) : let t := s.returnSupply
    t.role.supply = (if s.drive.reference = 0 ∧ s.feedbackLow = true then .normal else .returning)
    ∧ t.role.transferLimit = none
    ∧ t.out.transferClosed = (if s.drive.reference = 0 then false else s.out.transferClosed)
    ∧ t.role.returnLimit = (if s.drive.reference = 0 then (if s.feedbackLow = true then none else some s.now)
        else s.role.returnLimit)
    ∧ t.ann .transferFail = (if s.drive.reference = 0 ∧ s.feedbackLow = true then (s.ann .transferFail).afterReturn
        else s.ann .transferFail) := by
  dsimp only
  rw [State.returnSupply_eq]
  by_cases hstill : s.drive.reference = 0
  · obtain ⟨hsupply, htransfer, hreturn, hclosed, hann⟩ := State.openTransfer_spec (s := s.handingBack) huse
    have hlow : s.handingBack.feedbackLow = s.feedbackLow := rfl
    rw [hlow] at hsupply htransfer hreturn hann
    rw [if_pos hstill, hsupply, htransfer, hreturn, hclosed, hann]
    simp only [hstill, true_and, if_true]
    exact ⟨rfl, ite_self _, rfl, rfl⟩
  · simp only [hstill, false_and, if_false]
    exact ⟨rfl, rfl, rfl, rfl, rfl⟩

/-! ### The report of the walk station at a drag -/

/-- A station of another role is no follow of the own pair (R6). -/
theorem State.followStation_ne {s : State} {n : Station} (h : (s.entry n).expected ≠ s.ownRole) :
    s.followStation ≠ some n := fun hf => by
  have hfound := List.find?_some hf
  simp only [Bool.and_eq_true, beq_iff_eq] at hfound
  exact h hfound.1

theorem State.calmed_drive {s : State} {n : Station} (h : (s.entry n).expected ≠ s.ownRole)
    (lost mismatch stop : Bool) : (s.calmed n lost mismatch stop).drive = s.drive := by
  have hkept : s.SameTable ((((s.recovered lost).returnMismatch mismatch).endConflict).removePeerStop stop) :=
    (s.recovered_sameTable lost).trans (.of_entries (by simp))
  have hevent : Alerts reportCodes reportCauses 4 s
      ((((s.recovered lost).returnMismatch mismatch).endConflict).removePeerStop stop) :=
    (((Alerts.recovered).trans .returnMismatch).trans .endConflict).trans (n := 0) .removePeerStop
  have hdrive : ((((s.recovered lost).returnMismatch mismatch).endConflict).removePeerStop stop).drive = s.drive := by
    simp [State.recovered]
  rw [State.calmed, State.released]
  generalize (((s.recovered lost).returnMismatch mismatch).endConflict).removePeerStop stop = u at *
  rw [← hkept.expected, ← State.ownRole_congr hevent.straps] at h
  have hpartner : (u.partnerTakes n).drive = u.drive := by
    unfold State.partnerTakes
    rw [beq_eq_false_iff_ne.mpr (State.followStation_ne h)]
    split <;> simp
  rw [← hdrive, ← hpartner]
  simp

section

variable {s : State} {n : Station} {seq : BitVec 4} {role : BitVec 3} {f : ReportFields}

/-- On a drag the walk station's report goes to the supply alone. -/
theorem State.attended_eq_dragTakesWalk (hdrag : s.is .drag = true) (hwalk : s.walkStation = some n) :
    s.attended n seq role f = (s.consulted n seq role f).dragTakesWalk (.ofPhase f.phase) := by
  obtain ⟨hstraps, hexpected⟩ := s.consulted_reads (n := n) (seq := seq) (role := role) (f := f)
  have hstation := (State.walkStation_congr hexpected).trans hwalk
  rw [← State.is_congr hstraps] at hdrag
  have hduties : Alerts reportCodes reportCauses 1 (s.consulted n seq role f)
      ((s.consulted n seq role f).dragTakesWalk (.ofPhase f.phase)) := .dragTakesWalk
  have hheld : ((s.consulted n seq role f).dragTakesWalk (.ofPhase f.phase)).heldByWalk = false := by
    rw [State.heldByWalk, State.is_congr hduties.straps, State.is_congr hduties.straps, State.is_of_is hdrag,
      State.is_of_is hdrag]
    decide
  rw [State.attended_eq_consulted]
  simp [State.dutiesTake, State.walkWorks, State.is_of_is hdrag, hstation, hheld]

/-- A report that adds no LOCAL_TRIP reaches the supply as it was, and what the supply makes of it stays. -/
theorem State.acceptReport_supply (hdrag : s.is .drag = true) (hwalk : s.walkStation = some n)
    (htrip : (s.acceptReport n seq role f).hasCause .localTrip = s.hasCause .localTrip) :
    let u := s.consulted n seq role f
    let v := u.dragTakesWalk (.ofPhase f.phase)
    let t := s.acceptReport n seq role f
    s.SupplyKept u ∧ t.role = v.role ∧ t.drive = v.drive ∧ t.out.lines = v.out.lines
      ∧ t.ann .transferFail = v.ann .transferFail := by
  have hv := State.attended_eq_dragTakesWalk (seq := seq) (role := role) (f := f) hdrag hwalk
  obtain ⟨hstraps, hexpected⟩ := s.consulted_reads (n := n) (seq := seq) (role := role) (f := f)
  have hduties : Alerts reportCodes reportCauses 1 (s.consulted n seq role f)
      ((s.consulted n seq role f).dragTakesWalk (.ofPhase f.phase)) := .dragTakesWalk
  have hreturns : Alerts (reportCodes.erase .transferFail) reportCauses 5 (s.attended n seq role f)
      (s.acceptReport n seq role f) := .calmed _ n _ _ _
  have hother : (((s.consulted n seq role f).dragTakesWalk (.ofPhase f.phase)).entry n).expected ≠
      ((s.consulted n seq role f).dragTakesWalk (.ofPhase f.phase)).ownRole := by
    rw [State.entry_congr (s := s.consulted n seq role f) (by simp), hexpected, State.expected_of_walkStation hwalk,
      State.ownRole_congr hduties.straps, State.ownRole_congr hstraps, (beq_iff_eq.mp hdrag : s.ownRole = some .drag)]
    decide
  rw [hv] at hreturns
  refine ⟨?_, ?_, ?_, ?_, hreturns.ann _ (by decide)⟩
  · obtain hkept | ⟨habsent, hstands⟩ := (Sustains.consulted s n seq role f).supply
    · exact hkept
    · have hpresent := (hreturns.stands (hduties.stands hstands)).1
      exact absurd ((habsent.symm.trans htrip.symm).trans hpresent) (by decide)
  · rw [State.acceptReport_eq, hv]
    exact (State.calmed_keeps _ n _ _ _).2.2
  · rw [State.acceptReport_eq, hv]
    exact State.calmed_drive hother _ _ _
  · rw [State.acceptReport_eq, hv]
    exact (Eases.calmed _ n _ _ _).lines

/-- The reports that end a supply, and those that clear its reference, in the phase byte (Table 12-6). -/
theorem WalkState.ofPhase_ends (p : Byte) :
    ([0, 7].contains (p.toNat % 8) = true ↔ WalkState.ofPhase p = .idle ∨ WalkState.ofPhase p = .returning)
      ∧ (p.toNat % 8 = 6 ↔ WalkState.ofPhase p = .forced) := by
  revert p
  decide

section

variable {u : State} {w : WalkState}

theorem State.dragTakesWalk_of_end (hsupply : u.role.supply = .transferring ∨ u.role.supply = .walkSupply)
    (hw : w = .idle ∨ w = .returning) : u.dragTakesWalk w = u.returnSupply := by
  unfold State.dragTakesWalk
  rcases hsupply with h | h <;> rcases hw with rfl | rfl <;> simp only [h]

theorem State.dragTakesWalk_of_forced (hsupply : u.role.supply = .walkSupply) :
    u.dragTakesWalk .forced = u.clearReference := by
  unfold State.dragTakesWalk
  simp only [hsupply]

theorem State.dragTakesWalk_of_other
    (hend : (u.role.supply = .transferring ∨ u.role.supply = .walkSupply) → ¬(w = .idle ∨ w = .returning))
    (hforced : u.role.supply = .walkSupply → w ≠ .forced) : u.dragTakesWalk w = u := by
  unfold State.dragTakesWalk
  split
  · next h => exact absurd (.inl rfl) (hend (.inl h))
  · next h => exact absurd (.inr rfl) (hend (.inl h))
  · next h => exact absurd (.inl rfl) (hend (.inr h))
  · next h => exact absurd (.inr rfl) (hend (.inr h))
  · next h => exact absurd rfl (hforced h)
  · rfl

end

section

variable (hdrag : s.is .drag = true) (hwalk : s.walkStation = some n)
  (htrip : (s.acceptReport n seq role f).hasCause .localTrip = s.hasCause .localTrip)

include hdrag hwalk htrip

/-- A drag in supply returns it at a walk report of IDLE or RETURNING (R130). -/
theorem State.acceptReport_returns (huse : s.alarmInUse = true)
    (hsupply : s.role.supply = .transferring ∨ s.role.supply = .walkSupply)
    (hends : [0, 7].contains (f.phase.toNat % 8) = true) : let t := s.acceptReport n seq role f
    let still : Prop := s.drive.reference = 0
    let low : Prop := s.meas.contactorFb.value = false ∧ Instr.contactorFbRise ∉ s.pending
    t.role.supply = (if still ∧ low then .normal else .returning)
    ∧ t.role.transferLimit = none ∧ t.drive = s.drive
    ∧ t.out.transferClosed = (if still then false else s.out.transferClosed)
    ∧ t.role.returnLimit = (if still then (if low then none else some s.now) else s.role.returnLimit)
    ∧ t.ann .transferFail = (if still ∧ low then (s.ann .transferFail).afterReturn else s.ann .transferFail) := by
  obtain ⟨hkept, hrole, hdrive, hlines, hfail⟩ := State.acceptReport_supply (seq := seq) (role := role) (f := f) hdrag
    hwalk htrip
  obtain ⟨hnow, hmeas, hpending⟩ := s.consulted_inputs (n := n) (seq := seq) (role := role) (f := f)
  have hlow : (s.consulted n seq role f).feedbackLow = true ↔
      s.meas.contactorFb.value = false ∧ Instr.contactorFbRise ∉ s.pending := by
    unfold State.feedbackLow
    rw [hmeas, hpending]
    simp
  have hclosed : (s.consulted n seq role f).out.transferClosed = s.out.transferClosed :=
    congrArg (fun l => l.2.2.2) hkept.lines
  have hspec := State.returnSupply_spec ((State.alarmInUse_of_straps
    (s.consulted_reads (n := n) (seq := seq) (role := role) (f := f)).1).trans huse)
  have hnormal : s.role.supply ≠ .normal := by
    rcases hsupply with h | h <;> rw [h] <;> decide
  rw [State.dragTakesWalk_of_end (by rw [hkept.role]; exact hsupply) ((WalkState.ofPhase_ends _).1.mp hends)]
    at hrole hdrive hlines hfail
  have hopened : (s.acceptReport n seq role f).out.transferClosed = _ := congrArg (fun l => l.2.2.2) hlines
  dsimp only at hspec
  simp only [hkept.reference, hclosed, hnow, hkept.fail, hkept.role, hlow] at hspec
  obtain ⟨hstate, htransfer, houtput, hreturn, hann⟩ := hspec
  dsimp only
  rw [hrole, hdrive, hfail, hopened]
  exact ⟨hstate, htransfer, by simpa using hkept.drive hnormal, houtput, hreturn, hann⟩

/-- At other reports the supply state stays; one of FORCED clears reference and duty in WALK_SUPPLY (R129). -/
theorem State.acceptReport_stays
    (hends : ¬((s.role.supply = .transferring ∨ s.role.supply = .walkSupply)
      ∧ [0, 7].contains (f.phase.toNat % 8) = true)) : let t := s.acceptReport n seq role f
    t.role.supply = s.role.supply ∧ t.out.transferClosed = s.out.transferClosed
    ∧ (s.role.supply = .walkSupply ∧ f.phase.toNat % 8 = 6 →
      t.drive.reference = 0 ∧ t.drive.duty = 0 ∧ t.out.fieldPwm = 0)
    ∧ (s.role.supply ≠ .walkSupply ∨ f.phase.toNat % 8 ≠ 6 →
      t.drive.reference = s.drive.reference ∧ t.drive.duty = s.drive.duty) := by
  obtain ⟨hkept, hrole, hdrive, hlines, -⟩ := State.acceptReport_supply (seq := seq) (role := role) (f := f) hdrag
    hwalk htrip
  have hclosed : (s.consulted n seq role f).out.transferClosed = s.out.transferClosed :=
    congrArg (fun l => l.2.2.2) hkept.lines
  have hclosed' : (s.acceptReport n seq role f).out.transferClosed = _ := congrArg (fun l => l.2.2.2) hlines
  have hfield : (s.acceptReport n seq role f).out.fieldPwm = _ := congrArg (fun l => l.1) hlines
  obtain ⟨hend, hforced⟩ := WalkState.ofPhase_ends f.phase
  dsimp only
  rw [hrole, hdrive, hclosed', hfield]
  by_cases hclears : s.role.supply = .walkSupply ∧ f.phase.toNat % 8 = 6
  · obtain ⟨hsupply, hphase⟩ := hclears
    rw [hforced.mp hphase, State.dragTakesWalk_of_forced (by rw [hkept.role]; exact hsupply)]
    refine ⟨congrArg RoleLogic.supply hkept.role, hclosed, fun _ => ⟨rfl, rfl, rfl⟩, fun h => ?_⟩
    exact absurd h (by simp [hsupply, hphase])
  · rw [State.dragTakesWalk_of_other]
    · exact ⟨congrArg RoleLogic.supply hkept.role, hclosed, fun h => absurd h hclears,
        fun _ => ⟨hkept.reference, hkept.duty⟩⟩
    · rw [hkept.role, ← hend]
      exact fun h h' => hends ⟨h, h'⟩
    · rw [hkept.role, ne_eq, ← hforced]
      exact fun h h' => hclears ⟨h, h'⟩

end

end

end Sys2Proof.Machine
end

section
/-!
PROOFS. A report taken: the clauses together; O29.
-/

set_option Elab.async false

namespace Sys2Proof.Machine

/-- A usable report that is no duplicate is taken; the buffer then freed is the link controller's alone. -/
theorem completes_stateReport {s : State} {n : Station} {seq : BitVec 4} {role : BitVec 3} {f : ReportFields}
    (hload : s.loaded = true) (hn : s.hears n) (husable : reportUsable role f = true)
    (hnew : ¬((s.entry n).status = .fresh ∧ seq = (s.entry n).lastSeq)) {P : State → Prop}
    (h : ∀ t, t = s.acceptReport n seq role f → P t.freeBuffer) :
    Completes (.stateReport (broadcast 4 n) (reportBytes seq role f)) s P :=
  ⟨_, exec_stateReport_of_taken hload hn husable hnew, h _ rfl⟩

/-- ROLE_CONFLICT, its cause and the mark that remembers it, as the report makes, ends or leaves a conflict (R44). -/
theorem State.acceptReport_conflicts {s t : State} {n : Station} {seq : BitVec 4} {role : BitVec 3} {f : ReportFields}
    (huse : s.alarmInUse = true) (hrun : s.RunIsFree) (htrip : s.hasCause .localTrip = !s.alarm.tripsNormal)
    (ht : t = s.acceptReport n seq role f) :
    (s.peers.conflict = false → t.conflictNow = true →
      RaisedAmong s t .roleConflict (stationNumber n) ∧ t.tripped ∧ t.hasCause .roleConflict = true
        ∧ t.peers.conflict = true)
    ∧ (s.peers.conflict = true → t.conflictNow = false →
      t.ann .roleConflict = (s.ann .roleConflict).afterReturn ∧ t.hasCause .roleConflict = false
        ∧ t.peers.conflict = false)
    ∧ ((s.peers.conflict = true ↔ t.conflictNow = true) →
      t.ann .roleConflict = s.ann .roleConflict ∧ t.hasCause .roleConflict = s.hasCause .roleConflict
        ∧ t.peers.conflict = s.peers.conflict) := by
  have hmark : t.peers.conflict = t.conflictNow := ht ▸ State.acceptReport_conflict
  have hraised (hno : s.peers.conflict = false) := ht ▸ State.acceptReport_conflict_raised (n := n) (seq := seq)
    (role := role) (f := f) huse hrun htrip hno
  have hreturned (hwas : s.peers.conflict = true) := ht ▸ State.acceptReport_conflict_returned (n := n) (seq := seq)
    (role := role) (f := f) huse hwas
  have hkept := ht ▸ State.acceptReport_conflict_kept (s := s) (n := n) (seq := seq) (role := role) (f := f)
  refine ⟨fun hno hnow => ?_, fun hwas hnow => ?_, fun hsame => ?_⟩
  · obtain ⟨hlatched, htripped, hcause⟩ := hraised hno hnow
    exact ⟨hlatched, htripped, hcause, hmark.trans hnow⟩
  · obtain ⟨hann, hcause⟩ := hreturned hwas hnow
    exact ⟨hann, hcause, hmark.trans hnow⟩
  · have heq : s.peers.conflict = t.conflictNow := Bool.eq_iff_iff.mpr hsame
    obtain ⟨hann, hcause⟩ := hkept heq
    exact ⟨hann, hcause, hmark.trans heq.symm⟩

theorem reportUsable_echo (role : BitVec 3) (f : ReportFields) (a b : Byte) :
    reportUsable role { f with echoProposer := a, echoNumber := b } = reportUsable role f := rfl

theorem propStatus_of_usable {role : BitVec 3} {f : ReportFields} (h : reportUsable role f = true) :
    f.propStatus.toNat ≤ 3 := by
  simp only [reportUsable, Bool.and_eq_true, decide_eq_true_eq] at h
  tauto

/-- Settles O29: each clause by the lemma of its block, over the stages of `State.acceptReport`. -/
theorem reportTaken : Obligations.ReportTaken := by
  unfold Obligations.ReportTaken
  refine ⟨fun s n seq role f hload hn husable hnew => ?_, fun s n me seq role f hload hme hn husable hnew => ?_,
    fun s n seq role f hload hn husable hnew => ?_, fun s n seq role f hload hn husable hnew => ?_,
    fun s n seq role f hload hn husable hnew => ?_, fun s n seq role f hload hn husable hnew => ?_,
    fun s n seq role f hload hn husable hnew => ?_⟩
  · have hentry := s.acceptReport_entry n seq role f
    have hother (k : Station) (hk : k ≠ n) := s.acceptReport_entry_other hk seq role f
    refine completes_stateReport hload hn husable hnew fun t ht => ?_
    rw [← ht] at hentry hother
    refine ⟨hentry.trans ?_, hother⟩
    rw [PeerEntry.afterReport, gapAdd_sub, PeerEntry.mismatches_eq]
    rfl
  · intro hpending hwindow hroster _
    have hhears : s.hears n := by
      rw [State.loaded, Bool.and_eq_true] at hload
      exact ⟨hload.2, fun h => hn (Option.some.inj (hme.symm.trans h)).symm⟩
    rw [← reportUsable_echo role f (byteOf (stationNumber me)) s.consent.own.number] at husable
    refine completes_stateReport hload hhears husable hnew fun t ht => ?_
    exact ht ▸ State.acceptReport_echo hme hn hpending hwindow hroster rfl rfl
  · intro hheld hwalk
    refine completes_stateReport hload hn husable hnew fun t ht => ?_
    exact ht ▸ State.acceptReport_walkActive hheld hwalk
  · intro huse hrun htrip
    have hunlisted := State.acceptReport_unlisted (n := n) (seq := seq) (role := role) (f := f) huse
    have hraised := State.acceptReport_mismatch_raised (n := n) (seq := seq) (role := role) (f := f) huse hrun htrip
    have hkept := State.acceptReport_mismatch_kept (s := s) (n := n) (seq := seq) (role := role) (f := f)
    have hreturned := State.acceptReport_mismatch_returned (n := n) (seq := seq) (role := role) (f := f) huse
    refine completes_stateReport hload hn husable hnew fun t ht => ?_
    rw [← ht] at hunlisted hraised hkept hreturned
    simp only [← PeerEntry.mismatches_eq, ← State.roleCount_eq, ← State.conflictNow_iff, Bool.not_eq_true]
    have hconflicts := State.acceptReport_conflicts huse hrun htrip ht
    exact ⟨hunlisted, hraised, hkept, hreturned, hconflicts⟩
  · have hheld := State.acceptReport_held (s := s) (n := n) (seq := seq) (role := role) (f := f)
    refine completes_stateReport hload hn husable hnew fun t ht => ?_
    rw [← ht] at hheld
    refine hheld.trans ?_
    cases s.consent.held with
    | none => rfl
    | some h =>
      rw [Option.bind_some, HeldRecord.afterReport_eq f h (propStatus_of_usable husable)]
      dsimp only
      by_cases hp : h.proposer = n
      · rw [if_pos hp, if_neg (not_not.mpr hp)]
      · rw [if_neg hp, if_pos hp]
  · intro hwalk hservice hdrag huse
    have htransfer := State.acceptReport_transfer (seq := seq) (role := role) (f := f) hwalk hservice hdrag
    have hdropped := State.acceptReport_transfer_dropped (seq := seq) (role := role) (f := f) hwalk hservice hdrag
    have hforces := State.acceptReport_forces (seq := seq) (role := role) (f := f) hwalk hservice hdrag huse
    have hmoves := State.acceptReport_moves (seq := seq) (role := role) (f := f) hwalk hservice hdrag
    have hforced := State.acceptReport_forced (seq := seq) (role := role) (f := f) hwalk hservice hdrag huse
    have hreturning := State.acceptReport_returning (seq := seq) (role := role) (f := f) hwalk hservice hdrag
    have hresting := State.acceptReport_resting (seq := seq) (role := role) (f := f) hwalk hservice hdrag
    refine completes_stateReport hload hn husable hnew fun t ht => ?_
    rw [← ht] at htransfer hdropped hforces hmoves hforced hreturning hresting
    simp only [← State.allSupplying_iff, ← State.allHandedBack_iff, Bool.decide_eq_true]
    exact ⟨htransfer, hdropped, fun h => ⟨hforces h, hmoves h⟩, hforced, hreturning, hresting⟩
  · intro hdrag hwalk huse
    have hreturns := State.acceptReport_returns (n := n) (seq := seq) (role := role) (f := f) hdrag hwalk
    have hstays := State.acceptReport_stays (n := n) (seq := seq) (role := role) (f := f) hdrag hwalk
    refine completes_stateReport hload hn husable hnew fun t ht => ?_
    rw [← ht] at hreturns hstays
    intro ends still low htrip
    by_cases hends : (s.role.supply = .transferring ∨ s.role.supply = .walkSupply) ∧ ends = true
    · rw [if_pos hends]
      exact hreturns htrip huse hends.1 hends.2
    · rw [if_neg hends]
      exact hstays htrip hends

end Sys2Proof.Machine
end
section
/-!
PROOFS. The state after a power-on reset; O5.
-/

set_option Elab.async false

namespace Sys2Proof.Machine

/-- Every entry of the peer table is as R31 has it. -/
theorem State.reset_entry (n : Station) : State.reset.entry n = PeerEntry.reset :=
  Vector.getElem_replicate n.isLt

theorem PeerEntry.reset_marks : PeerEntry.reset.marks = 0 := by decide

theorem State.reset_ann (c : AlarmCode) : State.reset.ann c = .normal := AlarmUnit.reset_stateOf c

/-- Settles O5: the entries and the annunciator hold one value throughout, and every other value stands in a reset
table. -/
theorem resetTables : Obligations.ResetTables := by
  unfold Obligations.ResetTables
  have hentries : ∀ n : Station, (State.reset.entry n).status = .absent ∧ (State.reset.entry n).gaps = 0
      ∧ (State.reset.entry n).dups = 0 ∧ (State.reset.entry n).marks = 0 := fun n => by
    rw [State.reset_entry]
    exact ⟨rfl, rfl, rfl, PeerEntry.reset_marks⟩
  have hcodes : ∀ c ∈ allCodes, State.reset.ann c = .normal := fun c _ => State.reset_ann c
  and_intros <;> trivial

end Sys2Proof.Machine
end

section
/-!
PROOFS. `Accords`: what a command may do to proposals, swing and brake.
-/

set_option Elab.async false

namespace Sys2Proof.Machine

/-! ### What proposals and swing are judged by (R48, R99, R113 to R117) -/

/-- The proposal status goes with the swing state, the brake is released only in FREE or WITHDRAWING, and there is
no walk and no other proposal. -/
def State.Paired (s : State) : Prop :=
  s.consent.own.status = s.role.swing.status
    ∧ (s.out.brakeSet = false → s.role.swing = .free ∨ s.role.swing = .withdrawing)
    ∧ s.walk.state = .idle
    ∧ (s.role.swing ≠ .locked → s.consent.own.kind = some .swingRelease)

/-- Before the load the swing is LOCKED with what goes with it. -/
theorem State.swingSound_iff (s : State) : s.SwingSound ↔
    (s.swingLead = true → s.Paired) ∧ (s.ctl.mode = .loading → s.Paired ∧ s.role.swing = .locked) := by
  refine and_congr_right fun _ => imp_congr_right fun _ => ⟨?_, ?_⟩
  · rintro ⟨hstatus, hswing, hbrake, hwalk⟩
    exact ⟨⟨by rw [hstatus, hswing]; rfl, by simp [hbrake], hwalk, absurd hswing⟩, hswing⟩
  · rintro ⟨⟨hstatus, hbrake, hwalk, -⟩, hswing⟩
    exact ⟨by rw [hstatus, hswing]; rfl, hswing, by simpa [hswing] using hbrake, hwalk⟩

/-- The station keeps straps and place, and its mode moves as Table 1-3 lets it. -/
structure Drifted (s t : State) : Prop where
  straps : t.ctl.straps = s.ctl.straps
  place : t.ctl.place = s.ctl.place
  mode : s.ctl.mode.Drifts True t.ctl.mode

theorem Orderly.drifted {p : Prop} {s t : State} (h : Orderly p s t) : Drifted s t := by
  have hf := h.frozen
  simp only [State.frozen, Prod.mk.injEq] at hf
  obtain ⟨-, -, hstraps, -, -, -, hplace, -⟩ := hf
  refine ⟨hstraps, hplace, ?_⟩
  rcases h.mode with h | h | h | ⟨h, -⟩
  · exact .inl h
  · exact .inr (.inl h)
  · exact .inr (.inr (.inl h))
  · exact .inr (.inr (.inr ⟨h, fun _ => trivial⟩))

namespace Drifted

variable {s t u : State}

theorem of_ctl (h : t.ctl = s.ctl) : Drifted s t := ⟨by rw [h], by rw [h], .inl (by rw [h])⟩

theorem trans (h : Drifted s t) (h' : Drifted t u) : Drifted s u :=
  ⟨h'.straps.trans h.straps, h'.place.trans h.place, h.mode.trans h'.mode⟩

theorem self_eq (h : Drifted s t) : t.self = s.self := by
  unfold State.self
  rw [h.straps]

theorem swingLead_eq (h : Drifted s t) : t.swingLead = s.swingLead := by
  unfold State.swingLead State.leads
  rw [State.is_congr h.straps, h.place]

/-- A station that is in LOADING has been there all along. -/
theorem loading (h : Drifted s t) (ht : t.ctl.mode = .loading) : s.ctl.mode = .loading := by
  by_contra hs
  exact h.mode.ne_loading hs ht

/-- From LOADING and STOP a station goes to no other mode. -/
theorem still (h : Drifted s t) (hs : s.ctl.mode = .loading ∨ s.ctl.mode = .stop) :
    t.ctl.mode = .loading ∨ t.ctl.mode = .stop := by
  rcases hs with hs | hs
  · rcases h.mode with h | ⟨h, -⟩ | ⟨h, -⟩ | ⟨h, -⟩
    · exact .inl (h.trans hs)
    · exact absurd (hs.symm.trans h) (by decide)
    · exact absurd (hs.symm.trans h) (by decide)
    · exact .inr h
  · exact .inr (h.mode.eq_stop hs)

end Drifted

/-- From `c` to `c'` no proposal has begun or become ACTIVE, and beside one that stands nothing has come to be
held. -/
structure ConsentEngine.Retains (c c' : ConsentEngine) : Prop where
  stands : c'.own.status ≠ .idle → c.own.status ≠ .idle ∧ c'.own.number = c.own.number
    ∧ c'.own.kind = c.own.kind ∧ (c.held = none → c'.held = none)
  active : c'.own.status = .active → c.own.status = .active

namespace ConsentEngine.Retains

variable {c c' : ConsentEngine}

theorem refl (c : ConsentEngine) : c.Retains c := ⟨fun h => ⟨h, rfl, rfl, id⟩, id⟩

theorem of_idle (h : c'.own.status = .idle) : c.Retains c' :=
  ⟨fun hne => absurd h hne, fun ha => absurd (h.symm.trans ha) (by decide)⟩

/-- Beside the own record, a record may leave the held place or change in it. -/
theorem of_own (ho : c'.own = c.own) (hh : c.held = none → c'.held = none) : c.Retains c' := by
  refine ⟨fun hne => ?_, fun ha => ?_⟩
  · rw [ho] at hne ⊢
    exact ⟨hne, rfl, rfl, hh⟩
  · rwa [ho] at ha

/-- The own record changes beside number, kind and status. -/
theorem of_status {r : OwnRecord} (hn : r.number = c.own.number := by rfl) (hk : r.kind = c.own.kind := by rfl)
    (hs : r.status = c.own.status := by rfl) : c.Retains { c with own := r } :=
  ⟨fun hne => ⟨hs ▸ hne, hn, hk, id⟩, fun ha => hs ▸ ha⟩

end ConsentEngine.Retains

theorem State.ConsentSound.retains {s t : State} (h : s.ConsentSound) (hd : Drifted s t)
    (hr : s.consent.Retains t.consent) : t.ConsentSound := by
  obtain ⟨haddress, hstands⟩ := h
  refine ⟨fun hself => hd.still (haddress (hd.self_eq ▸ hself)), fun hne => ?_⟩
  obtain ⟨hs, hnumber, hkind, hheld⟩ := hr.stands hne
  obtain ⟨hnone, hnumber', hkind'⟩ := hstands hs
  exact ⟨hheld hnone, hnumber ▸ hnumber', hkind ▸ hkind'⟩

/-- From `s` to `t` straps, place and mode have moved as they may, the invariants of consent engine and swing are
kept, and no proposal has become ACTIVE. -/
structure Accords (s t : State) : Prop extends Drifted s t where
  consent : s.ConsentSound → t.ConsentSound
  swing : s.SwingSound → t.SwingSound
  active : t.consent.own.status = .active → s.consent.own.status = .active

namespace Accords

variable {s t u : State}

theorem trans (h : Accords s t) (h' : Accords t u) : Accords s u :=
  ⟨h.toDrifted.trans h'.toDrifted, h'.consent ∘ h.consent, h'.swing ∘ h.swing, h.active ∘ h'.active⟩

/-- No proposal has begun, and a swing lead and a station in LOADING keep their swing paired, LOCKED where it was. -/
theorem of_paired (hd : Drifted s t) (hr : s.consent.Retains t.consent)
    (hp : s.swingLead = true ∨ s.ctl.mode = .loading → s.Paired →
      t.Paired ∧ (s.role.swing = .locked → t.role.swing = .locked)) : Accords s t := by
  refine ⟨hd, fun h => h.retains hd hr, fun h => ?_, hr.active⟩
  rw [State.swingSound_iff] at h ⊢
  obtain ⟨hlead, hload⟩ := h
  refine ⟨fun hl => ?_, fun hm => ?_⟩
  · rw [hd.swingLead_eq] at hl
    exact (hp (.inl hl) (hlead hl)).1
  · obtain ⟨hpaired, hlocked⟩ := hload (hd.loading hm)
    obtain ⟨hpaired', hkeep⟩ := hp (.inr (hd.loading hm)) hpaired
    exact ⟨hpaired', hkeep hlocked⟩

/-- The brake may have been set; what else swing and proposal are judged by is as it was. -/
theorem of_drift (hd : Drifted s t) (hr : s.consent.Retains t.consent)
    (hc : t.consent.own.status = s.consent.own.status) (hs : t.role.swing = s.role.swing)
    (hb : t.out.brakeSet = false → s.out.brakeSet = false)
    (hw : t.walk.state = s.walk.state) : Accords s t := by
  refine .of_paired hd hr fun _ ⟨hstatus, hbrake, hwalk, hkind⟩ => ?_
  unfold State.Paired
  rw [hs, hc, hw]
  refine ⟨⟨hstatus, hbrake ∘ hb, hwalk, fun hne => ?_⟩, id⟩
  have hstands : t.consent.own.status ≠ .idle := by
    rw [hc, hstatus]
    revert hne
    cases s.role.swing <;> decide
  obtain ⟨-, -, hkind', -⟩ := hr.stands hstands
  rw [hkind']
  exact hkind hne

/-- An orderly operation that leaves consent engine, swing and walk state. -/
theorem moved (ho : Orderly True s t) (hc : t.consent = s.consent := by simp)
    (hs : t.role.swing = s.role.swing := by simp)
    (hb : t.out.brakeSet = false → s.out.brakeSet = false := by simp)
    (hw : t.walk.state = s.walk.state := by simp) : Accords s t :=
  .of_drift ho.drifted (by rw [hc]; exact .refl _) (by rw [hc]) hs hb hw

/-- What leaves station control, consent engine, swing and walk state. -/
theorem kept (hm : t.ctl = s.ctl := by simp) (hc : t.consent = s.consent := by simp)
    (hs : t.role.swing = s.role.swing := by simp)
    (hb : t.out.brakeSet = false → s.out.brakeSet = false := by simp)
    (hw : t.walk.state = s.walk.state := by simp) : Accords s t :=
  .of_drift (.of_ctl hm) (by rw [hc]; exact .refl _) (by rw [hc]) hs hb hw

theorem refl (s : State) : Accords s s := .kept rfl rfl rfl id rfl

/-- What leaves all of it may come before. -/
theorem after (h : Accords t u) (hm : t.ctl = s.ctl := by simp) (hc : t.consent = s.consent := by simp)
    (hs : t.role.swing = s.role.swing := by simp)
    (hb : t.out.brakeSet = false → s.out.brakeSet = false := by simp)
    (hw : t.walk.state = s.walk.state := by simp) : Accords s u :=
  (kept hm hc hs hb hw).trans h

/-- What leaves all of it may follow. -/
theorem andThen (h : Accords s t) (hm : u.ctl = t.ctl := by simp) (hc : u.consent = t.consent := by simp)
    (hs : u.role.swing = t.role.swing := by simp)
    (hb : u.out.brakeSet = false → t.out.brakeSet = false := by simp)
    (hw : u.walk.state = t.walk.state := by simp) : Accords s u :=
  h.trans (kept hm hc hs hb hw)

/-- The consent engine alone changes, with no status moved. -/
theorem consulted (hr : s.consent.Retains t.consent)
    (hc : t.consent.own.status = s.consent.own.status) (hm : t.ctl = s.ctl := by simp)
    (hs : t.role.swing = s.role.swing := by simp)
    (hb : t.out.brakeSet = false → s.out.brakeSet = false := by simp)
    (hw : t.walk.state = s.walk.state := by simp) : Accords s t :=
  .of_drift (.of_ctl hm) hr hc hs hb hw

/-- Station control changes beside straps, place and mode. -/
theorem modCtl {f : StationControl → StationControl} (hs : (f s.ctl).straps = s.ctl.straps := by rfl)
    (hp : (f s.ctl).place = s.ctl.place := by rfl) (hm : (f s.ctl).mode = s.ctl.mode := by rfl) :
    Accords s (s.modCtl f) :=
  .of_drift ⟨hs, hp, .inl hm⟩ (.refl _) rfl rfl id rfl

/-- An operation of a walk that is not IDLE: the station is no swing lead. -/
theorem walking (h : s.walk.state ≠ .idle) (hr : s.consent.Retains t.consent) (hm : t.ctl = s.ctl := by simp) :
    Accords s t :=
  .of_paired (.of_ctl hm) hr fun _ ⟨_, _, hwalk, _⟩ => absurd hwalk h

/-- A station that is no swing lead, after LOADING. -/
theorem of_not_lead (hd : Drifted s t) (hr : s.consent.Retains t.consent) (hl : s.swingLead = false)
    (hm : s.ctl.mode ≠ .loading) : Accords s t :=
  .of_paired hd hr fun h => by
    rcases h with h | h
    · exact absurd (h.symm.trans hl) (by decide)
    · exact absurd h hm

theorem ite {p : Prop} [Decidable p] (h : p → Accords s t) (h' : ¬p → Accords s u) :
    Accords s (if p then t else u) := by
  split
  · next hp => exact h hp
  · next hp => exact h' hp

theorem guarded {p : Prop} [Decidable p] (h : p → Accords s t) : Accords s (if p then t else s) :=
  .ite h fun _ => .refl s

/-- Nothing happens where the guard holds. -/
theorem guarded' {p : Prop} [Decidable p] (h : ¬p → Accords s t) : Accords s (if p then s else t) :=
  .ite (fun _ => .refl s) h

theorem foldl {α : Type} {f : State → α → State} (hf : ∀ s x, Accords s (f s x)) (l : List α) (s : State) :
    Accords s (l.foldl f s) := by
  induction l generalizing s with
  | nil => exact .refl s
  | cons x l ih => exact (hf s x).trans (ih _)

end Accords

/-- A swing lead is a swing station. -/
theorem State.swingLead_of_is {s : State} {r : Role} (h : s.is r = true) (hr : r ≠ .swing) : s.swingLead = false := by
  have hswing : s.is .swing = false := by
    simp only [State.is, beq_iff_eq, beq_eq_false_iff_ne] at *
    rw [h]
    simpa using hr
  simp [State.swingLead, hswing]

end Sys2Proof.Machine
end

section
/-!
PROOFS. `Accords`: raises, returns and hold causes, the consent engine, and the moves of swing, walk and supply that
several events share.
-/

set_option Elab.async false

namespace Sys2Proof.Machine

/-! ### The brake output under raises and returns -/

theorem Outputs.brakeSet_of_lines {o o' : Outputs} (h : o'.lines = o.lines) : o'.brakeSet = o.brakeSet :=
  congrArg (fun l => l.2.2.1) h

@[simp] theorem State.tryRun_brakeSet (s : State) : s.tryRun.out.brakeSet = s.out.brakeSet :=
  Outputs.brakeSet_of_lines s.tryRun_lines

@[simp] theorem State.removeCause_brakeSet (s : State) (c : HoldCause) :
    (s.removeCause c).out.brakeSet = s.out.brakeSet :=
  Outputs.brakeSet_of_lines (s.removeCause_lines c)

@[simp] theorem State.settleTrips_brakeSet (s : State) : s.settleTrips.out.brakeSet = s.out.brakeSet :=
  Outputs.brakeSet_of_lines s.settleTrips_lines

@[simp] theorem State.returnAlarm_brakeSet (s : State) (c : AlarmCode) :
    (s.returnAlarm c).out.brakeSet = s.out.brakeSet :=
  Outputs.brakeSet_of_lines (s.returnAlarm_lines c)

@[simp] theorem State.acknowledge_brakeSet (s : State) : s.acknowledge.out.brakeSet = s.out.brakeSet := by
  unfold State.acknowledge
  rw [State.settleTrips_brakeSet]
  exact foldl_keeps (fun u => u.out.brakeSet) _ (fun u c => Outputs.brakeSet_of_lines (u.ackCode_lines c)) _ _

@[simp] theorem State.raiseWarn_brakeSet (s : State) (c : AlarmCode) (v : Int) :
    (s.raiseWarn c v).out.brakeSet = s.out.brakeSet :=
  Outputs.brakeSet_of_lines (s.raiseWarn_lines c v)

@[simp] theorem State.raiseFull_brakeSet (s : State) : s.raiseFull.out.brakeSet = s.out.brakeSet :=
  Outputs.brakeSet_of_lines s.raiseFull_lines

@[simp] theorem State.firstWriteBlock_brakeSet (s : State) :
    s.firstWriteBlock.out.brakeSet = s.out.brakeSet :=
  Outputs.brakeSet_of_lines s.firstWriteBlock_lines

@[simp] theorem State.lockSwing_brakeSet (s : State) : s.lockSwing.out.brakeSet = s.out.brakeSet :=
  Outputs.brakeSet_of_lines s.lockSwing_lines

@[simp] theorem State.raiseWithdrawn_brakeSet (s : State) : s.raiseWithdrawn.out.brakeSet = s.out.brakeSet :=
  Outputs.brakeSet_of_lines s.raiseWithdrawn_lines

@[simp] theorem State.dropSectorMarks_swing (s : State) : s.dropSectorMarks.role.swing = s.role.swing := by
  unfold State.dropSectorMarks
  dsimp only
  split <;> simp

@[simp] theorem State.lockSwing_swing (s : State) : s.lockSwing.role.swing = .locked := by
  unfold State.lockSwing
  simp

/-! ### Flags, frames and raises of WARN codes -/

theorem State.tryRun_accords (s : State) : Accords s s.tryRun := .moved s.tryRun_orderly

theorem State.removeCause_accords (s : State) (c : HoldCause) : Accords s (s.removeCause c) :=
  .moved (s.removeCause_orderly c)

theorem State.returnAlarm_accords (s : State) (c : AlarmCode) : Accords s (s.returnAlarm c) :=
  .moved (s.returnAlarm_orderly c)

theorem State.acknowledge_accords (s : State) : Accords s s.acknowledge := .moved s.acknowledge_orderly

theorem State.queueFrame_accords (s : State) (f : OutFrame) : Accords s (s.queueFrame f) := .kept

theorem State.raiseWarn_accords (s : State) (c : AlarmCode) (v : Int) : Accords s (s.raiseWarn c v) := .kept

theorem State.armAndNotice_accords (s : State) (c : AlarmCode) (v : Int) (m : Mode) :
    Accords s (s.armAndNotice c v m) := .kept

theorem State.latch_accords (s : State) (c : AlarmCode) (v : Int) : Accords s (s.latch c v) :=
  .kept (by simp) (by simp) (by simp) id (by simp)

/-! ### The capture store -/

theorem State.raiseFull_accords (s : State) : Accords s s.raiseFull := .kept

theorem State.becomeKept_accords (s : State) (i : Nat) : Accords s (s.becomeKept i) :=
  .ite (fun _ => (State.raiseFull_accords _).after) fun _ => .kept

theorem State.keepById_accords (s : State) (id : ArmId) : Accords s (s.keepById id) :=
  (Accords.foldl State.becomeKept_accords _ _).after

theorem State.takeKeepNotice_accords (s : State) (id : ArmId) : Accords s (s.takeKeepNotice id) :=
  .ite (fun _ => .kept) fun _ => s.keepById_accords id

theorem State.settleDecision_accords (s : State) (d : Decision) : Accords s (s.settleDecision d) := by
  unfold State.settleDecision
  refine .ite (fun _ => .refl s) fun _ => ?_
  dsimp only
  split
  · exact (s.queueFrame_accords _).trans (State.keepById_accords _ _)
  · exact s.queueFrame_accords _

theorem State.decideDue_accords (s : State) : Accords s s.decideDue :=
  (Accords.foldl State.settleDecision_accords _ _).after

theorem State.settlePost_accords (s : State) (i : Nat) : Accords s (s.settlePost i) := by
  unfold State.settlePost
  refine .ite (fun _ => ?_) fun _ => .ite (fun _ => .kept) fun _ => .kept
  dsimp only
  split
  · exact (s.becomeKept_accords i).trans (State.queueFrame_accords _ _)
  · exact s.becomeKept_accords i

theorem State.endPost_accords (s : State) : Accords s s.endPost := by
  unfold State.endPost
  split
  · next i _ => exact .guarded fun _ => (s.settlePost_accords i).andThen
  · exact .refl s

theorem State.releaseHead_accords (s : State) : Accords s s.releaseHead := by
  unfold State.releaseHead
  split
  · exact .refl s
  · exact .trans .kept (.guarded fun _ => (State.returnAlarm_accords _ _).after)

theorem State.firstWriteBlock_accords (s : State) : Accords s s.firstWriteBlock := .kept

/-! ### The clear of a proposal and the swing -/

/-- The clear of a proposal ends one that is ACTIVE or WITHDRAWING (R66). -/
theorem State.clearProposal_retains (s : State) : s.consent.Retains s.clearProposal.consent := by
  unfold State.clearProposal
  dsimp only
  split
  · exact .of_idle (by split <;> simp)
  · exact .of_idle (by split <;> simp)
  all_goals exact .refl _

/-- A swing whose brake is set is locked, and the proposal that stood with it is cleared (R115 to R117). -/
theorem Accords.locked {s t : State} (ho : Orderly True s t)
    (hc : t.consent = s.consent := by simp) (hs : t.role.swing = .locked := by simp)
    (hb : t.out.brakeSet = true := by simp) (hw : t.walk = s.walk := by simp)
    (hstate : s.role.swing = .free ∨ s.role.swing = .withdrawing) : Accords s t.clearProposal := by
  refine .of_paired (ho.trans t.clearProposal_orderly).drifted (hc ▸ t.clearProposal_retains) fun _ hpaired => ?_
  obtain ⟨hstatus, -, hwalk, -⟩ := hpaired
  have hends : t.consent.own.status = .active ∨ t.consent.own.status = .withdrawing := by
    rw [hc, hstatus]
    rcases hstate with h | h <;> simp [h, SwingState.status]
  rw [State.clearProposal_eq (.inl hb)]
  refine ⟨⟨?_, ?_, ?_, ?_⟩, ?_⟩ <;> simp [hs, hb, hw, hwalk, hends, SwingState.status]

theorem State.stopSwing_accords {s : State} (hb : s.out.brakeSet = true) : Accords s s.stopSwing := by
  unfold State.stopSwing
  refine .guarded fun _ => ?_
  split
  · next h => exact .locked s.lockSwing_orderly (hb := by simp [hb]) (hstate := .inl h)
  · next h =>
    exact .locked (s.lockSwing_orderly.trans (State.raiseWithdrawn_orderly _)) (hb := by simp [hb])
      (hstate := .inr h)
  all_goals exact .refl s

/-! ### The walk -/

theorem State.stopWalk_accords (s : State) : Accords s s.stopWalk := by
  unfold State.stopWalk
  split
  · next h => exact .walking (by simp [h]) (by simpa using .refl _)
  · next h => exact .walking (by simp [h]) (by simpa using (s.enterWalk .idle).clearProposal_retains)
  all_goals exact .refl s

theorem State.abortWalk_accords (s : State) (v : Int) : Accords s (s.abortWalk v) :=
  .ite (fun _ => s.stopWalk_accords.trans (State.raiseWarn_accords _ _ _)) fun _ => s.stopWalk_accords

/-! ### The drag supply -/

theorem State.supplyNormal_accords (s : State) : Accords s s.supplyNormal :=
  (State.returnAlarm_accords _ _).after

theorem State.openTransfer_accords (s : State) : Accords s s.openTransfer :=
  .trans .kept (.guarded fun _ => State.supplyNormal_accords _)

theorem State.clearReference_accords (s : State) : Accords s s.clearReference :=
  .kept (by simp) (by simp) (by simp) id (by simp)

theorem State.endSupply_accords (s : State) : Accords s s.endSupply := by
  have hend : Accords s ((s.clearReference).modRole fun r =>
      { r with supply := .returning, transferLimit := none }).openTransfer :=
    s.clearReference_accords.trans ((State.openTransfer_accords _).after)
  unfold State.endSupply
  split
  · exact hend
  · exact hend
  all_goals exact .refl s

theorem State.returnSupply_accords (s : State) : Accords s s.returnSupply :=
  .trans .kept (.guarded fun _ => State.openTransfer_accords _)

/-! ### Cancels (R65) -/

/-- The own record of a cancelled proposal (R65). -/
def OwnRecord.cancelled (r : OwnRecord) : OwnRecord :=
  { r with status := .idle, sendLimit := none, windowTimer := none }

/-- What a cancel has done before it raises CONSENT_REFUSED. -/
def State.cancelled (s : State) : State :=
  match s.consent.own.kind with
  | some k => (s.modOwn OwnRecord.cancelled).tellCancel k
  | none => s.modOwn OwnRecord.cancelled

theorem State.cancelProposal_eq (s : State) (x : CancelOutcome) :
    s.cancelProposal x = s.cancelled.raiseWarn .consentRefused x.value := rfl

@[simp] theorem State.cancelled_keeps (s : State) :
    s.cancelled.now = s.now ∧ s.cancelled.pins = s.pins ∧ s.cancelled.out = s.out ∧ s.cancelled.ctl = s.ctl
      ∧ s.cancelled.link = s.link ∧ s.cancelled.peers = s.peers
      ∧ s.cancelled.consent = { s.consent with own := s.consent.own.cancelled }
      ∧ s.cancelled.meas = s.meas ∧ s.cancelled.drive = s.drive ∧ s.cancelled.heat = s.heat
      ∧ s.cancelled.alarm = s.alarm ∧ s.cancelled.capture = s.capture ∧ s.cancelled.slotFull = s.slotFull
      ∧ s.cancelled.pending = s.pending := by
  unfold State.cancelled
  split <;> simp

theorem State.cancelled_of_kind {s : State} {k : ProposalKind} (h : s.consent.own.kind = some k) :
    s.cancelled = (s.modOwn OwnRecord.cancelled).tellCancel k := by
  rw [State.cancelled, h]

/-- A cancelled SWING_RELEASE leaves a proposing swing LOCKED (R114). -/
theorem State.cancelled_swing {s : State} (h : s.consent.own.kind = some .swingRelease) :
    s.cancelled.role.swing = (if s.role.swing = .proposing then .locked else s.role.swing)
      ∧ s.cancelled.walk = s.walk := by
  rw [State.cancelled_of_kind h]
  by_cases hs : s.role.swing = .proposing <;> simp [State.tellCancel, hs]

/-- A PENDING proposal is cancelled; a swing lead was PROPOSING, and is LOCKED. -/
theorem State.cancelProposal_accords {s : State} (h : s.consent.own.status = .pending) (x : CancelOutcome) :
    Accords s (s.cancelProposal x) := by
  rw [State.cancelProposal_eq]
  refine Accords.andThen (t := s.cancelled) (.of_paired (.of_ctl (by simp)) (.of_idle (by simp [OwnRecord.cancelled]))
    fun _ hpaired => ?_)
  obtain ⟨hstatus, hbrake, hwalk, hkind⟩ := hpaired
  have hswing : s.role.swing = .proposing := by
    rw [h] at hstatus
    revert hstatus
    cases s.role.swing <;> simp [SwingState.status]
  obtain ⟨hlocked, hkeep⟩ := State.cancelled_swing (hkind (by rw [hswing]; decide))
  rw [if_pos hswing] at hlocked
  refine ⟨⟨?_, ?_, ?_, ?_⟩, fun _ => hlocked⟩
  · simp [hlocked, OwnRecord.cancelled, SwingState.status]
  · have hset : s.out.brakeSet = true := by simpa [hswing] using hbrake
    simp [hset]
  · rw [hkeep]
    exact hwalk
  · exact absurd hlocked

/-! ### A request to propose (R50) -/

theorem nextNumber_ne_zero (n : Byte) : nextNumber n ≠ 0 := by
  revert n
  decide

/-- The first steps of a request: a new number and kind, with nothing else moved in the consent engine (R50). -/
theorem State.newProposal_consent (s : State) (k : ProposalKind) :
    (s.newProposal k).consent = { s.consent with own := { s.consent.own with
      number := nextNumber s.consent.own.number, kind := some k, queueTime := s.now, objected := none
      windowStart := none, echoSeen := Vector.replicate 8 false } } := by
  simp [State.newProposal]

@[simp] theorem State.newProposal_out (s : State) (k : ProposalKind) :
    (s.newProposal k).out.brakeSet = s.out.brakeSet := by
  simp [State.newProposal]

/-- The fifth step: PENDING with number and kind of the request, nothing held. -/
def State.Pends (s t : State) (k : ProposalKind) : Prop :=
  t.consent.own.status = .pending ∧ t.consent.own.number ≠ 0 ∧ t.consent.own.kind = some k
    ∧ (s.self ≠ none → t.consent.held = none)
    ∧ t.role = (s.newProposal k).role ∧ t.walk = (s.newProposal k).walk

/-- The request has been cancelled at once: the owner has been told of it and of its end. -/
def State.Yields (s t : State) (k : ProposalKind) : Prop :=
  t.consent.own.status = .idle ∧ t.role = (s.newProposal k).cancelled.role
    ∧ t.walk = (s.newProposal k).cancelled.walk

theorem State.beginProposal_pends (s u : State) (k : ProposalKind)
    (hu : u.consent.own = (s.newProposal k).consent.own) (hr : u.role = (s.newProposal k).role)
    (hw : u.walk = (s.newProposal k).walk) (hheld : s.self ≠ none → u.consent.held = none) :
    s.Pends (u.beginProposal k) k := by
  rw [State.newProposal_consent] at hu
  unfold State.Pends State.beginProposal
  refine ⟨by simp, ?_, by simp [hu], by simpa using hheld, by simp [hr], by simp [hw]⟩
  simpa [hu] using nextNumber_ne_zero _

theorem State.requestProposal_cases {s : State} (h : s.consent.own.status = .idle) (k : ProposalKind) :
    s.Yields (s.requestProposal k) k ∨ s.Pends (s.requestProposal k) k := by
  rw [State.requestProposal_eq, if_neg (not_not.mpr h)]
  split
  · split
    · exact .inl (by simp [State.Yields, State.cancelProposal_eq, OwnRecord.cancelled])
    · exact .inr (s.beginProposal_pends _ k (by simp) (by simp) (by simp) (by simp))
  · next hother =>
    refine .inr (s.beginProposal_pends _ k rfl rfl rfl fun hme => ?_)
    rw [← (s.newProposal_orderly (p := True) k).drifted.self_eq] at hme
    obtain ⟨me, hme⟩ := Option.ne_none_iff_exists'.mp hme
    cases hh : (s.newProposal k).consent.held with
    | none => rfl
    | some r => exact absurd hme (hother r me hh)

@[simp] theorem State.requestProposal_brakeSet (s : State) (k : ProposalKind) :
    (s.requestProposal k).out.brakeSet = s.out.brakeSet := by
  rw [State.requestProposal_eq]
  (repeat' split) <;> simp [State.cancelProposal_eq]

/-- A new SWING_RELEASE: the swing is PROPOSING (R113), and LOCKED again where it is cancelled at once (R114). -/
theorem State.newSwingRelease (s : State) :
    (s.newProposal .swingRelease).role.swing = .proposing
      ∧ (s.newProposal .swingRelease).cancelled.role.swing = .locked
      ∧ (s.newProposal .swingRelease).walk = s.walk
      ∧ (s.newProposal .swingRelease).cancelled.walk = s.walk := by
  have hswing : (s.newProposal .swingRelease).role.swing = .proposing := by
    simp [State.newProposal, State.tellProposing]
  have hwalk : (s.newProposal .swingRelease).walk = s.walk := by
    simp [State.newProposal, State.tellProposing]
  obtain ⟨hlocked, hkeep⟩ := State.cancelled_swing (s := s.newProposal .swingRelease)
    (by rw [State.newProposal_consent])
  exact ⟨hswing, by rw [hlocked, if_pos hswing], hwalk, hkeep.trans hwalk⟩

/-- A request in RUN, on a swing lead of a SWING_RELEASE. -/
theorem State.requestProposal_accords {s : State} (hrun : s.ctl.mode = .run) (k : ProposalKind)
    (hk : k = .swingRelease ∨ s.swingLead = false) : Accords s (s.requestProposal k) := by
  by_cases h : s.consent.own.status = .idle
  swap
  · rw [State.requestProposal_eq, if_pos h]
    exact .refl s
  have hd : Drifted s (s.requestProposal k) := (s.requestProposal_orderly (p := True) k).drifted
  have hcases := State.requestProposal_cases h k
  refine ⟨hd, fun hsound => ?_, fun hsound => ?_, fun ha => ?_⟩
  · obtain ⟨hidle, -⟩ | ⟨-, hnumber, hkind, hheld, -⟩ := hcases
    · exact hsound.retains hd (.of_idle hidle)
    · obtain ⟨haddress, -⟩ := hsound
      have hself : s.self ≠ none := fun hself => by
        rcases haddress hself with hm | hm
        · exact absurd (hm.symm.trans hrun) (by decide)
        · exact absurd (hm.symm.trans hrun) (by decide)
      exact ⟨fun hno => absurd (hd.self_eq.symm.trans hno) hself,
        fun _ => ⟨hheld hself, hnumber, by rw [hkind]; rfl⟩⟩
  · rw [State.swingSound_iff] at hsound ⊢
    obtain ⟨hlead, -⟩ := hsound
    refine ⟨fun hl => ?_, fun hm => absurd (hrun.symm.trans (hd.loading hm)) (by decide)⟩
    rw [hd.swingLead_eq] at hl
    obtain rfl : k = .swingRelease := hk.resolve_right (by rw [hl]; decide)
    obtain ⟨hstatus, hbrake, hwalk, -⟩ := hlead hl
    obtain ⟨hproposing, hlocked, hkeep, hkeep'⟩ := s.newSwingRelease
    have hset : s.out.brakeSet = true := by
      rw [h] at hstatus
      revert hstatus hbrake
      cases s.role.swing <;> simp [SwingState.status]
    unfold State.Paired
    rw [State.requestProposal_brakeSet, hset]
    obtain ⟨hidle, hr, hw⟩ | ⟨hpending, -, hkind, -, hr, hw⟩ := hcases
    · rw [hidle, hr, hw, hlocked, hkeep', hwalk]
      exact ⟨rfl, nofun, rfl, absurd rfl⟩
    · rw [hpending, hr, hw, hproposing, hkeep, hwalk]
      exact ⟨rfl, nofun, rfl, fun _ => hkind⟩
  · obtain ⟨hidle, -⟩ | ⟨hpending, -⟩ := hcases
    · exact absurd (hidle.symm.trans ha) (by decide)
    · exact absurd (hpending.symm.trans ha) (by decide)

end Sys2Proof.Machine
end

section
/-!
PROOFS. `Accords`: voting and objections, HOLD, the forced stop of a walk and STOP.
-/

set_option Elab.async false

namespace Sys2Proof.Machine

/-! ### Votes and the held proposal (R54 to R60) -/

/-- The objecting mark is written to a proposal that is held. -/
theorem State.setObjecting_accords (s : State) (b : Bool) : Accords s (s.setObjecting b) :=
  .consulted (.of_own rfl fun h => by simp [State.setObjecting, h]) rfl

theorem State.objectTo_accords (s : State) (p : Station) (n : Byte) (r : Reason) :
    Accords s (s.objectTo p n r) := .kept

theorem State.castVote_accords (s : State) (p : Station) (n : Byte) (k : ProposalKind) :
    Accords s (s.castVote p n k) := by
  have hmark : Accords s (if s.holds p n then s.setObjecting (s.vote p k).isSome else s) :=
    .guarded fun _ => s.setObjecting_accords _
  unfold State.castVote
  dsimp only
  split
  · exact hmark.trans (State.objectTo_accords _ _ _ _)
  · exact hmark

theorem State.revote_accords (s : State) : Accords s s.revote := by
  unfold State.revote
  split
  · refine .guarded fun _ => ?_
    split
    · exact .guarded' fun _ => (s.setObjecting_accords _).trans (State.objectTo_accords _ _ _ _)
    · exact s.setObjecting_accords _
  · exact .refl s

/-- A station without a proposal of its own may hold another's. -/
theorem State.holdNew_accords {s : State} (h : s.consent.own.status = .idle) (p : Station) (n : Byte)
    (k : ProposalKind) : Accords s (s.holdNew p n k) :=
  .ite (fun _ => .refl s) fun _ => .consulted (.of_idle h) rfl

theorem State.holdByTable_accords {s : State} (h : s.consent.own.status = .idle) (p : Station) (n : Byte)
    (k : ProposalKind) : Accords s (s.holdByTable p n k) := by
  have hnew := State.holdNew_accords h p n k
  unfold State.holdByTable
  split
  · exact hnew
  · exact .ite (fun _ => .guarded' fun _ => hnew) fun _ => .guarded fun _ => hnew

theorem State.yieldTo_accords {s : State} (h : s.consent.own.status = .pending) (p : Station) (n : Byte)
    (k : ProposalKind) : Accords s (s.yieldTo p n k) := by
  have hidle : ((s.cancelProposal (.yielded p)).removePropose s.consent.own.number).consent.own.status = .idle := by
    simp [State.cancelProposal_eq, OwnRecord.cancelled]
  exact ((State.cancelProposal_accords h (.yielded p)).andThen).trans (State.holdNew_accords hidle p n k)

theorem State.settlePropose_accords (s : State) (p : Station) (n : Byte) (k : ProposalKind) :
    Accords s (s.settlePropose p n k) := by
  unfold State.settlePropose
  split
  · next h => exact State.holdByTable_accords h p n k
  · next h _ => exact .guarded fun _ => State.yieldTo_accords h p n k
  · exact .refl s

theorem State.takePropose_accords (s : State) (p : Station) (n : Byte) (k : ProposalKind) :
    Accords s (s.takePropose p n k) :=
  .ite (fun _ => (s.settlePropose_accords p n k).trans (State.castVote_accords _ _ _ _)) fun _ =>
    .guarded fun _ => s.objectTo_accords _ _ _

theorem State.updateHeld_accords (s : State) (n : Station) (f : ReportFields) :
    Accords s (s.updateHeld n f) := by
  have hown : (s.updateHeld n f).consent.own = s.consent.own := by
    simp only [State.updateHeld, State.modConsent_consent]
    (repeat' split) <;> rfl
  exact .consulted (.of_own hown fun h => by simp [State.updateHeld, h]) (by rw [hown])

theorem State.dropHeldOf_accords (s : State) (n : Station) : Accords s (s.dropHeldOf n) := by
  have hown : (s.dropHeldOf n).consent.own = s.consent.own := by
    simp only [State.dropHeldOf, State.modConsent_consent]
    (repeat' split) <;> rfl
  exact .consulted (.of_own hown fun h => by simp [State.dropHeldOf, h]) (by rw [hown])

/-! ### The own proposal (R51 to R53, R61 to R63) -/

/-- The own record changes beside number, kind and status. -/
theorem State.modOwn_accords (s : State) (f : OwnRecord → OwnRecord)
    (hn : (f s.consent.own).number = s.consent.own.number := by rfl)
    (hk : (f s.consent.own).kind = s.consent.own.kind := by rfl)
    (hs : (f s.consent.own).status = s.consent.own.status := by rfl) : Accords s (s.modOwn f) :=
  .consulted (.of_status hn hk hs) hs

theorem State.proposeCompleted_accords (s : State) (n : Byte) : Accords s (s.proposeCompleted n) :=
  .guarded fun _ => s.modOwn_accords _

theorem State.noteEcho_accords (s : State) (n : Station) (f : ReportFields) :
    Accords s (s.noteEcho n f) :=
  .guarded fun _ => s.modOwn_accords _

theorem State.expireSendLimit_accords (s : State) : Accords s s.expireSendLimit :=
  .guarded fun h => (State.cancelProposal_accords h.1 .notSent).andThen

/-- An ACTIVE proposal is withdrawn with the swing that it has freed (R63, R116). -/
theorem State.withdraw_accords {s : State} (h : s.consent.own.status = .active) (x : Station × Reason) :
    Accords s ((s.modOwn fun r => { r with status := .withdrawing }).withdrawSwing x) := by
  have ho : Orderly True s ((s.modOwn fun r => { r with status := .withdrawing }).withdrawSwing x) :=
    (s.modOwn_orderly _).trans (State.withdrawSwing_orderly _ _)
  refine .of_paired ho.drifted ⟨fun _ => by simp [h], by simp⟩ fun _ hpaired => ?_
  obtain ⟨hstatus, -, hwalk, hkind⟩ := hpaired
  have hfree : s.role.swing = .free := by
    rw [h] at hstatus
    revert hstatus
    cases s.role.swing <;> simp [SwingState.status]
  have hswing : ((s.modOwn fun r => { r with status := .withdrawing }).withdrawSwing x).role.swing = .withdrawing := by
    simp [State.withdrawSwing, hfree]
  refine ⟨⟨?_, fun _ => .inr hswing, ?_, fun _ => ?_⟩, fun hl => ?_⟩
  · simp [hswing, SwingState.status]
  · simpa using hwalk
  · simpa using hkind (by rw [hfree]; decide)
  · exact absurd (hfree.symm.trans hl) (by decide)

theorem State.takeCurrentObject_accords (s : State) (x : Station × Reason) :
    Accords s (s.takeCurrentObject x) := by
  unfold State.takeCurrentObject
  split
  · exact s.modOwn_accords _
  · next h =>
    split
    · exact s.abortWalk_accords _
    all_goals exact State.withdraw_accords h x
  all_goals exact .refl s

theorem State.takeObject_accords (s : State) (q p : Station) (n : Byte) (r : Reason) :
    Accords s (s.takeObject q p n r) :=
  .ite (fun _ => .refl s) fun _ =>
    .ite (fun _ => s.takeCurrentObject_accords _) fun _ => .consulted (.of_own rfl id) rfl

/-! ### The own report -/

theorem State.ownReport_accords (s : State) : Accords s s.ownReport := by
  have hseq (u : State) : Accords u (u.modCtl fun c => { c with reportSeq := c.reportSeq + 1 }) := .modCtl
  unfold State.ownReport
  exact ((s.revote_accords.trans (hseq _)).andThen).trans (State.queueFrame_accords _ _)

theorem State.startReportTimer_accords (s : State) : Accords s s.startReportTimer := .modCtl

theorem State.reportEvent_accords (s : State) : Accords s s.reportEvent :=
  s.startReportTimer_accords.trans (State.ownReport_accords _)

/-! ### HOLD and raises of TRIP codes -/

theorem State.enterHold_accords {s : State} (h : s.ctl.mode = .run) : Accords s s.enterHold := by
  have hrest : Accords s s.dropToHold.restTarget := by
    rw [State.restTarget_eq]
    exact .of_drift ⟨rfl, rfl, .inr (.inr (.inl ⟨h, rfl⟩))⟩ (.refl _) rfl rfl id rfl
  rw [State.enterHold_eq]
  exact .ite (fun _ => hrest.trans (State.stopWalk_accords _)) fun _ => hrest

theorem State.addCause_accords (s : State) (c : HoldCause) : Accords s (s.addCause c) := by
  have hput : Accords s (s.putCause c true) := .modCtl
  exact .guarded' fun _ => .ite (fun h => hput.trans (State.enterHold_accords h)) fun _ => hput

theorem State.addLocalTrip_accords (s : State) : Accords s s.addLocalTrip :=
  .guarded' fun _ => (s.addCause_accords _).trans (State.endSupply_accords _)

theorem State.raiseTrip_accords (s : State) (c : AlarmCode) (v : Int) : Accords s (s.raiseTrip c v) :=
  .guarded' fun _ => ((s.latch_accords c v).trans (.guarded fun _ => State.addLocalTrip_accords _)).trans
    (State.armAndNotice_accords _ _ _ _)

/-! ### The forced stop of a walk -/

theorem State.enterForced_accords {s : State} (h : s.walk.state ≠ .idle) (c : ForcedCause) :
    Accords s (s.enterForced c) :=
  (Accords.walking (t := s.braked c) h (.refl _) rfl).trans (State.raiseTrip_accords _ _ _)

theorem State.forceWalk_accords (s : State) (c : ForcedCause) : Accords s (s.forceWalk c) := by
  unfold State.forceWalk
  split
  · next h => exact State.enterForced_accords (by rw [h]; decide) c
  · next h => exact State.enterForced_accords (by rw [h]; decide) c
  · next h => exact .guarded fun _ => State.enterForced_accords (by rw [h]; decide) c
  · next h => exact .guarded fun _ => State.enterForced_accords (by rw [h]; decide) c
  · exact .kept
  all_goals exact .refl s

theorem State.clearForced_accords (s : State) (c : ForcedCause) : Accords s (s.clearForced c) :=
  .guarded' fun _ => .trans .kept (.guarded fun _ => State.returnAlarm_accords _ _)

/-! ### STOP -/

theorem State.stopSupply_accords (s : State) : Accords s s.stopSupply := by
  unfold State.stopSupply
  split
  · exact s.endSupply_accords
  · exact s.endSupply_accords
  · exact .guarded fun _ => s.clearReference_accords.trans (State.openTransfer_accords _)
  · exact .refl s

theorem State.startReporting_accords (s : State) (m : Mode) : Accords s (s.startReporting m) := by
  unfold State.startReporting
  split
  · exact (s.firstWriteBlock_accords.trans (State.startReportTimer_accords _)).trans
      (State.ownReport_accords _)
  · exact .guarded fun _ => s.startReportTimer_accords.trans (State.ownReport_accords _)
  all_goals exact .refl s

theorem State.enterStop_accords (s : State) : Accords s s.enterStop := by
  by_cases h : s.ctl.mode = .stop
  · rw [State.enterStop_of_stop h]
    exact .refl s
  · rw [State.enterStop_of_ne h]
    have hhalt : Accords s s.halted :=
      .of_drift ⟨rfl, rfl, .inr (.inr (.inr ⟨rfl, fun _ => trivial⟩))⟩ (.refl _) rfl rfl id rfl
    have hsafe (u : State) : Accords u u.makeSafe := .kept (hb := nofun)
    have hset (u : State) : u.makeSafe.out.brakeSet = true := rfl
    exact ((((hhalt.trans (State.stopSupply_accords _)).trans (hsafe _)).trans
      (State.stopSwing_accords (hset _))).trans (State.forceWalk_accords _ _)).trans
      (State.startReporting_accords _ _)

theorem State.raiseStop_accords (s : State) (c : AlarmCode) (v : Int) : Accords s (s.raiseStop c v) :=
  .guarded' fun _ => ((s.latch_accords c v).trans (State.enterStop_accords _)).trans
    (State.armAndNotice_accords _ _ _ _)

end Sys2Proof.Machine
end

section
/-!
PROOFS. `Accords`: the peer table and regulation.
-/

set_option Elab.async false

namespace Sys2Proof.Machine

/-! ### The peer table (Machine/Peer.lean) -/

theorem State.findConflict_accords (s : State) (n : Station) : Accords s (s.findConflict n) :=
  .guarded fun _ => ((State.raiseTrip_accords (s.modPeers fun t => { t with conflict := true })
    .roleConflict (stationNumber n)).after).trans (State.addCause_accords _ _)

theorem State.endConflict_accords (s : State) : Accords s s.endConflict :=
  .guarded fun _ => ((State.returnAlarm_accords (s.modPeers fun t => { t with conflict := false })
    .roleConflict).after).trans (State.removeCause_accords _ _)

theorem State.addPeerStop_accords (s : State) (b : Bool) : Accords s (s.addPeerStop b) :=
  .guarded fun _ => s.addCause_accords _

theorem State.removePeerStop_accords (s : State) (b : Bool) : Accords s (s.removePeerStop b) :=
  .guarded fun _ => s.removeCause_accords _

theorem State.returnMismatch_accords (s : State) (b : Bool) : Accords s (s.returnMismatch b) :=
  .guarded fun _ => s.returnAlarm_accords _

theorem State.returnLost_accords (s : State) (b : Bool) : Accords s (s.returnLost b) :=
  .guarded fun _ => s.returnAlarm_accords _

theorem State.returnStale_accords (s : State) : Accords s s.returnStale :=
  .guarded fun _ => (State.returnAlarm_accords _ _).after

theorem State.completePicture_accords (s : State) : Accords s s.completePicture :=
  .guarded' fun _ => s.removeCause_accords _

/-- A walk that was not IDLE has ended, and its proposal with it (R127, R138). -/
theorem Accords.walkEnded {s : State} (h : s.walk.state ≠ .idle) : Accords s (s.enterWalk .idle).clearProposal :=
  .walking h (by simpa using (s.enterWalk .idle).clearProposal_retains)

theorem State.endReturning_accords (s : State) : Accords s s.endReturning :=
  .guarded fun h => .walkEnded (by rw [h.1]; decide)

theorem State.stepWalk_accords {s : State} (h : s.walk.state ≠ .idle) : Accords s s.stepWalk :=
  .walking h (by simpa [State.stepWalk] using .refl _) (by simp [State.stepWalk])

theorem State.walkTakesDrag_accords (s : State) (n : Station) : Accords s (s.walkTakesDrag n) := by
  have hforced : Accords s
      (if (if (s.entry n).shows .walkSupply then s else s.forceWalk .supply).allSupplying then
        (if (s.entry n).shows .walkSupply then s else s.forceWalk .supply).clearForced .supply
      else if (s.entry n).shows .walkSupply then s else s.forceWalk .supply) :=
    (Accords.guarded' fun _ => s.forceWalk_accords _).trans
      (.guarded fun _ => State.clearForced_accords _ _)
  unfold State.walkTakesDrag
  split
  · exact .guarded fun h => State.stepWalk_accords (by rw [h.1]; decide)
  · exact hforced
  · exact hforced
  · exact hforced
  · exact s.endReturning_accords
  all_goals exact .refl s

theorem State.dragTakesWalk_accords (s : State) (w : WalkState) : Accords s (s.dragTakesWalk w) := by
  unfold State.dragTakesWalk
  split
  · exact s.returnSupply_accords
  · exact s.returnSupply_accords
  · exact s.returnSupply_accords
  · exact s.returnSupply_accords
  · exact s.clearReference_accords
  · exact .refl s

theorem State.walkActive_accords (s : State) (w : WalkState) : Accords s (s.walkActive w) :=
  .ite (fun _ => s.addCause_accords _) fun _ => s.removeCause_accords _

theorem State.dutiesTake_accords (s : State) (n : Station) (f : ReportFields) :
    Accords s (s.dutiesTake n f) :=
  (Accords.guarded fun _ => s.walkTakesDrag_accords n).trans
    (.guarded fun _ => (Accords.guarded fun _ => State.dragTakesWalk_accords _ _).trans
      (.guarded fun _ => State.walkActive_accords _ _))

theorem State.partnerTakes_accords (s : State) (n : Station) : Accords s (s.partnerTakes n) := by
  have hmark : Accords s (s.modDrive fun d => { d with partnerMark := false }) := .kept
  exact .ite (fun _ => s.removeCause_accords _) fun _ => .guarded fun _ => hmark.trans (State.returnAlarm_accords _ _)

/-- A report is taken into its entry (R35). -/
theorem State.acceptReport_accords (s : State) (n : Station) (seq : BitVec 4) (role : BitVec 3)
    (f : ReportFields) : Accords s (s.acceptReport n seq role f) := by
  have hfiled : Accords s (s.filed n seq role f) := .kept rfl rfl rfl id rfl
  have halerted (u : State) (old : PeerEntry) : Accords u (u.alerted n old) :=
    ((Accords.guarded fun _ => u.raiseWarn_accords _ _).trans
      (.guarded fun _ => State.raiseTrip_accords _ _ _)).trans (State.findConflict_accords _ n)
  have hnoted (u : State) (b : Bool) : Accords u (u.noted n f b) :=
    ((u.addPeerStop_accords b).trans (State.noteEcho_accords _ n f)).trans (State.updateHeld_accords _ n f)
  have hcalmed (u : State) (lost mismatch stop : Bool) : Accords u (u.calmed n lost mismatch stop) :=
    ((((((u.returnLost_accords lost).trans (State.returnStale_accords _)).trans
      (State.returnMismatch_accords _ mismatch)).trans (State.endConflict_accords _)).trans
      (State.removePeerStop_accords _ stop)).trans (State.partnerTakes_accords _ n)).trans
      (State.completePicture_accords _)
  rw [State.acceptReport_eq]
  exact (((hfiled.trans (halerted _ _)).trans (hnoted _ _)).trans
    (State.dutiesTake_accords _ n f)).trans (hcalmed _ _ _ _)

theorem State.countMalformed_accords (s : State) : Accords s s.countMalformed := .kept

theorem State.takeReport_accords (s : State) (n : Station) (l : List Byte) :
    Accords s (s.takeReport n l) :=
  .guarded' fun _ => .ite (fun _ => s.countMalformed_accords) fun _ =>
    .ite (fun _ => .kept) fun _ => s.acceptReport_accords n _ _ _

theorem State.partnerStale_accords (s : State) (n : Station) : Accords s (s.partnerStale n) :=
  .guarded fun _ => (State.raiseWarn_accords _ _ _).after

theorem State.walkDragStale_accords (s : State) (n : Station) : Accords s (s.walkDragStale n) :=
  .guarded fun _ => (s.abortWalk_accords _).trans (State.endReturning_accords _)

theorem State.goStale_accords (s : State) (n : Station) : Accords s (s.goStale n) := by
  have hage : Accords s (s.modEntry n fun e => { e with status := .stale, staleMark := true }) := .kept
  exact ((((hage.trans (.guarded fun _ => State.raiseWarn_accords _ _ _)).trans
    (State.findConflict_accords _ _)).trans (State.partnerStale_accords _ _)).trans
    (State.walkDragStale_accords _ _)).trans (State.endConflict_accords _)

theorem State.goAbsent_accords (s : State) (n : Station) : Accords s (s.goAbsent n) := by
  have hage : Accords s (s.modEntry n PeerEntry.afterAbsence) := .kept
  have hlost (u : State) : Accords u (((u.rosterLost n).findConflict n).leadAbsent n) :=
    ((Accords.guarded fun _ => (u.raiseTrip_accords _ _).trans (State.addCause_accords _ _)).trans
      (State.findConflict_accords _ n)).trans (.guarded fun _ => State.addCause_accords _ _)
  have hduties (u : State) : Accords u (((u.walkDragAbsent n).walkAbsentAtDrag n).dropHeldOf n) :=
    ((Accords.guarded fun _ => (u.forceWalk_accords _).trans (State.endReturning_accords _)).trans
      (.guarded fun _ => State.endSupply_accords _)).trans (State.dropHeldOf_accords _ n)
  have hreturns (u : State) (mismatch stop : Bool) : Accords u
      (((((u.returnMismatch mismatch).endConflict).removePeerStop stop).returnUnlisted n).walkAbsentHeld n) :=
    ((((u.returnMismatch_accords mismatch).trans (State.endConflict_accords _)).trans
      (State.removePeerStop_accords _ stop)).trans (.guarded fun _ => State.returnAlarm_accords _ _)).trans
      (.guarded fun _ => State.removeCause_accords _ _)
  exact ((hage.trans (hlost _)).trans (hduties _)).trans (hreturns _ _ _)

theorem State.stopNotice_accords (s : State) (n : Station) : Accords s (s.stopNotice n) :=
  .guarded fun _ => (State.addPeerStop_accords _ _).after

/-! ### Measurement and the drive regulator (Machine/Measure.lean, Machine/Drive.lean) -/

theorem State.expireTachExcess_accords (s : State) : Accords s s.expireTachExcess :=
  .guarded fun _ => (State.raiseTrip_accords _ _ _).after

theorem State.expireTachRecovery_accords (s : State) : Accords s s.expireTachRecovery :=
  .guarded fun _ => (State.returnAlarm_accords _ _).after

theorem State.measure_accords (s : State) (raw : Analog) : Accords s (s.measure raw) := by
  unfold State.measure State.checkTach
  exact ((State.expireTachExcess_accords (s.formValues raw).watchTach).after).trans
    (State.expireTachRecovery_accords _)

theorem State.sectorMarks_accords (s : State) (c : Int) : Accords s (s.sectorMarks c) :=
  .guarded fun _ => .trans .kept (.ite (fun _ => State.raiseWarn_accords _ _ _) fun _ =>
    .guarded fun _ => State.returnAlarm_accords _ _)

theorem State.expireBrakeSet_accords (s : State) : Accords s s.expireBrakeSet :=
  .guarded fun _ => .kept

/-- The brake is released by a swing follow, which has no swing, or in a proposal that is ACTIVE or WITHDRAWING
(R97, R118). -/
theorem State.brakeRule_accords {s : State} (hm : s.ctl.mode ≠ .loading) : Accords s s.brakeRule := by
  unfold State.brakeRule
  refine .ite (fun h => ?_) fun _ => .ite (fun _ => .guarded fun h => ?_) fun _ => ?_
  · have hlead : s.swingLead = false := by
      simp only [State.swingFollow, State.follows, Bool.and_eq_true, beq_iff_eq] at h
      simp [State.swingLead, State.leads, h.2]
    have hfollow : s.followBrake.ctl = s.ctl ∧ s.followBrake.consent = s.consent := by
      unfold State.followBrake
      split <;> simp
    obtain ⟨hctl, hconsent⟩ := hfollow
    exact .of_not_lead (.of_ctl hctl) (by rw [hconsent]; exact .refl _) hlead hm
  · refine .of_paired (.of_ctl rfl) (.refl _) fun hl ⟨hstatus, _, hwalk, hkind⟩ =>
      ⟨⟨hstatus, fun _ => ?_, hwalk, hkind⟩, id⟩
    have hrole : s.ownRole = some .swing := by
      have hswing := hl.resolve_right hm
      simp only [State.swingLead, State.is, Bool.and_eq_true, beq_iff_eq] at hswing
      exact hswing.1
    have hpermits : s.consent.own.status = .active ∨ s.consent.own.status = .withdrawing := by
      simp only [Bool.and_eq_true] at h
      obtain ⟨-, hp⟩ := h
      simpa [State.permitsRelease, hrole] using hp
    rw [hstatus] at hpermits
    show s.role.swing = .free ∨ s.role.swing = .withdrawing
    revert hpermits
    cases s.role.swing <;> simp [SwingState.status]
  · exact .trans .kept (State.expireBrakeSet_accords _)

theorem State.regulate_accords (s : State) (c t eb : Int) : Accords s (s.regulate c t eb) :=
  .kept (hs := by simp [State.regulate]) (hb := by simp [State.regulate, State.setDuty])

theorem State.driveExpiry_accords (s : State) : Accords s s.driveExpiry := by
  refine .ite (fun h => ?_) fun _ => .kept (hs := by simp [State.noStep])
  have hregulated : Accords s ((s.sectorMarks s.command).regulate s.command
      ((s.sectorMarks s.command).targetOf s.command) (s.sectorMarks s.command).stepExcess) :=
    (s.sectorMarks_accords _).trans (State.regulate_accords _ _ _ _)
  have hmode : s.ctl.mode ≠ .loading := fun hm => by
    simp [State.takesStep, hm] at h
  exact hregulated.trans (State.brakeRule_accords fun hm => hmode (hregulated.loading hm))

theorem State.expireDisagree_accords (s : State) : Accords s s.expireDisagree :=
  .guarded fun _ => (State.raiseTrip_accords _ _ _).after

theorem State.expireAgree_accords (s : State) : Accords s s.expireAgree :=
  .guarded fun _ => (State.returnAlarm_accords _ _).after

theorem State.expireLoss_accords (s : State) : Accords s s.expireLoss :=
  .guarded fun _ => (State.raiseTrip_accords _ _ _).after

theorem State.expireLossClear_accords (s : State) : Accords s s.expireLossClear :=
  .guarded fun _ => (State.returnAlarm_accords _ _).after

theorem State.watchOvercurrent_accords (s : State) : Accords s s.watchOvercurrent :=
  .ite (fun _ => .kept) fun _ => .guarded fun _ => (State.raiseTrip_accords _ _ _).after

theorem State.watchOvervoltage_accords (s : State) : Accords s s.watchOvervoltage :=
  .ite (fun _ => .kept) fun _ => .guarded fun _ => (State.raiseTrip_accords _ _ _).after

theorem State.expireClear_accords (s : State) (x : FieldCheck) : Accords s (s.expireClear x) := by
  unfold State.expireClear
  split
  · exact .guarded fun _ => (State.returnAlarm_accords _ _).after
  · exact .guarded fun _ => (State.returnAlarm_accords _ _).after

theorem State.checks_accords (s : State) (d : Int) : Accords s (s.checks d) := by
  have hbrake : Accords s s.watchBrake.expireDisagree.expireAgree :=
    (s.watchBrake.expireDisagree_accords.after).trans (State.expireAgree_accords _)
  have hloss (u : State) : Accords u ((u.watchFieldLoss d).expireLoss.expireLossClear) :=
    ((u.watchFieldLoss d).expireLoss_accords.after).trans (State.expireLossClear_accords _)
  exact hbrake.trans (.guarded fun _ => ((((hloss _).trans (State.watchOvercurrent_accords _)).trans
    (State.expireClear_accords _ _)).trans (State.watchOvervoltage_accords _)).trans
    (State.expireClear_accords _ _))

/-! ### Role logic (Machine/RoleLogic.lean) -/

theorem State.expireOverload_accords (s : State) : Accords s s.expireOverload :=
  .guarded fun _ => (State.raiseTrip_accords _ _ _).after

theorem State.checkBoom_accords (s : State) : Accords s s.checkBoom := by
  have hwatch : Accords s s.watchOverload :=
    .ite (fun _ => .ite (fun _ => (State.returnAlarm_accords _ _).after) fun _ => .kept) fun _ => .kept
  exact .guarded fun _ => hwatch.trans (State.expireOverload_accords _)

theorem State.requestSwing_accords (s : State) : Accords s s.requestSwing :=
  .guarded fun h => (s.returnAlarm_accords _).trans
    (State.requestProposal_accords (State.returnAlarm_run h.1 _) _ (.inl rfl))

theorem State.setSwingBrake_brakeSet (s : State) : s.setSwingBrake.out.brakeSet = true := rfl

theorem State.watchRest_accords (s : State) : Accords s s.watchRest := .kept (hs := rfl)

theorem State.expireRest_accords (s : State) : Accords s s.expireRest :=
  .guarded fun h => .locked (s.setSwingBrake_orderly.trans (State.lockSwing_orderly _))
    (hb := by simp [State.setSwingBrake_brakeSet]) (hstate := .inl (by simp_all))

theorem State.endWithdrawal_accords {s : State} (h : s.role.swing = .withdrawing) :
    Accords s s.endWithdrawal :=
  .guarded fun _ => .locked ((s.setSwingBrake_orderly.trans (State.lockSwing_orderly _)).trans
    (State.raiseWithdrawn_orderly _)) (hb := by simp [State.setSwingBrake_brakeSet]) (hstate := .inr h)

theorem State.swingStep_accords (s : State) : Accords s s.swingStep := by
  unfold State.swingStep
  dsimp only
  split
  · exact s.requestSwing_accords.andThen
  · exact .kept
  · exact Accords.andThen ((s.watchRest_accords).trans (State.expireRest_accords _))
  · next h => exact (State.endWithdrawal_accords h).andThen

theorem State.startTransfer_accords (s : State) : Accords s s.startTransfer :=
  .guarded fun _ => .kept (hs := by simp)
    (hb := by unfold State.withdrawPermission; split <;> simp_all)

theorem State.supplyExpiry_accords (s : State) : Accords s s.supplyExpiry :=
  .guarded fun _ => s.startTransfer_accords.trans (.guarded fun _ => State.openTransfer_accords _)

theorem State.roleExpiry_accords (s : State) : Accords s s.roleExpiry := by
  have hphase (u : State) : Accords u u.notePhase := .kept (hs := rfl)
  exact ((s.checkBoom_accords.trans (.guarded fun _ => State.swingStep_accords _)).trans
    (State.supplyExpiry_accords _)).trans (hphase _)

theorem State.failSupply_accords (s : State) (v : Int) : Accords s (s.failSupply v) :=
  (s.raiseTrip_accords _ _).trans (State.endSupply_accords _)

theorem State.contactorRises_accords (s : State) : Accords s s.contactorRises := by
  unfold State.contactorRises
  split
  · exact .kept
  · exact .kept
  all_goals exact .refl s

theorem State.contactorFalls_accords (s : State) : Accords s s.contactorFalls := by
  unfold State.contactorFalls
  split
  · exact s.failSupply_accords _
  · exact .guarded' fun _ => s.supplyNormal_accords
  · exact .trans .kept (.guarded fun _ => State.returnAlarm_accords _ _)
  · exact .refl s

theorem State.expireTransfer_accords (s : State) : Accords s s.expireTransfer :=
  .guarded fun _ => (State.failSupply_accords _ _).after

theorem State.expireReturn_accords (s : State) : Accords s s.expireReturn :=
  .guarded fun _ => (State.raiseTrip_accords _ _ _).after

theorem State.expireClosed_accords (s : State) : Accords s s.expireClosed :=
  .guarded fun _ => (State.raiseTrip_accords _ _ _).after

/-! ### The walk sequencer (Machine/Walk.lean) -/

theorem State.checkSkew_accords (s : State) : Accords s s.checkSkew :=
  .ite (fun _ => .guarded fun _ => (State.returnAlarm_accords _ _).after) fun _ =>
    .guarded fun _ => (State.raiseStop_accords _ _ _).after

theorem State.haltWalk_accords {s : State} (h : s.walk.state ≠ .idle) : Accords s s.haltWalk :=
  .walking h (by simpa [State.haltWalk] using .refl _) (by simp [State.haltWalk])

theorem State.stoppingPhase_accords (s : State) : Accords s s.stoppingPhase := by
  unfold State.stoppingPhase
  split
  · exact .guarded fun _ => .kept
  · next h _ => exact .ite (fun _ => .kept) fun _ => .guarded fun _ => State.haltWalk_accords (by rw [h]; decide)
  · exact .refl s

theorem State.expireEnd_accords (s : State) : Accords s s.expireEnd :=
  .guarded fun h => by
    have hhalted : s.walk.state ≠ .idle := fun hw => by simp [hw] at h
    exact (Accords.walking hhalted (by simpa using .refl _)).trans (State.endReturning_accords _)

theorem State.walkExpiry_accords (s : State) : Accords s s.walkExpiry := by
  have hend (u : State) : Accords u u.checkEnd :=
    .guarded fun _ => (State.expireEnd_accords u.watchEnd).after (hw := rfl)
  have href (u : State) : Accords u (if u.walk.state.moves then u.walkReferences else u) :=
    .guarded fun _ => .kept (hw := rfl)
  have hjudge : Accords s s.judgeCams := .kept (hw := rfl)
  exact .guarded fun _ => ((hjudge.trans (hend _)).trans (href _)).trans
    ((State.checkSkew_accords _).trans (State.stoppingPhase_accords _))

/-- The walk is commanded at a walk station, in RUN (R126, R137). -/
theorem State.walkCommanded_accords {s : State} (hw : s.is .walk = true) (hrun : s.ctl.mode = .run) :
    Accords s s.walkCommanded := by
  have hlead : s.swingLead = false := State.swingLead_of_is hw (by decide)
  have hbegin : Accords s s.beginWalk := .guarded' fun _ => by
    refine (s.returnAlarm_accords _).trans (State.requestProposal_accords (State.returnAlarm_run hrun _) _ (.inr ?_))
    rw [(s.returnAlarm_orderly (p := True) .walkAborted).drifted.swingLead_eq, hlead]
  unfold State.walkCommanded
  split
  · exact hbegin
  · next h => exact .guarded fun _ => State.stepWalk_accords (by rw [h]; decide)
  · next h =>
    refine .guarded fun _ => .guarded' fun _ => .ite (fun _ => State.haltWalk_accords (by rw [h]; decide)) fun _ => ?_
    exact .walking (by rw [h]; decide) (by simpa using .refl _)
  all_goals exact .refl s

theorem State.expireStopHold_accords (s : State) : Accords s s.expireStopHold :=
  .guarded fun _ => (State.forceWalk_accords _ _).after

theorem State.expireSupplyLimit_accords (s : State) : Accords s s.expireSupplyLimit :=
  .guarded fun h => by
    have htransfer : s.walk.state ≠ .idle := fun hw => by simp [hw] at h
    exact (Accords.walkEnded htransfer).trans (State.raiseWarn_accords _ _ _)

/-! ### The heat monitor (Machine/Heat.lean) -/

theorem State.formLevel_accords (s : State) : Accords s s.formLevel :=
  .trans .kept (.ite (fun _ => State.raiseWarn_accords _ _ _) fun _ =>
    .guarded fun _ => State.returnAlarm_accords _ _)

theorem State.expireDerate_accords (s : State) : Accords s s.expireDerate := by
  refine .guarded fun _ => ?_
  split
  · exact .guarded fun _ => (State.formLevel_accords _).after
  · exact .guarded fun _ => (State.formLevel_accords _).after
  · exact .refl s

theorem State.heatExpiry_accords (s : State) : Accords s s.heatExpiry := by
  have hoverheat (u : State) : Accords u u.checkOverheat :=
    .ite (fun _ => .guarded fun _ => (State.returnAlarm_accords _ _).after) fun _ =>
      .guarded fun _ => (State.raiseTrip_accords _ _ _).after
  exact .guarded fun _ => ((State.expireDerate_accords _).after).trans (hoverheat _)

theorem State.forceLevel_accords (s : State) (n : Nat) : Accords s (s.forceLevel n) :=
  (State.formLevel_accords _).after

/-! ### The expiry (Machine/Expiry.lean) -/

theorem State.neutralExpiry_accords (s : State) : Accords s s.neutralExpiry := by
  have htime (x : Timer) : Accords s (s.modCtl fun c => { c with neutralSince := x }) := .modCtl
  exact .guarded fun _ => (htime _).trans (State.tryRun_accords _)

theorem State.expiryWork_accords (s : State) (raw : Analog) : Accords s (s.expiryWork raw) := by
  have hstep : Accords s (s.expiryStep raw) :=
    ((State.measure_accords (s.restartRegulation raw) raw).after).trans (State.driveExpiry_accords _)
  exact ((((hstep.trans (State.checks_accords _ _)).trans (State.roleExpiry_accords _)).trans
    (State.walkExpiry_accords _)).trans (State.heatExpiry_accords _)).trans (State.neutralExpiry_accords _)

theorem State.regulationExpiry_accords (s : State) (raw : Analog) : Accords s (s.regulationExpiry raw) := by
  have hstore (u : State) (k : CaptureStore) : Accords u (u.withStore k) := .kept rfl rfl rfl id rfl
  have hcapture (u : State) (v : Sample) : Accords u (u.captureWork v) :=
    ((State.decideDue_accords _).after).trans (State.endPost_accords _)
  have hquiet (u : State) : Accords u u.noteQuiet := .kept rfl rfl rfl id rfl
  exact .guarded fun _ => .ite
    (fun _ => (((((s.expiryWork_accords raw).trans (hstore _ _)).trans (hcapture _ _)).trans (hstore _ _)).trans
      (hquiet _)))
    fun _ => (s.expiryWork_accords raw).trans (hquiet _)

end Sys2Proof.Machine
end

section
/-!
PROOFS. Link, reception, service, edges and the window expiry; every command but a reset, a load and the end of
LISTEN `Accords`; O56.
-/

set_option Elab.async false

namespace Sys2Proof.Machine

/-! ### The link controller (Machine/Edges.lean) -/

theorem State.modLink_accords (s : State) (f : LinkController → LinkController) : Accords s (s.modLink f) :=
  .kept

theorem State.startTransmission_accords (s : State) : Accords s s.startTransmission := by
  unfold State.startTransmission
  split
  · exact .refl s
  · exact .guarded fun _ => s.modLink_accords _

theorem State.loseContest_accords (s : State) : Accords s s.loseContest := by
  unfold State.loseContest
  split
  · exact .kept
  · exact .refl s

theorem State.declareFault_accords (s : State) : Accords s s.declareFault := by
  have hdiscard : Accords s (s.discardQueue.modLink fun l => { l with quietOut := some s.now, failCount := 0 }) :=
    .kept
  exact (hdiscard.trans (State.raiseTrip_accords _ _ _)).trans (State.addCause_accords _ _)

theorem State.failTransmission_accords (s : State) : Accords s s.failTransmission := by
  unfold State.failTransmission
  split
  · exact .trans .kept (.guarded fun _ => State.declareFault_accords _)
  · exact .refl s

theorem State.useCompletion_accords (s : State) (f : OutFrame) : Accords s (s.useCompletion f) := by
  unfold State.useCompletion
  split
  · exact .guarded fun _ => (s.returnAlarm_accords _).trans (State.removeCause_accords _ _)
  · exact s.proposeCompleted_accords _
  · exact .guarded fun _ => .kept
  all_goals exact .refl s

theorem State.completeTransmission_accords (s : State) : Accords s s.completeTransmission := by
  unfold State.completeTransmission
  split
  · exact (State.useCompletion_accords _ _).after
  · exact .refl s

theorem State.endQuietOut_accords (s : State) : Accords s s.endQuietOut :=
  .guarded fun _ => (s.modLink_accords _).trans (State.reportEvent_accords _)

theorem State.clash_accords (s : State) (src : BitVec 4) : Accords s (s.clash src) := by
  have hraise (t : State) : Accords t (if s.link.clashTimer.isSome then t
      else t.raiseStop .addressClash src.toNat) := .guarded' fun _ => t.raiseStop_accords _ _
  exact (s.modLink_accords _).trans (hraise _)

theorem State.expireClash_accords (s : State) : Accords s s.expireClash :=
  .guarded fun _ => (s.modLink_accords _).trans (State.returnAlarm_accords _ _)

/-! ### A frame received (R26 to R29) -/

theorem State.receive_accords (s : State) (f : Frame) {hand : State → State} (h : Accords s (hand s)) :
    Accords s (s.receive f hand) :=
  .guarded' fun _ => .trans (.ite (fun _ => s.clash_accords _) fun _ =>
    .ite (fun _ => s.countMalformed_accords) fun _ => h) (State.modLink_accords _ _)

theorem State.handReport_accords (s : State) (f : Frame) : Accords s (s.handReport f) := by
  unfold State.handReport
  split
  · exact s.takeReport_accords _ _
  · exact .refl s

theorem State.handPropose_accords (s : State) (f : Frame) : Accords s (s.handPropose f) := by
  unfold State.handPropose
  split
  · dsimp only
    split
    · exact .ite (fun _ => s.countMalformed_accords) fun _ => s.takePropose_accords _ _ _
    · exact s.countMalformed_accords
  · exact .refl s

theorem State.handObject_accords (s : State) (f : Frame) : Accords s (s.handObject f) := by
  unfold State.handObject
  split
  · dsimp only
    split
    · exact .ite (fun _ => s.countMalformed_accords) fun _ => s.takeObject_accords _ _ _ _
    · exact s.countMalformed_accords
  · exact .refl s

theorem State.takeNotice_accords (s : State) (n : Station) (c : AlarmCode) (v : Word16) (b : Bool) (q : Word16) :
    Accords s (s.takeNotice n c v b q) := by
  have harm (t : State) : Accords t (if b && t.inService then t.captureArm ⟨n, q⟩ none else t) :=
    .guarded fun _ => .kept
  have hmark (t : State) : Accords t (if c.severity = .stop then t.stopNotice n else t) :=
    .guarded fun _ => t.stopNotice_accords n
  exact ((hmark _).trans (harm _)).after

theorem State.handNotice_accords (s : State) (f : Frame) : Accords s (s.handNotice f) := by
  unfold State.handNotice
  split
  · split
    · exact .ite (fun _ => s.takeNotice_accords _ _ _ _ _) fun _ => s.countMalformed_accords
    · exact s.countMalformed_accords
  · exact .refl s

theorem State.handKeep_accords (s : State) (f : Frame) : Accords s (s.handKeep f) := by
  unfold State.handKeep
  dsimp only
  split
  · exact .ite (fun _ => s.countMalformed_accords) fun _ => .guarded fun _ => s.takeKeepNotice_accords _
  · exact s.countMalformed_accords

/-! ### The service logic (Machine/Service.lean) -/

theorem State.answer_accords (s : State) (code : Byte) (r : Reply) : Accords s (s.answer code r) :=
  s.queueFrame_accords _

theorem State.serve_accords (s : State) (code : Byte) (work : State → State × Reply)
    (hw : ∀ u, Accords u (work u).1) : Accords s (s.serve code work) := by
  have hslot : Accords s (s.setSlot true) := .kept
  exact .guarded' fun _ => .ite (fun _ => .guarded' fun _ => s.queueFrame_accords _) fun _ =>
    (hslot.trans (hw _)).trans (State.answer_accords _ _ _)

theorem State.request_accords (s : State) (h : Header) (code : Byte) (args : List Byte)
    (work : State → State × Reply) (hw : ∀ u, Accords u (work u).1) :
    Accords s (s.request h code args work) := by
  refine s.receive_accords _ ?_
  unfold State.handRequest
  split
  · exact .guarded fun _ => s.serve_accords _ _ hw
  · exact .refl s

theorem workAck_accords (args : List Byte) (s : State) : Accords s (workAck args s).1 := by
  unfold workAck
  split
  · exact .refl s
  · dsimp only
    exact s.acknowledge_accords

theorem workRelease_accords (args : List Byte) (s : State) : Accords s (workRelease args s).1 := by
  unfold workRelease
  split
  · exact .refl s
  · split
    · exact s.releaseHead_accords
    · exact .refl s

theorem workForce_accords (args : List Byte) (s : State) : Accords s (workForce args s).1 := by
  unfold workForce
  split
  · split
    · exact s.forceLevel_accords _
    · exact .refl s
  · exact .refl s

/-! ### Edges of the inputs -/

theorem State.permitRises_accords (s : State) : Accords s s.permitRises :=
  (s.removeCause_accords _).trans (State.tryRun_accords _)

theorem State.permitFalls_accords (s : State) : Accords s s.permitFalls :=
  .guarded fun h => State.enterHold_accords h

theorem State.ackRises_accords (s : State) : Accords s s.ackRises :=
  .guarded' fun _ => s.acknowledge_accords

theorem State.modMeas_accords (s : State) (f : Measurement → Measurement) : Accords s (s.modMeas f) := .kept

theorem State.limitRises_accords (s : State) : Accords s s.limitRises := by
  refine .guarded fun _ => ?_
  split
  · exact (s.modMeas_accords _).trans (State.raiseWarn_accords _ _ _)
  · exact s.modMeas_accords _
  all_goals exact .refl s

theorem State.limitFalls_accords (s : State) : Accords s s.limitFalls :=
  .guarded fun _ => s.returnAlarm_accords _

theorem State.homeLeftRises_accords (s : State) : Accords s s.homeLeftRises :=
  .guarded fun _ => s.modMeas_accords _

theorem State.homeRightRises_accords (s : State) : Accords s s.homeRightRises :=
  .guarded fun _ => s.modMeas_accords _

theorem State.feedbackRises_accords (s : State) : Accords s s.feedbackRises :=
  .guarded fun _ => s.contactorRises_accords

theorem State.feedbackFalls_accords (s : State) : Accords s s.feedbackFalls :=
  .guarded fun _ => s.contactorFalls_accords

theorem State.walkCmdRises_accords (s : State) : Accords s s.walkCmdRises :=
  .guarded fun h => by
    simp only [State.walkWorks, Bool.and_eq_true, beq_iff_eq] at h
    obtain ⟨⟨hwalk, -⟩, hrun⟩ := h
    exact State.walkCommanded_accords hwalk hrun

theorem State.walkCmdFalls_accords (s : State) : Accords s s.walkCmdFalls :=
  .guarded fun _ => s.stopWalk_accords

theorem State.walkStopRises_accords (s : State) : Accords s s.walkStopRises :=
  .guarded fun _ => (State.stopWalk_accords _).after

theorem State.walkStopFalls_accords (s : State) : Accords s s.walkStopFalls :=
  .guarded fun _ => (State.clearForced_accords _ _).after

theorem State.settleSupplyOk_accords (s : State) (x : Bool) : Accords s (s.settleSupplyOk x) :=
  .guarded' fun _ => .kept

theorem State.countEdge_accords (s : State) (x : PairId) (y : Phase) (us : Nat) :
    Accords s (s.countEdge x y us) := by
  cases x
  · exact .ite (fun _ => .kept) fun _ => .kept
  · exact .ite (fun _ => .kept) fun _ => .kept

theorem State.skipEdge_accords (s : State) (x : PairId) : Accords s (s.skipEdge x) :=
  .ite (fun _ => .kept) fun _ => .kept

end Sys2Proof.Machine
end

section
/-!
PROOFS. The window expiry, the end of LISTEN, the load and the resets; every other command `Accords`; O56.
-/

set_option Elab.async false

namespace Sys2Proof.Machine

/-! ### The window expiry (R64) -/

/-- The proposal has become ACTIVE and its owner is told (R64). -/
def State.committed (s : State) (k : ProposalKind) : State :=
  (s.modOwn fun r => { r with status := .active, windowTimer := none }).tellCommit k

/-- The window expiry leaves all as it is, cancels, or makes the proposal ACTIVE. -/
theorem State.expireWindow_cases (s : State) :
    s.expireWindow = s
      ∨ s.consent.own.status = .pending ∧ ∃ k, s.consent.own.kind = some k
        ∧ ((∃ x, s.windowTests k = some x ∧ s.expireWindow = s.cancelProposal x)
          ∨ s.windowTests k = none ∧ s.expireWindow = s.committed k) := by
  unfold State.expireWindow
  dsimp only
  split
  · next h =>
    split
    · exact .inl rfl
    · next k hk =>
      refine .inr ⟨h.1, k, hk, ?_⟩
      cases hx : s.windowTests k with
      | some x => exact .inl ⟨x, rfl, rfl⟩
      | none => exact .inr ⟨rfl, rfl⟩
  · exact .inl rfl

@[simp] theorem State.committed_keeps (s : State) (k : ProposalKind) :
    (s.committed k).ctl = s.ctl ∧ (s.committed k).out = s.out
      ∧ (s.committed k).consent = { s.consent with own := { s.consent.own with
          status := .active, windowTimer := none } } := by
  unfold State.committed State.tellCommit
  (repeat' split) <;> exact ⟨rfl, rfl, rfl⟩

/-- A swing release that is PROPOSING becomes FREE. -/
theorem State.committed_swing {s : State} (h : s.role.swing = .proposing) :
    (s.committed .swingRelease).role.swing = .free
      ∧ (s.committed .swingRelease).walk = s.walk := by
  unfold State.committed State.tellCommit
  simp [h]

/-- From `s` to `t` the invariants of consent engine and swing are kept. -/
structure Upholds (s t : State) : Prop where
  consent : s.ConsentSound → t.ConsentSound
  swing : s.SwingSound → t.SwingSound

theorem Upholds.trans {s t u : State} (h : Upholds s t) (h' : Upholds t u) : Upholds s u :=
  ⟨h'.consent ∘ h.consent, h'.swing ∘ h.swing⟩

theorem Accords.upholds {s t : State} (h : Accords s t) : Upholds s t := ⟨h.consent, h.swing⟩

theorem State.committed_upholds {s : State} {k : ProposalKind} (hp : s.consent.own.status = .pending)
    (hk : s.consent.own.kind = some k) (hrun : s.ctl.mode = .run) : Upholds s (s.committed k) := by
  have hself : (s.committed k).self = s.self := by simp [State.self]
  have hlead : (s.committed k).swingLead = s.swingLead := by
    simp [State.swingLead, State.leads, State.is, State.ownRole]
  refine ⟨fun ⟨haddress, hstands⟩ => ⟨by simpa [hself] using haddress, fun _ => ?_⟩, fun h => ?_⟩
  · simpa using hstands (by rw [hp]; decide)
  · rw [State.swingSound_iff] at h ⊢
    obtain ⟨hl, -⟩ := h
    refine ⟨fun hlead' => ?_, fun hm => ?_⟩
    · obtain ⟨hstatus, hbrake, hwalk, hkind⟩ := hl (hlead ▸ hlead')
      have hproposing : s.role.swing = .proposing := by
        rw [hp] at hstatus
        revert hstatus
        cases s.role.swing <;> simp [SwingState.status]
      have hrelease : k = .swingRelease := by
        simpa [hk] using hkind (by rw [hproposing]; decide)
      subst hrelease
      obtain ⟨hfree, hkeep⟩ := State.committed_swing hproposing
      exact ⟨by simp [hfree, SwingState.status], fun _ => .inl hfree, by rw [hkeep, hwalk], fun _ => by simp [hk]⟩
    · simp [hrun] at hm

theorem State.expireWindow_upholds (s : State) : Upholds s s.expireWindow := by
  rcases s.expireWindow_cases with h | ⟨hp, k, hk, ⟨x, -, h⟩ | ⟨hpass, h⟩⟩
  · rw [h]
    exact (Accords.refl s).upholds
  · rw [h]
    exact (State.cancelProposal_accords hp x).upholds
  · rw [h]
    exact State.committed_upholds hp hk (State.windowTests_eq_none hpass)

/-! ### The end of LISTEN and the load -/

theorem State.leaveListen_accords (s : State) : Accords s.listenDone s.leaveListen :=
  ((s.listenDone.firstWriteBlock_accords).trans (State.startReportTimer_accords _)).trans
    (State.ownReport_accords _)

/-- A station that leaves LISTEN has an address. -/
theorem State.endListen_upholds (s : State) : Upholds s s.endListen := by
  unfold State.endListen
  split
  · next hdue =>
    have hlisten : s.ctl.mode = .listen := by simp_all [State.listenDue]
    have hdone : Upholds s s.listenDone := by
      refine ⟨fun ⟨haddress, hstands⟩ => ⟨fun hself => ?_, hstands⟩, fun h => ⟨h.1, fun hm => ?_⟩⟩
      · exact absurd (haddress hself) (by simp [hlisten])
      · simp [State.listenDone, State.putCause] at hm
    exact hdone.trans s.leaveListen_accords.upholds
  · exact (Accords.refl s).upholds

theorem State.homeAtLoad_accords (s : State) : Accords s s.homeAtLoad := by
  unfold State.homeAtLoad
  split
  · exact .guarded fun _ => s.modMeas_accords _
  · exact .guarded fun _ => s.modMeas_accords _
  · exact .guarded fun _ => s.modMeas_accords _
  · exact (Accords.guarded fun _ => s.modMeas_accords _).trans (.guarded fun _ => State.modMeas_accords _ _)
  · exact .refl _

theorem State.dutiesAtLoad_accords (s : State) : Accords s s.dutiesAtLoad := by
  unfold State.dutiesAtLoad
  split
  · exact .guarded fun _ => s.raiseWarn_accords _ _
  · exact .guarded fun _ => .kept
  all_goals exact .refl _

/-- The load takes a station with an address out of LOADING, where its swing is LOCKED, whatever its place. -/
theorem State.admitted_upholds {s : State} {n : Station} (hm : s.ctl.mode = .loading) (hs : s.self = some n)
    (b : List Byte) : Upholds s (s.admitted b n) := by
  refine ⟨fun ⟨_, hstands⟩ => ⟨fun hself => ?_, hstands⟩, fun h => ?_⟩
  · exact absurd (hs.symm.trans hself) nofun
  · rw [State.swingSound_iff] at h ⊢
    obtain ⟨-, hload⟩ := h
    exact ⟨fun _ => (hload hm).1, nofun⟩

theorem State.admitted_accords (s : State) (b : List Byte) (n : Station) :
    Accords (s.admitted b n) (s.goodLoad b n) :=
  ((State.modMeas_accords _ _).trans (State.homeAtLoad_accords _)).trans (State.dutiesAtLoad_accords _)

theorem State.goodLoad_upholds {s : State} {n : Station} (hm : s.ctl.mode = .loading) (hs : s.self = some n)
    (b : List Byte) : Upholds s (s.goodLoad b n) :=
  (State.admitted_upholds hm hs b).trans (s.admitted_accords b n).upholds

theorem State.loadBlock_upholds (s : State) (memory : List Byte) : Upholds s (s.loadBlock memory) := by
  rcases s.loadBlock_cases memory with h | ⟨hm, n, r, hs, -, h⟩
  · rw [h]
    exact (Accords.refl s).upholds
  · rw [h]
    split
    · exact State.goodLoad_upholds hm hs _
    · exact (s.raiseStop_accords _ _).upholds

theorem State.expireKeep_accords (s : State) (i : Nat) : Accords s (s.expireKeep i) :=
  .guarded fun _ => .kept

/-! ### The commands -/

/-- What an input that has settled does, its settling included. -/
theorem Accords.settled {s t : State} {f : Pins → Pins} {g : Measurement → Measurement}
    (h : Accords ((s.modPins f).modMeas g) t) : Accords s t := h.after

/-- Every command but a reset, a load, the end of LISTEN and the window expiry. -/
theorem exec_accords (c : Instr) (s : State) (hreset : c.isReset = false)
    (hload : ∀ m, c ≠ .parameterBlockLoaded m) (hlisten : c ≠ .listenExpiry) (hwindow : c ≠ .windowExpiry) :
    Completes c s (Accords s) := by
  cases c with
  | powerOnReset x => exact absurd hreset (by simp [Instr.isReset])
  | localReset x => exact absurd hreset (by simp [Instr.isReset])
  | parameterBlockLoaded m => exact absurd rfl (hload m)
  | listenExpiry => exact absurd rfl hlisten
  | reportTimerExpiry => exact ⟨_, rfl, .guarded fun _ => s.reportEvent_accords⟩
  | unconfiguredReportExpiry => exact ⟨_, rfl, .guarded fun _ => s.reportEvent_accords⟩
  | regulationIntervalExpiry raw => exact ⟨_, rfl, s.regulationExpiry_accords raw⟩
  | neutralTimeElapsed => exact ⟨_, rfl, s.tryRun_accords⟩
  | runPermitRise => exact ⟨_, rfl, .settled (s.settleRunPermit true).permitRises_accords⟩
  | runPermitFall => exact ⟨_, rfl, .settled (s.settleRunPermit false).permitFalls_accords⟩
  | ackRise => exact ⟨_, rfl, .settled (s.settleAck true).ackRises_accords⟩
  | limitRise => exact ⟨_, rfl, .settled (s.settleLimit true).limitRises_accords⟩
  | limitFall => exact ⟨_, rfl, .settled (s.settleLimit false).limitFalls_accords⟩
  | homeLRise => exact ⟨_, rfl, .settled (s.settleHomeL true).homeLeftRises_accords⟩
  | homeRRise => exact ⟨_, rfl, .settled (s.settleHomeR true).homeRightRises_accords⟩
  | contactorFbRise => exact ⟨_, rfl, .settled (s.settleContactorFb true).feedbackRises_accords⟩
  | contactorFbFall =>
    exact ⟨_, rfl, .settled (s.settleContactorFb false).feedbackFalls_accords⟩
  | walkCmdRise => exact ⟨_, rfl, .settled (s.settleWalkCmd true).walkCmdRises_accords⟩
  | walkCmdFall => exact ⟨_, rfl, .settled (s.settleWalkCmd false).walkCmdFalls_accords⟩
  | walkStopRise => exact ⟨_, rfl, .settled (s.settleWalkStop true).walkStopRises_accords⟩
  | walkStopFall => exact ⟨_, rfl, .settled (s.settleWalkStop false).walkStopFalls_accords⟩
  | walkStopHoldExpiry => exact ⟨_, rfl, s.expireStopHold_accords⟩
  | supplyOkFall =>
    exact ⟨_, rfl, (s.settleSupplyOk_accords false).trans (State.raiseStop_accords _ _ _)⟩
  | supplyOkRise =>
    exact ⟨_, rfl, (s.settleSupplyOk_accords true).trans (State.returnAlarm_accords _ _)⟩
  | countEdge x y us => exact ⟨_, rfl, s.countEdge_accords x y us⟩
  | quadSkip x => exact ⟨_, rfl, s.skipEdge_accords x⟩
  | transmissionStart => exact ⟨_, rfl, s.startTransmission_accords⟩
  | contestLost => exact ⟨_, rfl, s.loseContest_accords⟩
  | transmitFailure => exact ⟨_, rfl, s.failTransmission_accords⟩
  | completionEvent => exact ⟨_, rfl, s.completeTransmission_accords⟩
  | quietOutExpiry => exact ⟨_, rfl, s.endQuietOut_accords⟩
  | frameLengthAbandoned n => exact ⟨_, rfl, .guarded fun _ => s.countMalformed_accords⟩
  | frameBad f x y =>
    exact ⟨_, rfl, .guarded fun _ => (s.modLink_accords _).trans (State.modLink_accords _ _)⟩
  | frameOwnAddress f =>
    exact ⟨_, rfl, .guarded fun _ => (s.clash_accords _).trans (State.modLink_accords _ _)⟩
  | addressClashReturnExpiry => exact ⟨_, rfl, s.expireClash_accords⟩
  | frameMalformed f => exact ⟨_, rfl, s.receive_accords _ (.refl s)⟩
  | stateReport h l => exact ⟨_, rfl, s.receive_accords _ (s.handReport_accords _)⟩
  | propose h l => exact ⟨_, rfl, s.receive_accords _ (s.handPropose_accords _)⟩
  | object h l => exact ⟨_, rfl, s.receive_accords _ (s.handObject_accords _)⟩
  | sendLimitExpiry => exact ⟨_, rfl, s.expireSendLimit_accords⟩
  | windowExpiry => exact absurd rfl hwindow
  | alarmNotice h l => exact ⟨_, rfl, s.receive_accords _ (s.handNotice_accords _)⟩
  | keepNotice h l => exact ⟨_, rfl, s.receive_accords _ (s.handKeep_accords _)⟩
  | serviceReply h l => exact ⟨_, rfl, s.receive_accords _ (.refl s)⟩
  | readStatus h l => exact ⟨_, rfl, s.request_accords _ _ _ _ Accords.refl⟩
  | readPeer h l => exact ⟨_, rfl, s.request_accords _ _ _ _ Accords.refl⟩
  | readCounters h l => exact ⟨_, rfl, s.request_accords _ _ _ _ Accords.refl⟩
  | readAlarms h l => exact ⟨_, rfl, s.request_accords _ _ _ _ Accords.refl⟩
  | ackAlarms h l => exact ⟨_, rfl, s.request_accords _ _ _ _ (workAck_accords l)⟩
  | readCaptureHeader h l => exact ⟨_, rfl, s.request_accords _ _ _ _ Accords.refl⟩
  | readCaptureSamples h l => exact ⟨_, rfl, s.request_accords _ _ _ _ Accords.refl⟩
  | releaseCapture h l => exact ⟨_, rfl, s.request_accords _ _ _ _ (workRelease_accords l)⟩
  | forceDerate h l => exact ⟨_, rfl, s.request_accords _ _ _ _ (workForce_accords l)⟩
  | serviceRequestUnknownCode h x l =>
    refine ⟨_, rfl, ?_⟩
    split
    · exact .refl s
    · exact s.request_accords _ _ _ _ Accords.refl
  | entryGoesStale n =>
    exact ⟨_, rfl, .guarded fun _ => s.goStale_accords n⟩
  | entryGoesAbsent n =>
    exact ⟨_, rfl, .guarded fun _ => s.goAbsent_accords n⟩
  | tachExcessExpiry => exact ⟨_, rfl, s.expireTachExcess_accords⟩
  | tachRecoveryExpiry => exact ⟨_, rfl, s.expireTachRecovery_accords⟩
  | brakeSetTimeExpiry => exact ⟨_, rfl, s.expireBrakeSet_accords⟩
  | brakeDisagreeExpiry => exact ⟨_, rfl, s.expireDisagree_accords⟩
  | brakeAgreeExpiry => exact ⟨_, rfl, s.expireAgree_accords⟩
  | fieldLossTimeExpiry => exact ⟨_, rfl, s.expireLoss_accords⟩
  | fieldLossClearExpiry => exact ⟨_, rfl, s.expireLossClear_accords⟩
  | overcurrentClearExpiry x => exact ⟨_, rfl, s.expireClear_accords x⟩
  | boomOverloadTimeExpiry => exact ⟨_, rfl, s.expireOverload_accords⟩
  | swingRestExpiry => exact ⟨_, rfl, s.expireRest_accords⟩
  | deratePersistenceExpiry => exact ⟨_, rfl, s.expireDerate_accords⟩
  | supplyLimitExpiry => exact ⟨_, rfl, s.expireSupplyLimit_accords⟩
  | transferLimitExpiry => exact ⟨_, rfl, s.expireTransfer_accords⟩
  | returnLimitExpiry => exact ⟨_, rfl, s.expireReturn_accords⟩
  | closedFeedbackLimitExpiry => exact ⟨_, rfl, s.expireClosed_accords⟩
  | endTimeExpiry => exact ⟨_, rfl, s.expireEnd_accords⟩
  | postEnd => exact ⟨_, rfl, .guarded fun _ => s.endPost_accords⟩
  | decisionEntryDue => exact ⟨_, rfl, .guarded fun _ => s.decideDue_accords⟩
  | keepDeadlineExpiry i => exact ⟨_, rfl, s.expireKeep_accords i⟩
  | brakeFbEdge level => exact ⟨_, rfl, .settled (.refl (s.settleBrakeFb level))⟩

/-- A strap read over the reset values of consent engine, swing, brake and walk leaves both sound. -/
theorem State.readStraps_recordsSound {s : State} (hm : s.ctl.mode = .loading) (hc : s.consent = ConsentEngine.reset)
    (hr : s.role = RoleLogic.reset) (ho : s.out = Outputs.reset) (hw : s.walk = WalkSequencer.reset) (x : Straps) :
    (s.readStraps x).ConsentSound ∧ (s.readStraps x).SwingSound := by
  have hpaired : (s.strapped x).Paired := by
    unfold State.Paired State.strapped
    simp only [State.modCtl_consent, State.modCtl_role, State.modCtl_out, State.modCtl_walk, hc, hr, ho, hw]
    exact ⟨rfl, nofun, rfl, absurd rfl⟩
  have hsound : (s.strapped x).ConsentSound ∧ (s.strapped x).SwingSound :=
    ⟨⟨fun _ => .inl hm, fun h => absurd (congrArg (fun e => e.own.status) hc) h⟩,
      (s.strapped x).swingSound_iff.2 ⟨fun _ => hpaired, fun _ => ⟨hpaired, congrArg RoleLogic.swing hr⟩⟩⟩
  have hread : Accords (s.strapped x) (s.readStraps x) := .ite (fun _ => .refl _) fun _ => State.enterStop_accords _
  exact ⟨hread.consent hsound.1, hread.swing hsound.2⟩

/-- Every command keeps both parts of O56. -/
theorem exec_upholds (c : Instr) (s : State) : Completes c s (Upholds s) := by
  cases hreset : c.isReset with
  | true =>
    cases c with
    | powerOnReset x =>
      obtain ⟨hconsent, hswing⟩ := State.readStraps_recordsSound (s := s.afterPowerOn) rfl rfl rfl rfl rfl x
      exact ⟨_, rfl, fun _ => hconsent, fun _ => hswing⟩
    | localReset x =>
      obtain ⟨hconsent, hswing⟩ := State.readStraps_recordsSound (s := s.afterLocalReset) rfl rfl rfl rfl rfl x
      exact ⟨_, rfl, fun _ => hconsent, fun _ => hswing⟩
    | _ => exact absurd hreset nofun
  | false =>
    by_cases hload : ∃ m, c = .parameterBlockLoaded m
    · obtain ⟨m, rfl⟩ := hload
      exact ⟨_, rfl, s.loadBlock_upholds m⟩
    · by_cases hlisten : c = .listenExpiry
      · subst hlisten
        exact ⟨_, rfl, s.endListen_upholds⟩
      · by_cases hwindow : c = .windowExpiry
        · subst hwindow
          exact ⟨_, rfl, s.expireWindow_upholds⟩
        · obtain ⟨t, ht, haccords⟩ :=
            exec_accords c s hreset (fun m hm => hload ⟨m, hm⟩) hlisten hwindow
          exact ⟨t, ht, haccords.upholds⟩

/-- Settles O56: every command but a reset, the load, the end of LISTEN and the window expiry `Accords`, those keep
both invariants as well, and a tick touches nothing that they speak of. -/
theorem consentKept : Obligations.ConsentKept := by
  unfold Obligations.ConsentKept
  intro s t hstep
  unfold step at hstep
  split at hstep
  · obtain rfl : s.tick = t := by simpa using hstep
    exact ⟨id, id⟩
  · next c rest _ =>
    obtain ⟨t', ht', hkeep⟩ := exec_upholds c { s with pending := rest }
    obtain rfl : t' = t := by simpa [ht'] using hstep
    exact ⟨hkeep.consent, hkeep.swing⟩

end Sys2Proof.Machine
end

section
/-!
PROOFS. A PROPOSE or OBJECT that reaches the consent engine, and the raise of a WARN code in its event; O33, O34.
-/

set_option Elab.async false

namespace Sys2Proof.Machine

/-! ### The frame reaches the consent engine (R26 to R29) -/

/-- A broadcast frame of another station does not offend. -/
theorem State.broadcast_offends {s : State} {n : Station} (h : s.hears n) (cls : BitVec 3) (kind : BitVec 4)
    (l : List Byte) : s.offends (headerFrame (broadcast cls n) kind l) = false :=
  (State.report_fits h.2 0 0 PeerEntry.reset.fields).1

theorem exec_propose {s : State} {p : Station} (h : s.hears p) (a b : Byte) :
    exec (.propose (broadcast 3 p) [a, b]) s =
      .next (s.handPropose (headerFrame (broadcast 3 p) 2 [a, b])).freeBuffer := by
  have hfits : frameFits (headerFrame (broadcast 3 p) 2 [a, b]) = true := by
    simp [frameFits, headerFrame, broadcast, isStationAddress_stationAddress]
  exact congrArg _ (State.receive_of_fit h.1 (State.broadcast_offends h _ _ _) hfits _)

theorem exec_object {s : State} {n : Station} (h : s.hears n) (a b c : Byte) :
    exec (.object (broadcast 1 n) [a, b, c]) s =
      .next (s.handObject (headerFrame (broadcast 1 n) 3 [a, b, c])).freeBuffer := by
  have hfits : frameFits (headerFrame (broadcast 1 n) 3 [a, b, c]) = true := by
    simp [frameFits, headerFrame, broadcast, isStationAddress_stationAddress]
  exact congrArg _ (State.receive_of_fit h.1 (State.broadcast_offends h _ _ _) hfits _)

theorem ProposalKind.ofCode_byteOf (k : ProposalKind) : ProposalKind.ofCode (byteOf k.code).toNat = some k := by
  cases k <;> rfl

theorem ProposalKind.ofCode_eq_none {n : Nat} (h : n < 1 ∨ 2 < n) : ProposalKind.ofCode n = none := by
  unfold ProposalKind.ofCode
  rw [if_neg (by omega), if_neg (by omega)]

theorem Reason.ofCode_byteOf (r : Reason) : Reason.ofCode (byteOf r.code).toNat = some r := by
  cases r <;> rfl

theorem Reason.ofCode_eq_none {n : Nat} (h : n < 1 ∨ 8 < n) : Reason.ofCode n = none := by
  unfold Reason.ofCode
  repeat rw [if_neg (by omega)]

theorem stationOf_byteOf (n : Station) : stationOf (byteOf (stationNumber n)).toNat = some n := by
  revert n
  decide

theorem stationOf_eq_none {n : Nat} (h : n < 1 ∨ 8 < n) : stationOf n = none := dif_neg (by omega)

/-- A PROPOSE with a number and a kind is taken. -/
theorem exec_propose_taken {s : State} {p : Station} (h : s.hears p) {m : Byte} (hm : m ≠ 0) (k : ProposalKind) :
    exec (.propose (broadcast 3 p) [m, byteOf k.code]) s = .next (s.takePropose p m k).freeBuffer := by
  have hhand : s.handPropose (headerFrame (broadcast 3 p) 2 [m, byteOf k.code]) = s.takePropose p m k := by
    simp [State.handPropose, headerFrame, broadcast, byteAt, stationOf_stationAddress, ProposalKind.ofCode_byteOf]
    exact fun h => absurd h hm
  rw [exec_propose h, hhand]

theorem exec_propose_unusable {s : State} {p : Station} (h : s.hears p) {m k : Byte}
    (hbad : m = 0 ∨ k.toNat < 1 ∨ 2 < k.toNat) : exec (.propose (broadcast 3 p) [m, k]) s = .next s.malformed := by
  have hhand : s.handPropose (headerFrame (broadcast 3 p) 2 [m, k]) = s.countMalformed := by
    simp only [State.handPropose, headerFrame, broadcast, byteAt, stationOf_stationAddress, List.getD_cons_zero,
      List.getD_cons_succ]
    rcases hbad with rfl | hk
    · split <;> rfl
    · rw [ProposalKind.ofCode_eq_none hk]
  rw [exec_propose h, hhand]
  rfl

/-- An OBJECT with proposer, number and reason is taken. -/
theorem exec_object_taken {s : State} {n : Station} (h : s.hears n) (p : Station) {m : Byte} (hm : m ≠ 0)
    (r : Reason) : exec (.object (broadcast 1 n) [byteOf (stationNumber p), m, byteOf r.code]) s =
      .next (s.takeObject n p m r).freeBuffer := by
  have hhand : s.handObject (headerFrame (broadcast 1 n) 3 [byteOf (stationNumber p), m, byteOf r.code]) =
      s.takeObject n p m r := by
    simp [State.handObject, headerFrame, broadcast, byteAt, stationOf_stationAddress, Reason.ofCode_byteOf,
      stationOf_byteOf]
    exact fun h => absurd h hm
  rw [exec_object h, hhand]

theorem exec_object_unusable {s : State} {n : Station} (h : s.hears n) {a m r : Byte}
    (hbad : a.toNat < 1 ∨ 8 < a.toNat ∨ m = 0 ∨ r.toNat < 1 ∨ 8 < r.toNat) :
    exec (.object (broadcast 1 n) [a, m, r]) s = .next s.malformed := by
  have hhand : s.handObject (headerFrame (broadcast 1 n) 3 [a, m, r]) = s.countMalformed := by
    simp only [State.handObject, headerFrame, broadcast, byteAt, stationOf_stationAddress, List.getD_cons_zero,
      List.getD_cons_succ]
    rcases hbad with ha | ha | rfl | hr | hr
    · rw [stationOf_eq_none (.inl ha)]
    · rw [stationOf_eq_none (.inr ha)]
    · split <;> rfl
    · rw [Reason.ofCode_eq_none (.inl hr)]
      cases stationOf a.toNat <;> rfl
    · rw [Reason.ofCode_eq_none (.inr hr)]
      cases stationOf a.toNat <;> rfl
  rw [exec_object h, hhand]
  rfl

/-! ### The raise of a WARN code (R148) -/

/-- A WARN code raised behind what leaves station control and alarm unit is raised with the entry that was next. -/
theorem Raised.of_warn {s u : State} {c : AlarmCode} (h : s.raises c) (v : Int)
    (hctl : u.ctl = s.ctl := by simp) (ha : u.alarm = s.alarm := by simp) (hnow : u.now = s.now := by simp) :
    Raised s (u.raiseWarn c v) c v := by
  obtain ⟨huse, hmask⟩ := h
  have heffective : (u.masked c || !u.alarmInUse) = false := by
    have hmask' : u.masked c = false := by
      simpa only [State.masked, State.configured, State.prm, hctl] using hmask
    have huse' : u.alarmInUse = true := by
      simpa only [State.alarmInUse, State.strapFault, hctl] using huse
    simp [hmask', huse']
  have hlatched : u.raiseWarn c v = (u.latch c v).armAndNotice c v u.ctl.mode := if_neg (by simp [heffective])
  rw [hlatched]
  exact Raised.of_latch ha hnow (by rw [hctl])
    (Alerts.armAndNotice (codes := []) (causes := [])) (by decide) (List.not_mem_nil)

/-- What leaves the alarm unit may follow. -/
theorem Raised.kept {s t u : State} {c : AlarmCode} {v : Int} (h : Raised s t c v)
    (ha : u.alarm = t.alarm := by simp) : Raised s u c v := by
  obtain ⟨hann, hentry⟩ := h
  exact ⟨(State.ann_congr (congrArg AlarmUnit.table ha) c).trans hann, ha ▸ hentry⟩

/-! ### A usable OBJECT (R61 to R63) -/

section

variable {s : State} {n me : Station} {m : Byte} {r : Reason}

theorem State.takeObject_of_current (hme : s.self = some me) (hstands : s.consent.own.status ≠ .idle) :
    s.takeObject n me s.consent.own.number r = s.takeCurrentObject (n, r) := by
  unfold State.takeObject
  rw [if_neg (not_not.mpr hme), if_pos ⟨hstands, rfl⟩]

theorem State.takeObject_of_late (hme : s.self = some me)
    (hlate : s.consent.own.status = .idle ∨ m ≠ s.consent.own.number) :
    s.takeObject n me m r = s.modConsent fun c => { c with lateObject := satInc c.lateObject } := by
  unfold State.takeObject
  rw [if_neg (not_not.mpr hme), if_neg fun ⟨hstands, hnumber⟩ => hlate.elim hstands fun h => h hnumber]

theorem State.takeObject_of_other {p : Station} (hp : s.self ≠ some p) : s.takeObject n p m r = s := if_pos hp

theorem State.takeCurrentObject_of_pending (h : s.consent.own.status = .pending) (x : Station × Reason) :
    s.takeCurrentObject x =
      s.modOwn fun r => { r with objected := if r.objected.isSome then r.objected else some x } := by
  unfold State.takeCurrentObject
  rw [h]

theorem State.takeCurrentObject_of_swing (h : s.consent.own.status = .active)
    (hk : s.consent.own.kind = some .swingRelease) (x : Station × Reason) :
    s.takeCurrentObject x = (s.modOwn fun r => { r with status := .withdrawing }).withdrawSwing x := by
  unfold State.takeCurrentObject
  rw [h, hk]

theorem State.takeCurrentObject_of_walk (h : s.consent.own.status = .active)
    (hk : s.consent.own.kind = some .walkStart) (x : Station × Reason) :
    s.takeCurrentObject x = s.abortWalk (objectionValue x) := by
  unfold State.takeCurrentObject
  rw [h, hk]

end

/-- Settles O33: the OBJECT is the current one, and the own status is PENDING. -/
theorem objectionMarks : Obligations.ObjectionMarks := by
  unfold Obligations.ObjectionMarks
  intro s src me r hhears hme hpending hnumber
  refine ⟨_, exec_object_taken hhears me hnumber r, ?_⟩
  rw [State.takeObject_of_current hme (by rw [hpending]; decide), State.takeCurrentObject_of_pending hpending]
  rfl

/-- A free swing enters WITHDRAWING with the objector and its reason, its brake as it was (R116). -/
theorem State.withdrawSwing_of_free {s : State} (h : s.role.swing = .free) (x : Station × Reason) :
    (s.withdrawSwing x).role.swing = .withdrawing ∧ (s.withdrawSwing x).role.withdrawnBy = some x
      ∧ (s.withdrawSwing x).out.brakeSet = s.out.brakeSet := by
  unfold State.withdrawSwing State.dropSectorMarks
  rw [if_pos h]
  split <;> simp

/-- A walk in STEPPING is stopped, and WALK_ABORTED raised (R134). -/
theorem State.abortWalk_of_stepping {s : State} (h : s.walk.state = .stepping) (v : Int) :
    (s.abortWalk v).walk.state = .stopping ∧ (s.abortWalk v).consent = s.consent
      ∧ (s.raises .walkAborted → Raised s (s.abortWalk v) .walkAborted v) := by
  have hstop : s.stopWalk = s.enterStopping (if s.walk.bearing then .ramp else .creep) := by
    unfold State.stopWalk
    rw [h]
  have habort : s.abortWalk v =
      (s.enterStopping (if s.walk.bearing then .ramp else .creep)).raiseWarn .walkAborted v := by
    rw [← hstop]
    exact if_pos (by rw [h]; rfl)
  rw [habort]
  refine ⟨?_, by simp, fun hraises => .of_warn hraises v⟩
  simp [State.enterStopping, State.enterWalk]

/-- Settles O34: the OBJECT is current for a free swing or a stepping walk, late, another station's, or unusable. -/
theorem objectWithdraws : Obligations.ObjectWithdraws := by
  unfold Obligations.ObjectWithdraws
  refine ⟨fun s src me r hhears hme _ hactive hkind hnumber hfree => ?_,
    fun s src me r hhears hme _ hactive hkind hnumber hstepping => ?_,
    fun s src me m r hhears hme hm hlate => ?_, fun s src p m r hhears hp hm => ?_,
    fun s src a m r hhears hbad => exec_object_unusable hhears hbad⟩
  · refine ⟨_, exec_object_taken hhears me hnumber r, ?_⟩
    rw [State.takeObject_of_current hme (by rw [hactive]; decide), State.takeCurrentObject_of_swing hactive hkind]
    obtain ⟨hswing, hby, hbrake⟩ := State.withdrawSwing_of_free
      (s := s.modOwn fun r => { r with status := .withdrawing }) hfree (src, r)
    exact ⟨hswing, hby, by simp [State.freeBuffer], hbrake, by simp [State.freeBuffer]⟩
  · refine ⟨_, exec_object_taken hhears me hnumber r, ?_⟩
    rw [State.takeObject_of_current hme (by rw [hactive]; decide), State.takeCurrentObject_of_walk hactive hkind]
    obtain ⟨hstate, hconsent, hraised⟩ := State.abortWalk_of_stepping hstepping (objectionValue (src, r))
    exact ⟨hstate, hconsent, fun h => (hraised h).kept⟩
  · refine ⟨_, exec_object_taken hhears me hm r, ?_⟩
    rw [State.takeObject_of_late hme hlate]
    rfl
  · rw [exec_object_taken hhears p hm r, State.takeObject_of_other hp]
    rfl

end Sys2Proof.Machine
end

section
/-!
PROOFS. The window expiry judged by its tests, and no other way to ACTIVE; O36.
-/

set_option Elab.async false

namespace Sys2Proof.Machine

/-! ### A cancel told to its owner (R65) -/

/-- From `s` to `t` the own proposal of kind `k` is cancelled, with value `v` in CONSENT_REFUSED. -/
def State.Refused (s t : State) (k : ProposalKind) (v : Int) : Prop :=
  t.consent.own = { s.consent.own with status := .idle, sendLimit := none, windowTimer := none }
    ∧ (s.raises .consentRefused → Raised s t .consentRefused v)
    ∧ (k = .swingRelease → s.role.swing = .proposing → t.role.swing = .locked)
    ∧ (k = .walkStart → s.walk.state = .proposing → t.walk.state = .idle)

/-- A cancelled WALK_START leaves a proposing walk IDLE (R126). -/
theorem State.cancelled_walk {s : State} (h : s.consent.own.kind = some .walkStart)
    (hw : s.walk.state = .proposing) : s.cancelled.walk.state = .idle := by
  rw [State.cancelled_of_kind h]
  simp [State.tellCancel, hw, State.enterWalk]

theorem State.cancelProposal_refused {s : State} {k : ProposalKind} (h : s.consent.own.kind = some k)
    (x : CancelOutcome) : s.Refused (s.cancelProposal x) k x.value := by
  rw [State.cancelProposal_eq]
  refine ⟨by simp [OwnRecord.cancelled], fun hraises => .of_warn hraises _, ?_, ?_⟩
  · rintro rfl hswing
    simp [State.cancelled_swing h, hswing]
  · rintro rfl hwalk
    simp [State.cancelled_walk h hwalk]

/-! ### The tests of Table 4-6 -/

theorem State.rosterOthers_ascending (s : State) : s.rosterOthers.Pairwise (· < ·) :=
  ((by decide : allStations.Pairwise (· < ·)).filter _).filter _

/-- The first of an ascending list to meet a test is the lowest that does. -/
theorem find?_of_lowest {l : List Station} {p : Station → Bool} {x : Station} (hl : l.Pairwise (· < ·))
    (hx : x ∈ l) (hp : p x = true) (hlow : ∀ y ∈ l, y < x → p y = false) : l.find? p = some x := by
  obtain ⟨a, b, rfl⟩ := List.append_of_mem hx
  rw [List.pairwise_append] at hl
  obtain ⟨-, -, hbelow⟩ := hl
  refine List.find?_eq_some_iff_append.mpr ⟨hp, a, b, rfl, fun y hy => ?_⟩
  simp [hlow y (by simp [hy]) (hbelow y hy x (by simp))]

section

variable {s : State} {k : ProposalKind} {x : Station}

theorem State.windowTests_of_objected {r : Reason} (h : s.consent.own.objected = some (x, r)) :
    s.windowTests k = some (.objected x r) := by
  unfold State.windowTests
  rw [h]

theorem State.windowTests_of_absent (h : s.consent.own.objected = none) (hx : x ∈ s.rosterOthers)
    (hstale : (s.entry x).status ≠ .fresh)
    (hlow : ∀ y ∈ s.rosterOthers, y < x → (s.entry y).status = .fresh) :
    s.windowTests k = some (.absent x) := by
  have hfind : (s.rosterOthers.find? fun st => (s.entry st).status != .fresh) = some x :=
    find?_of_lowest s.rosterOthers_ascending hx (by simpa using hstale) fun y hy hyx => by
      simpa using hlow y hy hyx
  unfold State.windowTests
  rw [h, hfind]

theorem State.windowTests_of_noEcho (h : s.consent.own.objected = none)
    (hfresh : ∀ y ∈ s.rosterOthers, (s.entry y).status = .fresh) (hx : x ∈ s.rosterOthers)
    (hunseen : s.consent.own.echoSeen[x] = false)
    (hlow : ∀ y ∈ s.rosterOthers, y < x → s.consent.own.echoSeen[y] = true) :
    s.windowTests k = some (.noEcho x) := by
  have hnone : (s.rosterOthers.find? fun st => (s.entry st).status != .fresh) = none :=
    List.find?_eq_none.mpr fun y hy => by simp [hfresh y hy]
  have hfind : (s.rosterOthers.find? fun st => !s.consent.own.echoSeen[st]) = some x :=
    find?_of_lowest s.rosterOthers_ascending hx (by simp [hunseen]) fun y hy hyx => by
      simp [hlow y hy hyx]
  unfold State.windowTests
  rw [h, hnone, hfind]

/-- With the first three tests passed, the own preconditions decide. -/
theorem State.windowTests_of_heard (h : s.consent.own.objected = none)
    (hall : ∀ y ∈ s.rosterOthers, (s.entry y).status = .fresh ∧ s.consent.own.echoSeen[y] = true) :
    s.windowTests k = if s.preconditions k then none else some .operator := by
  have hfresh : (s.rosterOthers.find? fun st => (s.entry st).status != .fresh) = none :=
    List.find?_eq_none.mpr fun y hy => by simp [(hall y hy).1]
  have hecho : (s.rosterOthers.find? fun st => !s.consent.own.echoSeen[st]) = none :=
    List.find?_eq_none.mpr fun y hy => by simp [(hall y hy).2]
  unfold State.windowTests
  rw [h, hfresh, hecho]

/-- A proposal that passes has met no objection and been echoed by every FRESH roster station. -/
theorem State.heard_of_windowTests (h : s.windowTests k = none) : s.consent.own.objected = none
    ∧ ∀ y ∈ s.rosterOthers, (s.entry y).status = .fresh ∧ s.consent.own.echoSeen[y] = true := by
  unfold State.windowTests at h
  split at h
  · exact absurd h nofun
  · next hobjected =>
    split at h
    · exact absurd h nofun
    · next hfresh =>
      split at h
      · exact absurd h nofun
      · next hecho =>
        rw [List.find?_eq_none] at hfresh hecho
        exact ⟨hobjected, fun y hy => ⟨by simpa using hfresh y hy, by simpa using hecho y hy⟩⟩

/-- The own preconditions: RUN, and the brake set for a swing, WALK_CMD high for a walk. -/
theorem State.preconditions_iff : s.preconditions k = true ↔ s.ctl.mode = .run
    ∧ (k = .swingRelease → s.out.brakeSet = true) ∧ (k = .walkStart → s.meas.walkCmd.value = true) := by
  cases k <;> simp [State.preconditions]

/-- The judgement at the end of the objection window (R64). -/
theorem State.expireWindow_of_due {a : Time} (hp : s.consent.own.status = .pending)
    (hk : s.consent.own.kind = some k) (ha : s.consent.own.windowTimer = some a)
    (hdue : s.prm.objectionWindow ≤ s.since a) :
    s.expireWindow = match s.windowTests k with
      | some x => s.cancelProposal x
      | none => s.committed k := by
  unfold State.expireWindow
  dsimp only
  rw [if_pos ⟨hp, State.ran_of_le ha hdue⟩, hk]
  rfl

end

/-- A failed test cancels with its outcome. -/
theorem completes_windowExpiry {s : State} {k : ProposalKind} {a : Time} {x : CancelOutcome}
    (hp : s.consent.own.status = .pending) (hk : s.consent.own.kind = some k)
    (ha : s.consent.own.windowTimer = some a) (hdue : s.prm.objectionWindow ≤ s.since a)
    (hx : s.windowTests k = some x) : Completes .windowExpiry s fun t => s.Refused t k x.value := by
  refine ⟨_, rfl, ?_⟩
  rw [State.expireWindow_of_due hp hk ha hdue, hx]
  exact State.cancelProposal_refused hk x

/-- The owner of a proposal that has become ACTIVE (R114, R126). -/
theorem State.committed_owner (s : State) (k : ProposalKind) :
    (k = .swingRelease → s.role.swing = .proposing → (s.committed k).role.swing = .free)
      ∧ (k = .walkStart → s.walk.state = .proposing →
        (s.committed k).walk.state = .transfer ∧ (s.committed k).walk.supplyLimit = some s.now)
      ∧ s.committed k = { s with
        consent := (s.committed k).consent, role := (s.committed k).role, walk := (s.committed k).walk } := by
  refine ⟨?_, ?_, ?_⟩
  · rintro rfl hswing
    exact (State.committed_swing hswing).1
  · rintro rfl hwalk
    simp [State.committed, State.tellCommit, hwalk, State.enterWalk]
  · unfold State.committed State.tellCommit
    (repeat' split) <;> rfl

/-! ### No other way to ACTIVE -/

theorem State.endListen_active {s : State} (h : s.endListen.consent.own.status = .active) :
    s.consent.own.status = .active := by
  unfold State.endListen at h
  split at h
  · exact s.leaveListen_accords.active h
  · exact h

theorem State.loadBlock_active {s : State} {memory : List Byte}
    (h : (s.loadBlock memory).consent.own.status = .active) : s.consent.own.status = .active := by
  rcases s.loadBlock_cases memory with hload | ⟨-, n, r, -, -, hload⟩
  · rwa [hload] at h
  · rw [hload] at h
    split at h
    · exact (s.admitted_accords _ n).active h
    · exact (s.raiseStop_accords _ _).active h

/-- The window expiry makes a PENDING proposal ACTIVE when its tests are passed (R64). -/
theorem State.expireWindow_active {s : State} (h : s.expireWindow.consent.own.status = .active)
    (hbefore : s.consent.own.status ≠ .active) :
    s.consent.own.status = .pending ∧ s.ran s.consent.own.windowTimer s.prm.objectionWindow = true
      ∧ ∃ k, s.windowTests k = none := by
  by_cases hdue : s.consent.own.status = .pending ∧ s.ran s.consent.own.windowTimer s.prm.objectionWindow = true
  · obtain ⟨hp, hran⟩ := hdue
    refine ⟨hp, hran, ?_⟩
    rcases s.expireWindow_cases with hx | ⟨-, k, -, ⟨x, -, hx⟩ | ⟨hpass, -⟩⟩
    · exact absurd (hx ▸ h) hbefore
    · exact absurd ((State.cancelProposal_accords hp x).active (hx ▸ h)) hbefore
    · exact ⟨k, hpass⟩
  · have hx : s.expireWindow = s := if_neg hdue
    exact absurd (hx ▸ h) hbefore

theorem State.readStraps_inactive {s : State} (h : s.consent.own.status = .idle) (x : Straps) :
    (s.readStraps x).consent.own.status ≠ .active := by
  have hread : Accords (s.strapped x) (s.readStraps x) := .ite (fun _ => .refl _) fun _ => State.enterStop_accords _
  exact fun hactive => absurd (h.symm.trans (hread.active hactive)) (by decide)

/-- Only the window expiry makes a proposal ACTIVE. -/
theorem exec_active {c : Instr} {s t : State} (h : exec c s = .next t) (hc : c ≠ .windowExpiry)
    (hactive : t.consent.own.status = .active) : s.consent.own.status = .active := by
  cases hreset : c.isReset with
  | true =>
    cases c with
    | powerOnReset x =>
      obtain rfl := Host.Outcome.next.inj h
      exact absurd hactive (State.readStraps_inactive (s := s.afterPowerOn) rfl x)
    | localReset x =>
      obtain rfl := Host.Outcome.next.inj h
      exact absurd hactive (State.readStraps_inactive (s := s.afterLocalReset) rfl x)
    | _ => exact absurd hreset nofun
  | false =>
    by_cases hload : ∃ m, c = .parameterBlockLoaded m
    · obtain ⟨m, rfl⟩ := hload
      obtain rfl := Host.Outcome.next.inj h
      exact State.loadBlock_active hactive
    · by_cases hlisten : c = .listenExpiry
      · subst hlisten
        obtain rfl := Host.Outcome.next.inj h
        exact State.endListen_active hactive
      · obtain ⟨t', ht', haccords⟩ := exec_accords c s hreset (fun m hm => hload ⟨m, hm⟩) hlisten hc
        obtain rfl : t' = t := by simpa [ht'] using h
        exact haccords.active hactive

/-- Settles O36: the first test that fails gives the outcome, and every other command `Accords`. -/
theorem windowJudged : Obligations.WindowJudged := by
  unfold Obligations.WindowJudged
  refine ⟨fun s k a x r hp hk ha hdue hobjected => ?_,
    fun s k a x hp hk ha hdue hnone hx hstale hlow => ?_,
    fun s k a x hp hk ha hdue hnone hfresh hx hunseen hlow => ?_,
    fun s k a hp hk ha hdue hnone hall hmissing => ?_,
    fun s k a hp hk ha hdue hnone hall hrun hbrake hcmd => ?_, fun c s t hexec hactive hbefore => ?_⟩
  · obtain ⟨t, ht, hrefused⟩ := completes_windowExpiry hp hk ha hdue (State.windowTests_of_objected hobjected)
    exact ⟨t, ht, hrefused⟩
  · obtain ⟨t, ht, hrefused⟩ := completes_windowExpiry hp hk ha hdue
      (State.windowTests_of_absent hnone hx hstale hlow)
    exact ⟨t, ht, hrefused⟩
  · obtain ⟨t, ht, hrefused⟩ := completes_windowExpiry hp hk ha hdue
      (State.windowTests_of_noEcho hnone hfresh hx hunseen hlow)
    exact ⟨t, ht, hrefused⟩
  · have hoperator : s.windowTests k = some .operator := by
      rw [State.windowTests_of_heard hnone hall, if_neg]
      rw [State.preconditions_iff]
      rintro ⟨hrun, hbrake, hcmd⟩
      rcases hmissing with h | ⟨hk, h⟩ | ⟨hk, h⟩
      · exact h hrun
      · exact Bool.false_ne_true (h.symm.trans (hbrake hk))
      · exact Bool.false_ne_true (h.symm.trans (hcmd hk))
    obtain ⟨t, ht, hrefused⟩ := completes_windowExpiry hp hk ha hdue hoperator
    exact ⟨t, ht, hrefused⟩
  · have hpass : s.windowTests k = none := by
      rw [State.windowTests_of_heard hnone hall, if_pos (State.preconditions_iff.mpr ⟨hrun, hbrake, hcmd⟩)]
    refine ⟨_, rfl, ?_⟩
    rw [State.expireWindow_of_due hp hk ha hdue, hpass]
    exact ⟨(s.committed_keeps k).2.2, s.committed_owner k⟩
  · by_cases hc : c = .windowExpiry
    · subst hc
      obtain rfl := Host.Outcome.next.inj hexec
      obtain ⟨hp, hran, k, hpass⟩ := State.expireWindow_active hactive hbefore
      exact ⟨rfl, hp, hran, State.heard_of_windowTests hpass⟩
    · exact absurd (exec_active hexec hc hactive) hbefore

end Sys2Proof.Machine
end

section
/-!
PROOFS. The notice of a WARN code and the send limit; O35.
-/

set_option Elab.async false

namespace Sys2Proof.Machine

/-! ### The notice that a raise of a WARN code asks for (R155) -/

/-- A raise of code `c` asks for a notice (R147, R155). -/
def State.Notifies (s : State) (c : AlarmCode) : Prop :=
  s.raises c ∧ s.ctl.mode ≠ .listen ∧ s.sendsNotice c = true

section

variable {s : State} {c : AlarmCode}

theorem State.localArm_sendsNotice (s : State) (c : AlarmCode) (v : Int) (m : Mode) :
    ((s.latch c v).localArm c m).sendsNotice c = s.sendsNotice c := by
  simp [State.sendsNotice, State.configured, State.prm]

/-- A raise without effect or notice leaves the link controller. -/
theorem State.raiseWarn_link_of_silent (h : ¬s.Notifies c) (v : Int) : (s.raiseWarn c v).link = s.link := by
  unfold State.raiseWarn
  split
  · rfl
  · next heffective =>
    have hraises : s.raises c := by
      simpa [State.raises, and_comm] using heffective
    have hsilent : s.ctl.mode = .listen ∨ ((s.latch c v).localArm c s.ctl.mode).sendsNotice c = false := by
      rw [State.localArm_sendsNotice]
      by_contra hno
      rw [not_or, Bool.not_eq_false] at hno
      exact h ⟨hraises, hno⟩
    unfold State.armAndNotice State.askNotice
    rw [if_pos hsilent]
    simp

/-- A raise that is sent asks for one notice, with all else of the link controller as it was. -/
theorem State.raiseWarn_link_of_notifies (h : s.Notifies c) (v : Int) :
    ∃ (u : State) (b : Bool) (q : Word16), u.link = s.link ∧ u.ctl = s.ctl ∧ u.now = s.now
      ∧ (s.raiseWarn c v).link = (u.queueFrame (.alarmNotice c (alarmValue v) b q)).link := by
  obtain ⟨⟨huse, hmask⟩, hlisten, hsends⟩ := h
  have hasks : ¬(s.ctl.mode = .listen ∨ ((s.latch c v).localArm c s.ctl.mode).sendsNotice c = false) := by
    rw [State.localArm_sendsNotice]
    simp [hlisten, hsends]
  have hraise : s.raiseWarn c v = ((s.latch c v).localArm c s.ctl.mode).askNotice c v s.ctl.mode :=
    if_neg (by simp [huse, hmask])
  rw [hraise]
  exact ⟨(s.latch c v).localArm c s.ctl.mode, _, _, by simp, by simp, by simp,
    congrArg State.link (if_neg hasks)⟩

/-- A notice merges with no other frame: in quiet-out or at a full queue one frame is dropped for it, else none. -/
theorem State.queueNotice_txDropped (s : State) (c : AlarmCode) (v : Word16) (b : Bool) (q : Word16) :
    (s.queueFrame (.alarmNotice c v b q)).link.txDropped =
      if s.onLink = true ∧ (s.link.quietOut.isSome = true ∨ 8 ≤ s.link.queue.length) then
        satInc s.link.txDropped
      else s.link.txDropped := by
  have hobject : (s.link.queue.any fun x => x.frame.sameObject (.alarmNotice c v b q)) = false := by
    rw [List.any_eq_false]
    intro x _
    cases x.frame <;> simp [OutFrame.sameObject]
  have hfull : (s.joinFullQueue (.alarmNotice c v b q)).link.txDropped = satInc s.link.txDropped := by
    unfold State.joinFullQueue
    (repeat' split) <;> simp [State.dropFrame_eq, State.joinQueue]
  unfold State.queueFrame
  rw [hobject]
  by_cases hlink : s.onLink = true
  · by_cases hquiet : s.link.quietOut.isSome = true
    · simp [hlink, hquiet, State.dropFrame_eq]
    · by_cases hroom : s.link.queue.length < 8
      · have hshort : ¬8 ≤ s.link.queue.length := Nat.not_le.mpr hroom
        simp [hlink, hquiet, hroom, hshort, OutFrame.isReport, State.joinQueue]
      · simp [hlink, hquiet, hroom, OutFrame.isReport, hfull, Nat.le_of_not_lt hroom]
  · simp [hlink]

theorem State.raiseWarn_txDropped_of_room (hquiet : s.link.quietOut = none) (hroom : s.link.queue.length < 8)
    (v : Int) : (s.raiseWarn c v).link.txDropped = s.link.txDropped := by
  by_cases h : s.Notifies c
  · obtain ⟨u, b, q, hu, -, -, hnotice⟩ := State.raiseWarn_link_of_notifies h v
    rw [hnotice, State.queueNotice_txDropped, hu, if_neg]
    rintro ⟨-, hquiet' | hfull⟩
    · simp [hquiet] at hquiet'
    · omega
  · rw [State.raiseWarn_link_of_silent h]

theorem State.raiseWarn_txDropped_of_dropped (h : s.raises c) (hsends : s.sendsNotice c = true)
    (hlink : s.onLink = true) (hdrop : s.link.quietOut.isSome = true ∨ 8 ≤ s.link.queue.length) (v : Int) :
    (s.raiseWarn c v).link.txDropped = satInc s.link.txDropped := by
  obtain ⟨u, b, q, hu, hctl, -, hnotice⟩ :=
    State.raiseWarn_link_of_notifies ⟨h, State.ne_listen_of_onLink hlink, hsends⟩ v
  rw [hnotice, State.queueNotice_txDropped, hu, if_pos ⟨(State.onLink_congr hctl).trans hlink, hdrop⟩]

end

/-! ### The send limit (R52) -/

theorem State.removePropose_link (s : State) (n : Byte) : (s.removePropose n).link = { s.link with
    queue := s.link.queue.filter fun q => !q.frame.isPropose n || q.inTx } := by
  have hswap : (fun q : Queued => q.inTx || !q.frame.isPropose n) = fun q => !q.frame.isPropose n || q.inTx :=
    funext fun q => Bool.or_comm _ _
  show ({ s.link with queue := s.link.queue.filter fun q => q.inTx || !q.frame.isPropose n } : LinkController) = _
  rw [hswap]

/-- A PROPOSE of the number stays only while it is in transmission. -/
theorem State.removePropose_inTx {s : State} {n : Byte} {q : Queued} (hq : q ∈ (s.removePropose n).link.queue)
    (h : q.frame.isPropose n = true) : q.inTx = true := by
  rw [State.removePropose_link] at hq
  simpa [h] using (List.mem_filter.mp hq).2

/-- The station as the send limit leaves it (R52). -/
theorem State.expireSendLimit_of_due {s : State} {a : Time} (hp : s.consent.own.status = .pending)
    (ha : s.consent.own.sendLimit = some a) (hdue : s.prm.objectionWindow ≤ s.since a) :
    s.expireSendLimit = (s.cancelProposal .notSent).removePropose s.consent.own.number := by
  unfold State.expireSendLimit
  dsimp only
  rw [if_pos ⟨hp, State.ran_of_le ha hdue⟩]

/-- What a raise is judged by follows station control. -/
theorem State.notifies_congr {s u : State} (h : u.ctl = s.ctl) (c : AlarmCode) : u.Notifies c ↔ s.Notifies c := by
  simp only [State.Notifies, State.raises, State.alarmInUse, State.strapFault, State.masked, State.sendsNotice,
    State.configured, State.prm, h]

/-- Settles O35: the proposal is cancelled, and its PROPOSE removed behind the raise. -/
theorem sendLimitCancels : Obligations.SendLimitCancels := by
  unfold Obligations.SendLimitCancels
  intro s k a hp hk ha hdue huse
  refine ⟨_, rfl, ?_⟩
  rw [State.expireSendLimit_of_due hp ha hdue]
  obtain ⟨hown, hraised, hswing, hwalk⟩ := State.cancelProposal_refused hk .notSent
  have hnotifies : s.cancelled.Notifies .consentRefused ↔ s.Notifies .consentRefused :=
    State.notifies_congr (by simp) _
  have hsilent (h : s.masked .consentRefused = true ∨ s.sendsNotice .consentRefused = false) :
      (s.cancelProposal .notSent).link = s.link := by
    rw [State.cancelProposal_eq, State.raiseWarn_link_of_silent]
    · simp
    · rw [hnotifies]
      rintro ⟨⟨-, hmask⟩, -, hsends⟩
      exact h.elim (by simp [hmask]) (by simp [hsends])
  refine ⟨hown, by simp [State.cancelProposal_eq], fun hmask => (hraised ⟨huse, hmask⟩).kept,
    fun q hq => State.removePropose_inTx hq, fun h => ?_, fun h => ?_, fun hmask hsends hlink hdrop => ?_,
    hswing, hwalk, by simp, by simp, by simp⟩
  all_goals rw [State.removePropose_link]
  · show (s.cancelProposal .notSent).link.txDropped = _
    rcases or_assoc.mpr h with hno | ⟨hquiet, hroom⟩
    · rw [hsilent hno]
    · rw [State.cancelProposal_eq, State.raiseWarn_txDropped_of_room] <;> simp [hquiet, hroom]
  · rw [hsilent h]
  · show (s.cancelProposal .notSent).link.txDropped = _
    have hraises : s.Notifies .consentRefused := ⟨⟨huse, hmask⟩, State.ne_listen_of_onLink hlink, hsends⟩
    obtain ⟨hraises', -, hsends'⟩ := hnotifies.mpr hraises
    rw [State.cancelProposal_eq, State.raiseWarn_txDropped_of_dropped hraises' hsends'
      ((State.onLink_congr (by simp)).trans hlink) (by simpa using hdrop)]
    simp

end Sys2Proof.Machine
end

section
/-!
PROOFS. A PROPOSE voted on, held and given way to; O32.
-/

set_option Elab.async false

namespace Sys2Proof.Machine

/-! ### The answer to a vote (R57) -/

/-- The vote queues an OBJECT or nothing. -/
def State.answered (s : State) (p : Station) (m : Byte) (v : Option Reason) : State :=
  match v with
  | some r => s.objectTo p m r
  | none => s

/-- The OBJECT that a vote queues, alone in the queue. -/
def objection (now : Time) (p : Station) (m : Byte) (v : Option Reason) : List Queued :=
  match v with
  | some r => [⟨.object p m r, now, false, false⟩]
  | none => []

section

variable {s : State} {p : Station} {m : Byte} {k : ProposalKind}

theorem State.objectTo_of_empty (hlink : s.onLink = true) (hquiet : s.link.quietOut = none)
    (hempty : s.link.queue = []) (r : Reason) :
    s.objectTo p m r = s.modLink fun l => { l with queue := [⟨.object p m r, s.now, false, false⟩] } := by
  have hroom : s.link.queue.length < 8 := by simp [hempty]
  unfold State.objectTo
  rw [State.queueFrame_of_room _ hlink hquiet hroom]
  simp [State.modLink, hempty, takeFrame, insertByClass, OutFrame.isReport]

theorem State.answered_of_empty (hlink : s.onLink = true) (hquiet : s.link.quietOut = none)
    (hempty : s.link.queue = []) (v : Option Reason) :
    s.answered p m v = s.modLink fun l => { l with queue := objection s.now p m v } := by
  cases v with
  | some r => exact State.objectTo_of_empty hlink hquiet hempty r
  | none =>
    show s = { s with link := { s.link with queue := [] } }
    rw [← hempty]

@[simp] theorem State.answered_keeps (v : Option Reason) : (s.answered p m v).consent = s.consent
    ∧ (s.answered p m v).alarm = s.alarm := by
  cases v <;> simp [State.answered, State.objectTo]

/-- An OBJECT is all that an answer brings into the queue. -/
theorem State.answered_queue {v : Option Reason} {q : Queued} (hq : q ∈ (s.answered p m v).link.queue) :
    q ∈ s.link.queue ∨ ∃ r, q.frame = .object p m r := by
  cases v with
  | none => exact .inl hq
  | some r =>
    rcases s.queueFrame_queue (.object p m r) with h | ⟨hreport, -⟩ | ⟨-, l, hl, h⟩
    · exact .inl (h ▸ hq)
    · exact absurd hreport nofun
    · have hmem : q ∈ insertByClass ⟨.object p m r, s.now, false, false⟩ l := h ▸ hq
      rw [mem_insertByClass] at hmem
      rcases hmem with rfl | hmem
      · exact .inr ⟨r, rfl⟩
      · exact .inl (hl.subset hmem)

/-! ### What is held (R55, R56) -/

/-- Another station's proposal has become the held one, its objecting mark showing the vote. -/
def State.holding (s : State) (p : Station) (m : Byte) (k : ProposalKind) (v : Option Reason) : State :=
  s.modConsent fun c => { c with held := some ⟨p, m, k, .pending, false, v.isSome⟩ }

/-- The vote on a proposal newly held. -/
theorem State.castVote_of_held (hentry : (s.entry p).status ≠ .absent) :
    (s.holdNew p m k).castVote p m k = (s.holding p m k (s.vote p k)).answered p m (s.vote p k) := by
  have hnew : s.holdNew p m k = s.holding p m k none := if_neg hentry
  have hvote : (s.holding p m k none).vote p k = s.vote p k := rfl
  have hholds : (s.holding p m k none).holds p m = true := by simp [State.holds, State.holding]
  rw [hnew]
  unfold State.castVote
  rw [hholds, hvote]
  rfl

/-- Beside a higher proposer nothing is held (R55). -/
theorem State.castVote_of_unheld (h : s.consent.held = none) :
    s.castVote p m k = s.answered p m (s.vote p k) := by
  unfold State.castVote State.holds
  rw [h]
  rfl

theorem State.takePropose_of_inService (h : s.inService = true) :
    s.takePropose p m k = (s.settlePropose p m k).castVote p m k := if_pos h

theorem State.settlePropose_of_idle (h : s.consent.own.status = .idle) (hheld : s.consent.held = none) :
    s.settlePropose p m k = s.holdNew p m k := by
  unfold State.settlePropose State.holdByTable
  rw [h, hheld]

theorem State.settlePropose_of_pending {me : Station} (h : s.consent.own.status = .pending)
    (hme : s.self = some me) :
    s.settlePropose p m k = if p < me then s.yieldTo p m k else s := by
  unfold State.settlePropose
  rw [h, hme]

/-! ### The vote of Table 4-4 -/

/-- Row 1: a station in STOP objects. -/
theorem State.voteByRole_of_stop (h : s.ctl.mode = .stop) : s.voteByRole k = some .stationStop := if_pos h

/-- With no own proposal, row 8 does not apply. -/
theorem State.vote_of_idle (h : s.consent.own.status = .idle) : s.vote p k = s.voteByRole k := by
  unfold State.vote State.contends
  rw [h]
  cases s.voteByRole k <;> rfl

/-- A lower own PENDING proposal contends (row 8). -/
theorem State.vote_of_lower {me : Station} (h : s.consent.own.status = .pending) (hme : s.self = some me)
    (hlt : me < p) : s.vote p k = some ((s.voteByRole k).getD .contending) := by
  unfold State.vote State.contends
  rw [h, hme]
  cases s.voteByRole k <;> simp [hlt]

theorem State.moving_eq (s : State) : (!s.atRest) =
    decide (s.prm.zeroBand < (if s.is .walk then s.meas.speedA else s.meas.speedB).natAbs) := by
  unfold State.atRest State.measuredSpeed
  rw [← decide_not]
  exact decide_eq_decide.mpr not_le

/-! ### A PROPOSE taken (R54 to R57) -/

theorem State.onLink_of_inService (h : s.inService = true) : s.onLink = true := by
  unfold State.inService at h
  rw [Bool.and_eq_true] at h
  exact h.1

/-- With neither record in use the proposal is held, and the answer stands alone in an empty queue. -/
theorem State.takePropose_of_free (hservice : s.inService = true) (hidle : s.consent.own.status = .idle)
    (hheld : s.consent.held = none) (hentry : (s.entry p).status ≠ .absent) (hquiet : s.link.quietOut = none)
    (hempty : s.link.queue = []) : s.takePropose p m k =
      (s.holding p m k (s.vote p k)).modLink fun l => { l with queue := objection s.now p m (s.vote p k) } := by
  rw [State.takePropose_of_inService hservice, State.settlePropose_of_idle hidle hheld, State.castVote_of_held hentry]
  exact State.answered_of_empty (s := s.holding p m k (s.vote p k)) (State.onLink_of_inService hservice) hquiet hempty _

/-- A lower proposer is given way to (R55, R65). -/
theorem State.takePropose_of_higher {me : Station} (hservice : s.inService = true)
    (hpending : s.consent.own.status = .pending) (hme : s.self = some me) (hlt : p < me)
    (hentry : (s.entry p).status ≠ .absent) : ∃ v,
      s.takePropose p m k = (((s.cancelProposal (.yielded p)).removePropose
        s.consent.own.number).holding p m k v).answered p m v := by
  have hentry' : (((s.cancelProposal (.yielded p)).removePropose s.consent.own.number).entry p).status ≠ .absent := by
    simpa [State.entry] using hentry
  rw [State.takePropose_of_inService hservice, State.settlePropose_of_pending hpending hme, if_pos hlt]
  exact ⟨_, State.castVote_of_held hentry'⟩

/-- A higher proposer is objected to and not held (R55). -/
theorem State.takePropose_of_lower {me : Station} (hservice : s.inService = true)
    (hpending : s.consent.own.status = .pending) (hme : s.self = some me) (hlt : me < p)
    (hheld : s.consent.held = none) :
    s.takePropose p m k = s.answered p m (some ((s.voteByRole k).getD .contending)) := by
  rw [State.takePropose_of_inService hservice, State.settlePropose_of_pending hpending hme,
    if_neg (not_lt.mpr hlt.le), State.castVote_of_unheld hheld, State.vote_of_lower hpending hme hlt]

/-- An unconfigured station objects with STATION_STOP (R5). -/
theorem State.takePropose_of_unconfigured (h : s.unconfigured = true) :
    s.takePropose p m k = s.objectTo p m .stationStop := by
  have hservice : s.inService = false := by
    simp_all [State.unconfigured, State.inService]
  unfold State.takePropose
  rw [hservice, h]
  rfl

end

/-- Settles O32: a PROPOSE met with no own proposal, below and above an own one, unconfigured, or unusable. -/
theorem proposeTaken : Obligations.ProposeTaken := by
  unfold Obligations.ProposeTaken
  refine ⟨fun s p m k hhears hservice hm hidle hheld hentry hquiet hempty => ?_,
    fun s p m k hhears hservice hmode hm hidle hheld hentry hquiet hempty => ?_,
    fun s p me m k j hhears hme hlt hservice hm hpending hkind hentry hraises => ?_,
    fun s p me m k hhears hme hlt hservice hm hpending hquiet hempty hheld => ?_,
    fun s p m k hhears hunconfigured hm hquiet hempty => ?_,
    fun s p m k hhears hbad => exec_propose_unusable hhears hbad⟩
  · refine ⟨_, exec_propose_taken hhears hm k, ?_⟩
    rw [State.takePropose_of_free hservice hidle hheld hentry hquiet hempty]
    refine ⟨rfl, fun hstop => ?_, rfl, rfl⟩
    rw [State.vote_of_idle hidle, State.voteByRole_of_stop hstop]
  · intro speed moving vote
    have hmoving : (!s.atRest) = moving := s.moving_eq
    have hvote : s.vote p k = vote := by
      rw [State.vote_of_idle hidle]
      unfold State.voteByRole
      rw [if_neg hmode, hmoving]
      dsimp only [vote]
      generalize s.ownRole = role
      cases k with
      | swingRelease => rcases role with _ | (_ | _ | _ | _) <;> rfl
      | walkStart =>
        rcases role with _ | (_ | _ | _ | _)
        case some.swing => cases s.out.brakeSet <;> rfl
        all_goals rfl
    refine ⟨_, exec_propose_taken hhears hm k, ?_⟩
    rw [State.takePropose_of_free hservice hidle hheld hentry hquiet hempty, hvote]
    exact ⟨rfl, rfl⟩
  · refine ⟨_, exec_propose_taken hhears hm k, ?_⟩
    obtain ⟨v, hv⟩ := State.takePropose_of_higher (m := m) (k := k) hservice hpending hme hlt hentry
    obtain ⟨hown, hraised, -, -⟩ := State.cancelProposal_refused hkind (.yielded p)
    rw [hv]
    refine ⟨?_, ?_, ⟨v.isSome, ?_⟩, fun q hq hpropose => ?_⟩
    · simpa [State.freeBuffer, State.holding] using hown
    · exact (hraised hraises).kept (by simp [State.freeBuffer, State.holding])
    · simp [State.freeBuffer, State.holding]
    · rcases State.answered_queue hq with hold | ⟨r, hframe⟩
      · exact State.removePropose_inTx hold hpropose
      · simp [hframe, OutFrame.isPropose] at hpropose
  · refine ⟨_, exec_propose_taken hhears hm k, ?_⟩
    rw [State.takePropose_of_lower hservice hpending hme hlt hheld,
      State.answered_of_empty (State.onLink_of_inService hservice) hquiet hempty]
    refine ⟨rfl, _, List.mem_singleton_self _, ?_⟩
    by_cases hstop : s.ctl.mode = .stop
    · rw [if_pos hstop, State.voteByRole_of_stop hstop]
      rfl
    · rw [if_neg hstop]
  · refine ⟨_, exec_propose_taken hhears hm k, ?_⟩
    have hlink : s.onLink = true := by
      simp_all [State.unconfigured]
    rw [State.takePropose_of_unconfigured hunconfigured, State.objectTo_of_empty hlink hquiet hempty]
    rfl

end Sys2Proof.Machine
end

section
/-!
PROOFS. Count edges and skips of the pulse pairs; O37.
-/

set_option Elab.async false

namespace Sys2Proof.Machine

/-! ### The quadrature sequence (R74) -/

/-- The direction of the next change of a line, by the lines before it. -/
def PairLines.advances (l : PairLines) : Phase → Bool
  | .phase1 => l.phase1 != l.phase2
  | .phase2 => l.phase1 == l.phase2

theorem edgeForward_flip (p : Phase) (l : PairLines) : edgeForward p (l.flip p) = l.advances p := by
  obtain ⟨a, b⟩ := l
  cases p <;> cases a <;> cases b <;> rfl

/-! ### The counters (R77, R78) -/

/-- A turn count moves by one, wrapping within 0 to COUNTS_PER_TURN − 1. -/
theorem turnStep_spec {perTurn turn : Nat} (h : turn < perTurn) (forward : Bool) :
    turnStep perTurn turn forward < perTurn
    ∧ (turnStep perTurn turn forward : Int) = ((turn : Int) + (if forward then 1 else -1)) % perTurn := by
  cases forward with
  | true =>
    by_cases hlast : turn + 1 < perTurn
    · have hstep : turnStep perTurn turn true = turn + 1 := if_pos hlast
      rw [hstep]
      exact ⟨hlast, (Int.emod_eq_of_lt (by omega) (by exact_mod_cast hlast)).symm⟩
    · have hstep : turnStep perTurn turn true = 0 := if_neg hlast
      have hwrap : (turn : Int) + 1 = perTurn := by omega
      rw [hstep, if_pos rfl, hwrap, Int.emod_self]
      exact ⟨by omega, rfl⟩
  | false =>
    by_cases hfirst : turn = 0
    · have hstep : turnStep perTurn turn false = perTurn - 1 := if_pos hfirst
      have hback : ((turn : Int) + -1) % perTurn = ((turn : Int) + -1 + perTurn) % perTurn :=
        (Int.add_emod_right _ _).symm
      rw [hstep, if_neg Bool.false_ne_true, hback, Int.emod_eq_of_lt (by omega) (by omega)]
      exact ⟨by omega, by omega⟩
    · have hstep : turnStep perTurn turn false = turn - 1 := if_neg hfirst
      rw [hstep, if_neg Bool.false_ne_true, Int.emod_eq_of_lt (by omega) (by omega)]
      exact ⟨by omega, by omega⟩

theorem State.ownRole_of_is {s : State} {r : Role} (h : s.is r = true) : s.ownRole = some r :=
  beq_iff_eq.mp h

theorem Measurement.countA_of_payout {s : State} (h : s.is .hoist = true ∨ s.is .drag = true) (m : Measurement)
    (perTurn : Nat) (forward : Bool) : m.countA s.ownRole perTurn forward =
      { m with payCount := if forward then m.payCount + 1 else m.payCount - 1 } := by
  rcases h with h | h <;> rw [State.ownRole_of_is h] <;> rfl

theorem Measurement.countA_of_turn {s : State} (h : s.is .swing = true ∨ s.is .walk = true) (m : Measurement)
    (perTurn : Nat) (forward : Bool) :
    m.countA s.ownRole perTurn forward = { m with turnA := turnStep perTurn m.turnA forward } := by
  rcases h with h | h <;> rw [State.ownRole_of_is h] <;> rfl

theorem Measurement.countB_eq (s : State) (m : Measurement) (perTurn : Nat) (forward : Bool) :
    m.countB s.ownRole perTurn forward =
      { m with turnB := if s.is .walk then turnStep perTurn m.turnB forward else m.turnB } := by
  unfold State.is
  rcases s.ownRole with _ | (_ | _ | _ | _) <;> rfl

/-! ### A count edge and a skip (R74, R75) -/

section

variable {s : State} (p : Phase) (us : Nat)

theorem State.countEdge_pulseA (h : s.loaded = true) : s.countEdge .pulseA p us =
    { s with
      pins := { s.pins with pulseA := s.pins.pulseA.flip p }
      meas := { s.meas.countA s.ownRole s.prm.countsPerTurn (s.pins.pulseA.advances p) with
        timerA := s.meas.timerA.edge (s.pins.pulseA.advances p) us } } := by
  simp only [← edgeForward_flip]
  exact if_pos h

theorem State.countEdge_pulseB (h : s.loaded = true) : s.countEdge .pulseB p us =
    { s with
      pins := { s.pins with pulseB := s.pins.pulseB.flip p }
      meas := { s.meas.countB s.ownRole s.prm.countsPerTurn (s.pins.pulseB.advances p) with
        timerB := s.meas.timerB.edge (s.pins.pulseB.advances p) us } } := by
  simp only [← edgeForward_flip]
  exact if_pos h

/-- Before the good load only the lines follow an edge. -/
theorem State.countEdge_of_unloaded (h : s.loaded = false) (x : PairId) : s.countEdge x p us =
    { s with pins := match x with
      | .pulseA => { s.pins with pulseA := s.pins.pulseA.flip p }
      | .pulseB => { s.pins with pulseB := s.pins.pulseB.flip p } } := by
  cases x <;> exact if_neg (by simp [h])

end

/-- Settles O37: the counter, the lines and the period timer of an edge, by pair and role; the skip; and both before
the good load. -/
theorem pulseEdges : Obligations.PulseEdges := by
  unfold Obligations.PulseEdges
  refine ⟨fun s p us hload hrole => ⟨_, rfl, ?_⟩, fun s p us hload hrole hpos hturn => ⟨_, rfl, ?_⟩,
    fun s p us hload hturn => ⟨_, rfl, ?_⟩, fun s x hload => ⟨_, rfl, ?_⟩,
    fun s x p us hload => ⟨⟨_, rfl, ?_⟩, _, rfl, ?_⟩⟩
  · rw [State.countEdge_pulseA p us hload, Measurement.countA_of_payout hrole]
    cases p <;> rfl
  · rw [State.countEdge_pulseA p us hload, Measurement.countA_of_turn hrole]
    cases p <;> exact ⟨rfl, turnStep_spec hturn _⟩
  · rw [State.countEdge_pulseB p us hload, Measurement.countB_eq]
    cases hwalk : s.is .walk with
    | false => cases p <;> exact ⟨rfl, fun _ => rfl, fun h => absurd h Bool.false_ne_true⟩
    | true =>
      obtain ⟨-, hlt⟩ := hturn hwalk
      cases p <;> exact ⟨rfl, fun h => absurd h.symm Bool.false_ne_true, fun _ => turnStep_spec hlt _⟩
  · exact (if_pos hload).trans (by cases x <;> rfl)
  · rw [State.countEdge_of_unloaded p us hload]
    cases x <;> cases p <;> rfl
  · exact (if_neg (by simp [hload])).trans (by cases x <;> rfl)

end Sys2Proof.Machine
end

section
/-!
PROOFS. Edges of LIMIT, of the home inputs and of BRAKE_FB; O38.
-/

set_option Elab.async false

namespace Sys2Proof.Machine

/-! ### What the takers of an edge do (R77, R78, R108) -/

section

variable {s : State}

theorem State.limitRises_of_hoist (hload : s.loaded = true) (h : s.is .hoist = true) :
    s.limitRises = (s.modMeas Measurement.homePayout).raiseTwoBlock := by
  rw [State.limitRises, if_pos hload, State.ownRole_of_is h]

theorem State.limitRises_of_drag (hload : s.loaded = true) (h : s.is .drag = true) :
    s.limitRises = s.modMeas Measurement.homePayout := by
  rw [State.limitRises, if_pos hload, State.ownRole_of_is h]

theorem State.limitFalls_of_hoist (hload : s.loaded = true) (h : s.is .hoist = true) :
    s.limitFalls = s.returnAlarm .twoBlock :=
  if_pos (by rw [hload, h]; rfl)

theorem State.limitFalls_of_not_hoist (h : s.is .hoist = false) : s.limitFalls = s :=
  if_neg (by simp [h])

theorem State.homeLeftRises_eq (hload : s.loaded = true) :
    s.homeLeftRises = if s.is .swing || s.is .walk then s.modMeas Measurement.homeLeft else s := by
  rw [State.homeLeftRises, hload, Bool.true_and]

theorem State.homeRightRises_eq (hload : s.loaded = true) :
    s.homeRightRises = if s.is .walk then s.modMeas Measurement.homeRight else s := by
  rw [State.homeRightRises, hload, Bool.true_and]

end

/-- Settles O38: the edges of LIMIT by role, of HOME_L and HOME_R by role, and of BRAKE_FB. -/
theorem contactEvents : Obligations.ContactEvents := by
  unfold Obligations.ContactEvents
  refine ⟨fun s hload hhoist => ⟨_, rfl, ?_⟩, fun s hload hdrag => ⟨_, rfl, ?_⟩,
    fun s hload hhoist hraises => ⟨_, rfl, ?_⟩, fun s hhoist => ⟨_, rfl, ?_⟩, fun s hload => ⟨_, rfl, ?_⟩,
    fun s hload => ⟨_, rfl, ?_⟩, fun s level => ⟨_, rfl, rfl⟩⟩
  · rw [State.limitRises_of_hoist (s := s.settleLimit true) hload hhoist]
    refine ⟨?_, fun hraises => Raised.of_warn hraises _ rfl rfl rfl, ?_⟩
    · simp [State.raiseTwoBlock, State.settleLimit, Measurement.homePayout, Debounced.settled]
    · simp [State.raiseTwoBlock, State.settleLimit]
  · exact State.limitRises_of_drag (s := s.settleLimit true) hload hdrag
  · rw [State.limitFalls_of_hoist (s := s.settleLimit false) hload hhoist]
    obtain ⟨huse, hmask⟩ := hraises
    have hann := State.returnAlarm_ann (s := s.settleLimit false) huse hmask
    refine ⟨?_, (hann _).trans (if_pos rfl), fun c hc => (hann c).trans (if_neg hc), ?_⟩
    · simp [State.settleLimit, Debounced.settled]
    · simp [State.settleLimit]
  · exact State.limitFalls_of_not_hoist (s := s.settleLimit false) hhoist
  · refine (State.homeLeftRises_eq (s := s.settleHomeL true) hload).trans ?_
    by_cases hrole : (s.is .swing || s.is .walk) = true
    · rw [if_pos hrole]
      exact if_pos hrole
    · rw [if_neg hrole]
      exact if_neg hrole
  · refine (State.homeRightRises_eq (s := s.settleHomeR true) hload).trans ?_
    by_cases hrole : (s.is .walk) = true
    · rw [if_pos hrole]
      exact if_pos hrole
    · rw [if_neg hrole]
      exact if_neg hrole

end Sys2Proof.Machine
end

section
/-!
PROOFS. Conditions that have held, or been gone for, their time (R81, R100 to R102, R110); O42 and O41.
-/

set_option Elab.async false

namespace Sys2Proof.Machine

/-! ### The times that have run -/

theorem State.tachCompared_iff (s : State) :
    s.tachCompared = true ↔ s.is .hoist = true ∨ (s.is .drag = true ∧ s.role.supply = .normal) := by
  simp [State.tachCompared]

section

variable {s : State}

theorem State.expireTachExcess_of_due (hload : s.loaded = true) (hcompared : s.tachCompared = true)
    (hraised : s.meas.tachRaised = false) (hran : s.ran s.meas.tachExcess 200 = true) :
    s.expireTachExcess = (s.modMeas fun m => { m with tachRaised := true, tachExcess := none }).raiseTrip .tachFault
      s.meas.speedDifference :=
  if_pos (by simp [tachTime, hload, hcompared, hraised, hran])

theorem State.expireTachRecovery_of_due (hload : s.loaded = true) (hcompared : s.tachCompared = true)
    (hraised : s.meas.tachRaised = true) (hran : s.ran s.meas.tachRecovery 200 = true) :
    s.expireTachRecovery =
      (s.modMeas fun m => { m with tachRaised := false, tachRecovery := none }).returnAlarm .tachFault :=
  if_pos (by simp [tachTime, hload, hcompared, hraised, hran])

/-- Where the speeds are not compared neither time of the cross-check does anything (R81). -/
theorem State.expireTach_of_not_compared (h : s.tachCompared = false) :
    s.expireTachExcess = s ∧ s.expireTachRecovery = s :=
  ⟨if_neg (by simp [h]), if_neg (by simp [h])⟩

theorem State.expireDisagree_of_due (hload : s.loaded = true) (hraised : s.drive.brakeFaultRaised = false)
    (hran : s.ran s.drive.disagreeTime 300 = true) :
    s.expireDisagree = (s.modDrive fun d => { d with brakeFaultRaised := true, disagreeTime := none }).raiseTrip
      .brakeFault (if s.out.brakeSet then 1 else 2) :=
  if_pos (by simp [brakeCheckTime, hload, hraised, hran])

theorem State.expireAgree_of_due (hload : s.loaded = true) (hraised : s.drive.brakeFaultRaised = true)
    (hran : s.ran s.drive.agreeTime 300 = true) :
    s.expireAgree =
      (s.modDrive fun d => { d with brakeFaultRaised := false, agreeTime := none }).returnAlarm .brakeFault :=
  if_pos (by simp [brakeCheckTime, hload, hraised, hran])

theorem State.expireLoss_of_due (hload : s.loaded = true) (hraised : s.drive.fieldLossRaised = false)
    (hran : s.ran s.drive.lossTime 100 = true) :
    s.expireLoss = (s.modDrive fun d => { d with fieldLossRaised := true, lossTime := none }).raiseTrip .fieldLoss
      s.meas.fieldCurrent :=
  if_pos (by simp [fieldTime, hload, hraised, hran])

theorem State.expireLossClear_of_due (hload : s.loaded = true) (hraised : s.drive.fieldLossRaised = true)
    (hran : s.ran s.drive.lossClear 100 = true) :
    s.expireLossClear =
      (s.modDrive fun d => { d with fieldLossRaised := false, lossClear := none }).returnAlarm .fieldLoss :=
  if_pos (by simp [fieldTime, hload, hraised, hran])

theorem State.expireClear_overcurrent_of_due (hload : s.loaded = true) (hraised : s.drive.overcurrentRaised = true)
    (hran : s.ran s.drive.overcurrentClear 100 = true) :
    s.expireClear .fieldOvercurrent =
      (s.modDrive fun d => { d with overcurrentRaised := false, overcurrentClear := none }).returnAlarm
        .fieldOvercurrent :=
  if_pos (by simp [fieldTime, hload, hraised, hran])

theorem State.expireClear_overvoltage_of_due (hload : s.loaded = true) (hraised : s.drive.overvoltageRaised = true)
    (hran : s.ran s.drive.overvoltageClear 100 = true) :
    s.expireClear .armatureOvervoltage =
      (s.modDrive fun d => { d with overvoltageRaised := false, overvoltageClear := none }).returnAlarm
        .armatureOvervoltage :=
  if_pos (by simp [fieldTime, hload, hraised, hran])

theorem State.expireOverload_of_due (hload : s.loaded = true) (hhoist : s.is .hoist = true) (hleads : s.leads = true)
    (hraised : s.role.overloadRaised = false) (hran : s.ran s.role.overloadTime 500 = true) :
    s.expireOverload = (s.modRole fun r => { r with overloadRaised := true, overloadTime := none }).raiseTrip
      .boomOverload (min s.boomLoad 32767 : Nat) :=
  if_pos (by simp [overloadHold, State.estimatesBoom, hload, hhoist, hleads, hraised, hran])

end

/-! ### The return of a code above WARN (R149) -/

/-- A return behind what leaves station control and alarm unit moves the code by Table 10-3, and no other. -/
theorem State.returnAlarm_moves {s u : State} {c : AlarmCode} (huse : s.alarmInUse = true)
    (hc : c.isWarn = false := by rfl) (hctl : u.ctl = s.ctl := by rfl) (ha : u.alarm = s.alarm := by rfl) :
    (u.returnAlarm c).ann c = (s.ann c).afterReturn ∧ ∀ d, d ≠ c → (u.returnAlarm c).ann d = s.ann d := by
  have huse' : u.alarmInUse = true := by
    simpa only [State.alarmInUse, State.strapFault, hctl] using huse
  have hmask : u.masked c = false := by simp [State.masked, hc]
  have hann := State.returnAlarm_ann huse' hmask
  have hbefore (d : AlarmCode) : u.ann d = s.ann d := State.ann_congr (congrArg AlarmUnit.table ha) d
  refine ⟨?_, fun d hd => ?_⟩
  · rw [hann, if_pos rfl, hbefore]
  · rw [hann, if_neg hd, hbefore]

/-- A return behind a move of the drive's own flags and times moves nothing but them and the code. -/
theorem State.returnAlarm_of_modDrive {s : State} {c : AlarmCode} (huse : s.alarmInUse = true)
    (f : DriveRegulator → DriveRegulator) (hc : c.isWarn = false := by rfl) : let t := (s.modDrive f).returnAlarm c
    t.ann c = (s.ann c).afterReturn ∧ (∀ d, d ≠ c → t.ann d = s.ann d) ∧ t.drive = f s.drive ∧ t.meas = s.meas
    ∧ t.link = s.link ∧ t.capture = s.capture ∧ t.peers = s.peers ∧ t.consent = s.consent ∧ t.heat = s.heat
    ∧ t.walk = s.walk := by
  obtain ⟨hown, hothers⟩ := State.returnAlarm_moves (u := s.modDrive f) huse hc
  exact ⟨hown, hothers, by simp⟩

/-- Settles O42: each return after its clearing time moves its own code, its own flag and its own time. -/
theorem persistenceReturns : Obligations.PersistenceReturns := by
  unfold Obligations.PersistenceReturns
  refine ⟨fun s hload huse hrole hraised hran => ⟨_, rfl, ?_⟩, fun s hload huse hraised hran => ⟨_, rfl, ?_⟩,
    fun s hload huse hraised hran => ⟨_, rfl, ?_⟩, fun s hload huse hraised hran => ⟨_, rfl, ?_⟩,
    fun s hload huse hraised hran => ⟨_, rfl, ?_⟩⟩
  · rw [State.expireTachRecovery_of_due hload (s.tachCompared_iff.mpr hrole) hraised hran]
    obtain ⟨hown, hothers⟩ := State.returnAlarm_moves
      (u := s.modMeas fun m => { m with tachRaised := false, tachRecovery := none }) (c := .tachFault) huse
    exact ⟨hown, hothers, by simp⟩
  · rw [State.expireAgree_of_due hload hraised hran]
    exact State.returnAlarm_of_modDrive huse _
  · rw [State.expireLossClear_of_due hload hraised hran]
    exact State.returnAlarm_of_modDrive huse _
  · rw [State.expireClear_overcurrent_of_due hload hraised hran]
    exact State.returnAlarm_of_modDrive huse _
  · rw [State.expireClear_overvoltage_of_due hload hraised hran]
    exact State.returnAlarm_of_modDrive huse _

/-! ### What a raise of a TRIP code leaves of the checks (R148, R151) -/

/-- Flag and time of the checks whose time raises a TRIP code: brake feedback, field loss and boom load. -/
def State.watches (s : State) : Bool × Timer × Bool × Timer × Bool × Timer :=
  (s.drive.brakeFaultRaised, s.drive.disagreeTime, s.drive.fieldLossRaised, s.drive.lossTime,
    s.role.overloadRaised, s.role.overloadTime)

theorem State.watches_congr {s t : State} (hd : t.drive = s.drive) (hr : t.role = s.role) : t.watches = s.watches := by
  rw [State.watches, hd, hr]
  rfl

theorem State.returnAlarm_watches (s : State) (c : AlarmCode) : (s.returnAlarm c).watches = s.watches :=
  State.watches_congr (by simp) (by simp)

theorem State.openTransfer_watches (s : State) : s.openTransfer.watches = s.watches := by
  unfold State.openTransfer
  dsimp only
  split
  · exact (State.returnAlarm_watches _ _).trans rfl
  · rfl

theorem State.endSupply_watches (s : State) : s.endSupply.watches = s.watches := by
  unfold State.endSupply
  split
  · exact (State.openTransfer_watches _).trans rfl
  · exact (State.openTransfer_watches _).trans rfl
  · rfl
  · rfl

theorem State.addCause_watches (s : State) (c : HoldCause) : (s.addCause c).watches = s.watches := by
  have hhold (u : State) : u.enterHold.watches = u.watches := by
    obtain ⟨-, hdrive⟩ := Sustains.enterHold_supply u
    rw [State.watches, hdrive, show u.enterHold.role = u.role by simp]
    rfl
  unfold State.addCause
  split
  · rfl
  · dsimp only
    split
    · exact (hhold _).trans rfl
    · rfl

theorem State.raiseTrip_watches (s : State) (c : AlarmCode) (v : Int) : (s.raiseTrip c v).watches = s.watches := by
  have hadd (u : State) : u.addLocalTrip.watches = u.watches := by
    unfold State.addLocalTrip
    split
    · rfl
    · exact (State.endSupply_watches _).trans (State.addCause_watches _ _)
  have hlatch : (s.latchTrip c v).watches = s.watches := by
    unfold State.latchTrip
    split
    · exact (hadd _).trans rfl
    · rfl
  cases huse : s.alarmInUse with
  | false => exact congrArg State.watches (if_pos (by simp [huse]))
  | true =>
    rw [State.raiseTrip_of_inUse huse]
    exact (State.watches_congr (by simp) (by simp)).trans hlatch

/-- A TRIP raised behind what leaves station control and alarm unit: its entry, its hold, and the checks' flags and
times as they were (R148, R151). -/
theorem State.raiseTrip_trips {s u : State} {c : AlarmCode} (huse : s.alarmInUse = true) (hrun : s.RunIsFree)
    (htrip : s.hasCause .localTrip = !s.alarm.tripsNormal) (v : Int) (hc : c.severity = .trip := by rfl)
    (hne : c ≠ .transferFail := by decide) (hctl : u.ctl = s.ctl := by rfl) (ha : u.alarm = s.alarm := by rfl)
    (hnow : u.now = s.now := by rfl) : Raised s (u.raiseTrip c v) c v ∧ (u.raiseTrip c v).tripped
      ∧ (u.raiseTrip c v).watches = u.watches := by
  have huse' : u.alarmInUse = true := by
    simpa only [State.alarmInUse, State.strapFault, hctl] using huse
  have hrun' : u.RunIsFree := by
    unfold State.RunIsFree at *
    rwa [hctl]
  have htrip' : u.hasCause .localTrip = !u.alarm.tripsNormal := by
    unfold State.hasCause at *
    rwa [hctl, ha]
  refine ⟨(State.raiseTrip_raised hne huse' v).congr ha hnow hctl rfl, ?_, u.raiseTrip_watches c v⟩
  have hlatched := State.latchTrip_tripped hc hne htrip' hrun' v
  have hstays : ((u.latchTrip c v).armAndNotice c v u.ctl.mode).ctl = (u.latchTrip c v).ctl := by simp
  rw [State.raiseTrip_of_inUse huse']
  unfold State.tripped State.hasCause at *
  rwa [hstays]

/-- Settles O41: each TRIP after its time, with its value, its hold, its flag and its time. -/
theorem persistenceRaises : Obligations.PersistenceRaises := by
  unfold Obligations.PersistenceRaises
  refine ⟨fun s hload hrole hraised hran huse hrun htrip => ⟨_, rfl, ?_⟩,
    fun s hload hraised hran huse hrun htrip => ⟨_, rfl, ?_⟩,
    fun s hload hraised hran huse hrun htrip => ⟨_, rfl, ?_⟩,
    fun s hload hhoist hleads hraised hran huse hrun htrip => ⟨_, rfl, ?_⟩, fun s hhoist hdrag => ?_⟩
  · rw [State.expireTachExcess_of_due hload (s.tachCompared_iff.mpr hrole) hraised hran]
    obtain ⟨hentry, htripped, -⟩ := State.raiseTrip_trips
      (u := s.modMeas fun m => { m with tachRaised := true, tachExcess := none }) (c := .tachFault) huse hrun htrip
      s.meas.speedDifference
    exact ⟨hentry, htripped, by simp⟩
  · rw [State.expireDisagree_of_due hload hraised hran]
    obtain ⟨hentry, htripped, hwatches⟩ := State.raiseTrip_trips
      (u := s.modDrive fun d => { d with brakeFaultRaised := true, disagreeTime := none }) (c := .brakeFault) huse
      hrun htrip (if s.out.brakeSet then 1 else 2)
    simp only [State.watches, Prod.mk.injEq] at hwatches
    obtain ⟨hflag, htime, -⟩ := hwatches
    exact ⟨hentry, htripped, hflag, htime, by simp⟩
  · rw [State.expireLoss_of_due hload hraised hran]
    obtain ⟨hentry, htripped, hwatches⟩ := State.raiseTrip_trips
      (u := s.modDrive fun d => { d with fieldLossRaised := true, lossTime := none }) (c := .fieldLoss) huse hrun
      htrip s.meas.fieldCurrent
    simp only [State.watches, Prod.mk.injEq] at hwatches
    obtain ⟨-, -, hflag, htime, -⟩ := hwatches
    exact ⟨hentry, htripped, hflag, htime, by simp⟩
  · rw [State.expireOverload_of_due hload hhoist hleads hraised hran]
    obtain ⟨hentry, htripped, hwatches⟩ := State.raiseTrip_trips
      (u := s.modRole fun r => { r with overloadRaised := true, overloadTime := none }) (c := .boomOverload) huse
      hrun htrip (min s.boomLoad 32767 : Nat)
    simp only [State.watches, Prod.mk.injEq] at hwatches
    obtain ⟨-, -, -, -, hflag, htime⟩ := hwatches
    exact ⟨hentry, htripped, hflag, htime, by simp⟩
  · have hcompared : s.tachCompared = false := by
      rw [Bool.eq_false_iff, ne_eq, s.tachCompared_iff]
      rcases hdrag with hdrag | hsupply
      · simp [hhoist, hdrag]
      · simp [hhoist, hsupply]
    obtain ⟨hexcess, hrecovery⟩ := State.expireTach_of_not_compared hcompared
    exact ⟨congrArg _ hexcess, congrArg _ hrecovery⟩

end Sys2Proof.Machine
end

section
/-!
PROOFS. The measured values of an expiry (R67 to R78); O39.
-/

set_option Elab.async false

namespace Sys2Proof.Machine

/-! ### What of an expiry writes the measurement unit -/

/-- Behind the cross-check nothing writes the measurement unit until the quiet note of the expiry's end. -/
theorem State.expiryWork_meas (s : State) (raw : Analog) :
    (s.expiryWork raw).meas = ((s.restartRegulation raw).measure raw).meas := by
  unfold State.expiryWork State.expiryStep
  simp

/-- The cross-check writes its flag and its two times. -/
theorem State.checkTach_meas (s : State) : ∃ raised excess recovery, s.checkTach.meas =
    { s.meas with tachRaised := raised, tachExcess := excess, tachRecovery := recovery } := by
  have hwatch (u : State) : u.watchTach.meas =
      { u.meas with tachExcess := u.watchTach.meas.tachExcess, tachRecovery := u.watchTach.meas.tachRecovery } := rfl
  have hexcess (u : State) : ∃ raised excess, u.expireTachExcess.meas =
      { u.meas with tachRaised := raised, tachExcess := excess } := by
    unfold State.expireTachExcess
    split
    · exact ⟨true, none, by simp⟩
    · exact ⟨_, _, rfl⟩
  have hrecovery (u : State) : ∃ raised recovery, u.expireTachRecovery.meas =
      { u.meas with tachRaised := raised, tachRecovery := recovery } := by
    unfold State.expireTachRecovery
    split
    · exact ⟨false, none, by simp⟩
    · exact ⟨_, _, rfl⟩
  obtain ⟨raised, excess, h⟩ := hexcess s.watchTach
  obtain ⟨raised', recovery, h'⟩ := hrecovery s.watchTach.expireTachExcess
  refine ⟨raised', excess, recovery, ?_⟩
  rw [State.checkTach, h', h, hwatch]

/-- Beside the cross-check's flag and times and the quiet note, an expiry leaves the values formed at its start. -/
theorem State.regulationExpiry_meas {s : State} (h : s.regulationDue = true) (raw : Analog) :
    ∃ raised excess recovery quiet, (s.regulationExpiry raw).meas =
      { ((s.restartRegulation raw).formValues raw).meas with
        tachRaised := raised, tachExcess := excess, tachRecovery := recovery, quiet := quiet } := by
  have hnote (u : State) : u.noteQuiet.meas = { u.meas with quiet := u.quietNow } := rfl
  have hwork : ∃ quiet, (s.regulationWork raw).meas = { (s.expiryWork raw).meas with quiet := quiet } := by
    unfold State.regulationWork
    dsimp only
    split
    · have hstore : ((((s.expiryWork raw).withStore s.capture).captureWork (s.expirySample raw)).takeArms s raw).meas =
          (s.expiryWork raw).meas := by simp
      exact ⟨_, (hnote _).trans (by rw [hstore])⟩
    · exact ⟨_, hnote _⟩
  obtain ⟨quiet, hwork⟩ := hwork
  obtain ⟨raised, excess, recovery, hcheck⟩ := ((s.restartRegulation raw).formValues raw).checkTach_meas
  refine ⟨raised, excess, recovery, quiet, ?_⟩
  rw [State.regulationExpiry, if_pos h, hwork, State.expiryWork_meas, State.measure, hcheck]

theorem State.regulationDue_of_ran {s : State} {a : Time} (hload : s.loaded = true) (ht : s.meas.regTimer = some a)
    (hd : s.prm.regInterval ≤ s.since a) : s.regulationDue = true := by
  rw [State.regulationDue, hload, State.ran_of_le ht hd]
  rfl

/-! ### The values (R68 to R78) -/

/-- A restarted measurement unit, as the forming of the values finds it. -/
def State.restarted (s : State) : Measurement := { s.meas with regTimer := some s.now }

section

variable {s : State} (raw : Analog)

theorem State.formValues_of_channels (h : s.is .walk = false) :
    ∃ learn, ((s.restartRegulation raw).formValues raw).meas =
      ((s.restarted.convert s.prm raw learn).formSpeeds s.prm.speedK).formPositions s.prm s.ownRole := by
  have hwalk : (s.restartRegulation raw).is .walk = false := h
  refine ⟨(s.restartRegulation raw).meas.quiet && (s.restartRegulation raw).quietNow, ?_⟩
  unfold State.formValues
  rw [hwalk]
  rfl

theorem State.formValues_of_walk (h : s.is .walk = true) : ((s.restartRegulation raw).formValues raw).meas =
    (s.restarted.formSpeeds s.prm.speedK).formPositions s.prm s.ownRole := by
  have hwalk : (s.restartRegulation raw).is .walk = true := h
  unfold State.formValues
  rw [hwalk]
  rfl

end

@[simp] theorem Measurement.formPositions_keeps (m : Measurement) (p : Params) (role : Option Role) :
    (m.formPositions p role).regTimer = m.regTimer ∧ (m.formPositions p role).master = m.master
      ∧ (m.formPositions p role).armV = m.armV ∧ (m.formPositions p role).current = m.current
      ∧ (m.formPositions p role).tension = m.tension ∧ (m.formPositions p role).voltageSpeed = m.voltageSpeed
      ∧ (m.formPositions p role).fieldCurrent = m.fieldCurrent := by
  unfold Measurement.formPositions
  split <;> simp

theorem sat12_eq (x : Int) : sat12 x = max (-2048) (min 2047 x) := clamp_eq_max_min _ _ _ (by decide)

theorem scaled_eq (x : Int) (scale : Nat) {limit : Int} (h : 0 ≤ limit) :
    scaled x scale limit = max (-limit) (min limit ((x * scale).tdiv 1024)) :=
  clamp_eq_max_min _ _ _ (by omega)

theorem payoutOf_eq (p : Params) (count : Word16) : (payoutOf p count : Int) =
    max 0 (min 65535 ((p.homePayout : Int) + (count.toInt * 100).tdiv p.countsPerM)) := by
  unfold payoutOf
  rw [Int.toNat_of_nonneg (le_clamp _ _ _ (by decide)), clamp_eq_max_min _ _ _ (by decide)]

theorem PulseTimer.speed_eq (t : PulseTimer) (speedK : Nat) : t.speed speedK =
    match t.held with
    | none => 0
    | some h =>
      if t.count = 65535 then 0
      else (if t.forward then 1 else -1) * (min 1500 (speedK / max h t.count) : Nat) := by
  unfold PulseTimer.speed
  cases t.held with
  | none => rfl
  | some h => cases t.forward <;> simp

/-- Settles O39: the channels, the walk station without them, and payout and motor speed. -/
theorem measuredValues : Obligations.MeasuredValues := by
  unfold Obligations.MeasuredValues
  refine ⟨fun s raw a hload ht hd hwalk => ⟨_, rfl, ?_⟩, fun s raw a hload ht hd hwalk => ⟨_, rfl, ?_⟩,
    fun s raw a hload ht hd hrole => ⟨_, rfl, ?_⟩⟩
  all_goals
    obtain ⟨raised, excess, recovery, quiet, hmeas⟩ :=
      State.regulationExpiry_meas (State.regulationDue_of_ran hload ht hd) raw
  · obtain ⟨learn, hvalues⟩ := State.formValues_of_channels raw hwalk
    rw [hmeas, hvalues]
    simp only [Measurement.formPositions_keeps, Measurement.formSpeeds, Measurement.convert, lessPedestal, sat12_eq]
    exact ⟨rfl, trivial, trivial, scaled_eq _ _ (by decide), scaled_eq _ _ (by decide), scaled_eq _ _ (by decide),
      trivial⟩
  · have hrole : s.ownRole = some .walk := State.ownRole_of_is hwalk
    rw [hmeas, State.formValues_of_walk raw hwalk, hrole]
    exact ⟨rfl, rfl, rfl, rfl, rfl, rfl, rfl⟩
  · have hwalk : s.is .walk = false := by
      rcases hrole with h | h <;> rw [State.is_of_is h] <;> rfl
    obtain ⟨learn, hvalues⟩ := State.formValues_of_channels raw hwalk
    rw [hmeas, hvalues]
    rcases hrole with h | h <;> rw [State.ownRole_of_is h] <;>
      exact ⟨payoutOf_eq _ _, rfl, rfl, (PulseTimer.speed_eq _ _).trans rfl⟩

end Sys2Proof.Machine
end

section
/-!
PROOFS. The tick of an empty queue: contacts, SUPPLY_OK filter and the commands that fall due; O2.
-/

set_option Elab.async false

namespace Sys2Proof.Machine

/-! ### One sample of a contact (R79) -/

theorem Debounced.sample_eq (d : Debounced) (pin : Bool) : d.sample pin = d.sampled pin := by
  unfold Debounced.sample Debounced.sampled debounceSteps
  split
  · rfl
  · split
    · rw [if_neg (by omega)]
    · rw [if_pos (by omega)]

theorem Debounced.sampleRise_eq (d : Debounced) (pin : Bool) : d.sampleRise pin = d.sampledRise pin := by
  obtain ⟨value, run⟩ := d
  cases pin with
  | true => exact (Debounced.sample_eq _ _).trans (if_neg fun h => Bool.false_ne_true h.1.symm).symm
  | false =>
    cases value with
    | false => simp [Debounced.sampleRise, Debounced.sampleFree, Debounced.sampleOver, Debounced.sampledRise,
        Debounced.sampled]
    | true =>
      by_cases hlast : 15 ≤ run
      · simp [Debounced.sampleRise, Debounced.sampleFree, Debounced.sampleOver, Debounced.sampledRise, debounceSteps,
          Debounced.settled, hlast]
      · simp [Debounced.sampleRise, Debounced.sampleFree, Debounced.sampleOver, Debounced.sampledRise, debounceSteps,
          Debounced.sampled, hlast, Nat.lt_of_not_le hlast]

/-! ### The SUPPLY_OK filter (R80) -/

namespace Debounced

theorem filter_cons (d : Debounced) (x : Bool) (l : List Bool) :
    d.filter (x :: l) = (sampleOver filterSteps d x).filter l := rfl

/-- Too few samples for eight in a row turn nothing. -/
theorem filter_value_of_short {d : Debounced} {l : List Bool} (h : d.run + l.length < 8) :
    (d.filter l).value = d.value := by
  induction l generalizing d with
  | nil => rfl
  | cons x l ih =>
    rw [List.length_cons] at h
    rw [filter_cons]
    by_cases hx : x = d.value
    · subst hx
      rw [sampleOver_same]
      exact ih (by simp only; omega)
    · rw [sampleOver_differs _ _ _ hx (by simp only [filterSteps]; omega)]
      exact ih (by simp only; omega)

theorem filter_value_of_steady (d : Debounced) (n : Nat) : (d.filter (List.replicate n d.value)).value = d.value := by
  cases n with
  | zero => rfl
  | succ n => rw [filter_steady]

/-- Up to eight samples turn the filter exactly if one of them is the eighth in a row that differs, and then all before
it differ too: after a sample at the value, or after a turn, fewer than eight are left. -/
theorem filter_turns_iff {d : Debounced} {l : List Bool} (h : l.length ≤ 8) :
    (d.filter l).value ≠ d.value ↔ ∃ j < l.length, 7 ≤ d.run + j ∧ ∀ i ≤ j, l[i]? ≠ some d.value := by
  induction l generalizing d with
  | nil => simp [filter]
  | cons x l ih =>
    rw [List.length_cons] at h ⊢
    rw [filter_cons]
    by_cases hx : x = d.value
    · subst hx
      rw [sampleOver_same, filter_value_of_short (d := { d with run := 0 }) (by simp only; omega)]
      refine ⟨fun hne => absurd rfl hne, fun ⟨j, _, _, hall⟩ => absurd rfl (hall 0 (Nat.zero_le j))⟩
    · by_cases hlast : 7 ≤ d.run
      · rw [sampleOver_turns _ _ _ hx (by simp only [filterSteps]; omega),
          filter_value_of_short (d := ⟨x, 0⟩) (by simp only; omega)]
        refine ⟨fun _ => ⟨0, by omega, hlast, fun i hi => ?_⟩, fun _ => hx⟩
        rw [Nat.le_zero.mp hi]
        simpa using hx
      · rw [sampleOver_differs _ _ _ hx (by simp only [filterSteps]; omega), ih (by omega)]
        constructor
        · rintro ⟨j, hj, hrun, hall⟩
          refine ⟨j + 1, by omega, by simp only at hrun; omega, fun i hi => ?_⟩
          cases i with
          | zero => simpa using hx
          | succ i => exact hall i (by omega)
        · rintro ⟨j, hj, hrun, hall⟩
          cases j with
          | zero => omega
          | succ j => exact ⟨j, by omega, by simp only; omega, fun i hi => hall (i + 1) (by omega)⟩

/-- After the last sample at the value that the filter leaves, the run count is the number of samples that followed. -/
theorem filter_run {d : Debounced} {before after : List Bool} {x : Bool} (hlen : after.length < 8)
    (hx : x = (d.filter (before ++ x :: after)).value) (hafter : ∀ y ∈ after, y ≠ x) :
    (d.filter (before ++ x :: after)).run = after.length := by
  have hrep : after = List.replicate after.length (!x) :=
    List.eq_replicate_of_mem fun y hy => Bool.eq_not_of_ne (hafter y hy)
  rw [filter_append, filter_cons] at hx ⊢
  generalize hd : d.filter before = e at hx ⊢
  have hturned (hval : (sampleOver filterSteps e x).value = x) (hzero : (sampleOver filterSteps e x).run = 0) :
      ((sampleOver filterSteps e x).filter after).run = after.length := by
    rw [hrep, filter_dip _ _ _ (by rw [hval]; exact Bool.not_ne_self x) (by rw [hzero]; omega), hzero]
    simp
  by_cases hsame : x = e.value
  · subst hsame
    rw [sampleOver_same] at hturned ⊢
    exact hturned rfl rfl
  · by_cases hlast : filterSteps ≤ e.run + 1
    · rw [sampleOver_turns _ _ _ hsame hlast] at hturned ⊢
      exact hturned rfl rfl
    · rw [sampleOver_differs _ _ _ hsame (by omega)] at hx
      have hsteady : after = List.replicate after.length e.value := by
        rw [Bool.eq_not_of_ne hsame, Bool.not_not] at hrep
        exact hrep
      rw [hsteady] at hx
      exact absurd (hx.trans (filter_value_of_steady { e with run := e.run + 1 } _)) hsame

end Debounced

theorem Pins.supplyLevels_eq (p : Pins) : p.supplyLevels = (List.range 8).map p.supplyAt := rfl

theorem State.supplyFilter_turns_iff (s : State) :
    (s.meas.supplyOk.filter s.pins.supplyLevels).value ≠ s.meas.supplyOk.value ↔ s.supplyTurns = true := by
  rw [Debounced.filter_turns_iff (by simp [Pins.supplyLevels_eq])]
  simp only [State.supplyTurns, List.any_eq_true, List.mem_range, Bool.and_eq_true, decide_eq_true_eq,
    List.all_eq_true, bne_iff_ne, Pins.supplyLevels_eq, List.length_map, List.length_range]
  refine exists_congr fun j => and_congr_right fun hj => and_congr_right fun _ => forall_congr' fun i => ?_
  rw [Nat.lt_succ_iff]
  refine imp_congr_right fun hi => ?_
  simp [List.getElem?_range (show i < 8 by omega)]

theorem State.supplyFilter_value (s : State) : (s.meas.supplyOk.filter s.pins.supplyLevels).value =
    (s.meas.supplyOk.value != s.supplyTurns) := by
  have hiff := s.supplyFilter_turns_iff
  revert hiff
  generalize (s.meas.supplyOk.filter s.pins.supplyLevels).value = v
  generalize s.meas.supplyOk.value = v₀
  cases v <;> cases v₀ <;> cases s.supplyTurns <;> simp

theorem State.supplyFilter_run (s : State) {k : Nat} (hk : k < 8)
    (hat : s.pins.supplyAt k = (s.meas.supplyOk.filter s.pins.supplyLevels).value)
    (hafter : ∀ j < 8, k < j → s.pins.supplyAt j ≠ (s.meas.supplyOk.filter s.pins.supplyLevels).value) :
    (s.meas.supplyOk.filter s.pins.supplyLevels).run = 7 - k := by
  have hsplit : s.pins.supplyLevels = (List.range k).map s.pins.supplyAt
      ++ s.pins.supplyAt k :: (List.range' (k + 1) (7 - k)).map s.pins.supplyAt := by
    have hrange : List.range 8 = List.range k ++ k :: List.range' (k + 1) (7 - k) := by
      have happend := List.range'_append_1 (s := 0) (m := k) (n := 7 - k + 1)
      rw [Nat.zero_add, show k + (7 - k + 1) = 8 by omega] at happend
      rw [List.range_eq_range', List.range_eq_range', ← List.range'_succ, happend]
    rw [Pins.supplyLevels_eq, hrange]
    simp
  rw [hsplit] at hat hafter ⊢
  rw [Debounced.filter_run (by simp; omega) hat]
  · simp
  · intro y hy
    obtain ⟨j, hj, rfl⟩ := List.mem_map.mp hy
    rw [List.mem_range'_1] at hj
    rw [hat]
    exact hafter j (by omega) (by omega)

/-! ### The commands that fall due -/

@[simp] theorem mem_dueIf {b : Bool} {c d : Instr} : c ∈ dueIf b d ↔ b = true ∧ c = d := by
  cases b <;> simp [dueIf]

/-- The sixteenth differing sample in a row, by the level that it finds (R79). -/
theorem Debounced.turns_eq (d : Debounced) (pin level : Bool) :
    d.turns pin level = (pin == level && d.edges pin) := by
  obtain ⟨value, run⟩ := d
  have hcount : decide (15 ≤ run) = decide (16 ≤ run + 1) := decide_eq_decide.mpr (by omega)
  cases pin <;> cases level <;> cases value <;> simp [Debounced.turns, Debounced.edges, debounceSteps, hcount]

/-- A contact whose two edges are commands hands over the one that it finds. -/
theorem mem_edgeOf {d : Debounced} {pin : Bool} {c rise fall : Instr} : c ∈ edgeOf d pin rise fall ↔
    (d.turns pin true = true ∧ c = rise) ∨ (d.turns pin false = true ∧ c = fall) := by
  rw [edgeOf, mem_dueIf, Debounced.turns_eq, Debounced.turns_eq]
  cases pin <;> simp

/-- A contact whose rise alone is a command. -/
theorem Debounced.rises_eq (d : Debounced) (pin : Bool) : (pin && d.edges pin) = d.turns pin true := by
  rw [Debounced.turns_eq]
  cases pin <;> rfl

theorem State.mem_dueSupply (s : State) (c : Instr) :
    c ∈ dueIf ((s.meas.supplyOk.filter s.pins.supplyLevels).value != s.meas.supplyOk.value)
        (if s.meas.supplyOk.value then .supplyOkFall else .supplyOkRise) ↔
      (s.supplyTurns && !s.meas.supplyOk.value) = true ∧ c = .supplyOkRise
      ∨ (s.supplyTurns && s.meas.supplyOk.value) = true ∧ c = .supplyOkFall := by
  rw [mem_dueIf, s.supplyFilter_value]
  cases s.meas.supplyOk.value <;> cases s.supplyTurns <;> simp

theorem mem_allStations (n : Station) : n ∈ allStations := by
  revert n
  decide

theorem State.mem_dueAges (s : State) (c : Instr) : c ∈ s.dueAges ↔
    (∃ n, s.staleDue n = true ∧ c = .entryGoesStale n) ∨ ∃ n, s.absentDue n = true ∧ c = .entryGoesAbsent n := by
  simp [State.dueAges, mem_allStations]

theorem State.mem_dueKeeps (s : State) (c : Instr) : c ∈ s.dueKeeps ↔
    ∃ i : Fin 8, ((s.capture.block i.val).state == .awaitKeep
      && s.ran (s.capture.block i.val).keepDeadline s.prm.keepWindow) = true ∧ c = .keepDeadlineExpiry i := by
  simp only [State.dueKeeps, List.mem_flatMap, List.mem_finRange, true_and, mem_dueIf]

/-- The commands that a tick hands over are those that fall due. -/
theorem State.mem_due_iff (s : State) (c : Instr) : c ∈ s.due ↔ s.fallsDue c = true := by
  simp only [State.due, State.dueEdges, State.dueTimers, State.dueExpiries, List.mem_append, s.mem_dueSupply,
    s.mem_dueAges, s.mem_dueKeeps, mem_edgeOf, Debounced.rises_eq, mem_dueIf]
  cases c with
  | brakeFbEdge level => simp [State.fallsDue, Debounced.turns_eq, and_comm, eq_comm (a := level)]
  | entryGoesStale n => simp [State.fallsDue, State.staleDue]
  | entryGoesAbsent n => simp [State.fallsDue, State.absentDue]
  | keepDeadlineExpiry i => simp [State.fallsDue]
  | regulationIntervalExpiry raw => simp [State.fallsDue, State.regulationDue, and_assoc, and_comm]
  | _ => simp only [State.fallsDue, reduceCtorEq, and_false, or_false, false_or, exists_false, and_true,
      Bool.false_eq_true, State.listenDue, State.reportDue, State.unconfiguredReportDue, State.quietOutTime,
      clashReturnTime, walkStopTime, supplyLimitTime, supplyTime]

/-! ### The tick -/

theorem State.step_of_idle {s t : State} (h : s.pending = []) (ht : step s = .next t) : t = s.tick := by
  unfold step at ht
  rw [h] at ht
  exact (Host.Outcome.next.inj ht).symm

/-- Settles O2: the sampled contacts, the filter, the period timers, and the commands that join the queue. -/
theorem idleTick : Obligations.IdleTick := by
  unfold Obligations.IdleTick
  intro s t hidle hstep
  obtain rfl := State.step_of_idle hidle hstep
  refine ⟨rfl, ?_, s.supplyFilter_value, fun k hk hat hafter => s.supplyFilter_run hk hat hafter,
    fun c => State.mem_due_iff { s with now := s.now + 1 } c⟩
  simp only [← Debounced.sample_eq, ← Debounced.sampleRise_eq]
  rfl

end Sys2Proof.Machine
end

section
/-!
PROOFS. `Confines`: what keeps the drive regulator within its ranges and the heat levels together.
-/

set_option Elab.async false

namespace Sys2Proof.Machine

/-- From `s` to `t` reference, target, duty and field outputs stay sound (R85, R88, R95), and so do the heat levels
(R143). -/
structure Confines (s t : State) : Prop where
  drive : s.DriveSound → t.DriveSound
  levels : s.LevelsSound → t.LevelsSound

theorem State.DriveSound.congr {s t : State} (h : s.DriveSound)
    (hd : (t.drive.reference, t.drive.target, t.drive.duty) = (s.drive.reference, s.drive.target, s.drive.duty))
    (ho : t.out.lines = s.out.lines) : t.DriveSound := by
  simp only [Outputs.lines, Prod.mk.injEq] at hd ho
  obtain ⟨hr, ht, hduty⟩ := hd
  obtain ⟨hpwm, hdir, -⟩ := ho
  unfold State.DriveSound
  rw [hr, ht, hduty, hpwm, hdir]
  exact h

theorem State.LevelsSound.congr {s t : State} (h : s.LevelsSound)
    (hh : (t.heat.level, t.heat.forced, t.heat.effective) = (s.heat.level, s.heat.forced, s.heat.effective)) :
    t.LevelsSound := by
  simp only [Prod.mk.injEq] at hh
  obtain ⟨hlevel, hforced, heffective⟩ := hh
  unfold State.LevelsSound
  rw [hlevel, hforced, heffective]
  exact h

namespace Confines

variable {s t u : State}

theorem refl (s : State) : Confines s s := ⟨id, id⟩

theorem trans (h : Confines s t) (h' : Confines t u) : Confines s u :=
  ⟨h'.drive ∘ h.drive, h'.levels ∘ h.levels⟩

/-- What leaves regulator, driving lines and heat monitor. -/
theorem kept (hd : t.drive = s.drive := by simp) (ho : t.out.lines = s.out.lines := by simp)
    (hh : t.heat = s.heat := by simp) : Confines s t :=
  ⟨fun h => h.congr (by rw [hd]) ho, fun h => h.congr (by rw [hh])⟩

/-- Both branches confine. -/
theorem ite {c : Prop} [Decidable c] (ht : c → Confines s t) (hu : ¬c → Confines s u) :
    Confines s (if c then t else u) := by
  split
  · next h => exact ht h
  · next h => exact hu h

theorem guarded {c : Prop} [Decidable c] (ht : c → Confines s t) : Confines s (if c then t else s) :=
  .ite ht fun _ => .refl s

theorem foldl {α : Type} {f : State → α → State} (hf : ∀ s x, Confines s (f s x)) (l : List α) (s : State) :
    Confines s (l.foldl f s) := by
  induction l generalizing s with
  | nil => exact .refl s
  | cons x l ih => exact (hf s x).trans (ih _)

end Confines

/-! ### The block updates -/

/-- The regulator changes beside reference, target and duty. -/
theorem State.modDrive_confines (s : State) (f : DriveRegulator → DriveRegulator)
    (h : ((f s.drive).reference, (f s.drive).target, (f s.drive).duty)
      = (s.drive.reference, s.drive.target, s.drive.duty) := by rfl) : Confines s (s.modDrive f) :=
  ⟨fun hs => hs.congr h rfl, id⟩

/-- The heat monitor changes beside its levels. -/
theorem State.modHeat_confines (s : State) (f : HeatMonitor → HeatMonitor)
    (h : ((f s.heat).level, (f s.heat).forced, (f s.heat).effective)
      = (s.heat.level, s.heat.forced, s.heat.effective) := by rfl) : Confines s (s.modHeat f) :=
  ⟨id, fun hs => hs.congr h⟩

theorem State.setBrake_confines (s : State) (b : Bool) : Confines s (s.setBrake b) := ⟨id, id⟩

theorem State.setTransfer_confines (s : State) (b : Bool) : Confines s (s.setTransfer b) := ⟨id, id⟩

/-- A duty within its range, put out (R95). -/
theorem State.setDuty_driveSound {s : State} {d : Int} (hr : s.drive.reference.natAbs ≤ 256000)
    (ht : s.drive.target.natAbs ≤ 1000) (hd : d.natAbs ≤ 1000) : (s.setDuty d).DriveSound := by
  refine ⟨hr, ht, hd, rfl, fun (hpos : 0 < d) => if_pos hpos, fun (hneg : d < 0) => ?_⟩
  exact (if_neg (by omega)).trans (if_pos hneg)

theorem State.clearReference_confines (s : State) : Confines s s.clearReference :=
  ⟨fun ⟨_, ht, _⟩ => State.setDuty_driveSound (Nat.zero_le _) ht (Nat.zero_le _), id⟩

/-- The target is cleared. -/
theorem State.clearTarget_confines (s : State) (f : DriveRegulator → DriveRegulator)
    (h : ((f s.drive).reference, (f s.drive).target, (f s.drive).duty) = (s.drive.reference, 0, s.drive.duty)
      := by rfl) : Confines s (s.modDrive f) := by
  simp only [Prod.mk.injEq] at h
  obtain ⟨hr, ht, hduty⟩ := h
  refine ⟨fun hs => ?_, id⟩
  unfold State.DriveSound at *
  obtain ⟨href, -, hrest⟩ := hs
  simp only [State.modDrive_drive, State.modDrive_out, hr, ht, hduty]
  exact ⟨href, by decide, hrest⟩

end Sys2Proof.Machine
end

section
/-!
PROOFS. `Confines`: alarms, capture store, swing, walk, supply and the consent engine.
-/

set_option Elab.async false

namespace Sys2Proof.Machine

/-! ### Alarms and the capture store -/

theorem State.returnAlarm_confines (s : State) (c : AlarmCode) : Confines s (s.returnAlarm c) := .kept

theorem State.raiseWarn_confines (s : State) (c : AlarmCode) (v : Int) : Confines s (s.raiseWarn c v) := .kept

theorem State.removeCause_confines (s : State) (c : HoldCause) : Confines s (s.removeCause c) := .kept

theorem State.settleTrips_confines (s : State) : Confines s s.settleTrips := .kept

theorem State.armAndNotice_confines (s : State) (c : AlarmCode) (v : Int) (m : Mode) :
    Confines s (s.armAndNotice c v m) :=
  .kept

theorem State.modCapture_confines (s : State) (f : CaptureStore → CaptureStore) : Confines s (s.modCapture f) :=
  .kept

theorem State.modRole_confines (s : State) (f : RoleLogic → RoleLogic) : Confines s (s.modRole f) := .kept

theorem State.modPeers_confines (s : State) (f : PeerTable → PeerTable) : Confines s (s.modPeers f) := .kept

theorem State.removePropose_confines (s : State) (n : Byte) : Confines s (s.removePropose n) := .kept

theorem State.acknowledge_confines (s : State) : Confines s s.acknowledge :=
  (Confines.foldl (fun u c => .kept (t := u.ackCode c)) allCodes s).trans (State.settleTrips_confines _)

theorem State.becomeKept_confines (s : State) (i : Nat) : Confines s (s.becomeKept i) :=
  .ite (fun _ => .kept) fun _ => .kept

theorem State.keepById_confines (s : State) (id : ArmId) : Confines s (s.keepById id) :=
  Confines.trans .kept (.foldl State.becomeKept_confines _ (s.modCapture _))

theorem State.takeKeepNotice_confines (s : State) (id : ArmId) : Confines s (s.takeKeepNotice id) :=
  .ite (fun _ => .kept) fun _ => s.keepById_confines id

theorem State.settleDecision_confines (s : State) (d : Decision) : Confines s (s.settleDecision d) := by
  unfold State.settleDecision
  split
  · exact .refl s
  · dsimp only
    split
    · exact Confines.trans .kept (State.keepById_confines _ _)
    · exact .kept

theorem State.decideDue_confines (s : State) : Confines s s.decideDue :=
  Confines.trans .kept (.foldl State.settleDecision_confines _ (s.modCapture _))

theorem State.settlePost_confines (s : State) (i : Nat) : Confines s (s.settlePost i) := by
  unfold State.settlePost
  refine .ite (fun _ => ?_) fun _ => .ite (fun _ => .kept) fun _ => .kept
  dsimp only
  split
  · exact (s.becomeKept_confines i).trans .kept
  · exact s.becomeKept_confines i

theorem State.endPost_confines (s : State) : Confines s s.endPost := by
  unfold State.endPost
  split
  · split
    · exact (s.settlePost_confines _).trans (State.modCapture_confines _ _)
    · exact .refl s
  · exact .refl s

theorem State.releaseHead_confines (s : State) : Confines s s.releaseHead := by
  unfold State.releaseHead
  split
  · exact .refl s
  · dsimp only
    split <;> exact .kept

/-! ### Moves that several events share -/

theorem State.withdrawPermission_confines (s : State) : Confines s s.withdrawPermission :=
  .ite (fun _ => .refl s) fun _ =>
    ((s.setBrake_confines true).trans (State.clearReference_confines _)).trans (State.modDrive_confines _ _)

theorem State.clearProposal_confines (s : State) : Confines s s.clearProposal := by
  have hclear : Confines s
      (if (s.modOwn fun o => { o with status := .idle }).swingLead then
        (s.modOwn fun o => { o with status := .idle }).withdrawPermission
      else s.modOwn fun o => { o with status := .idle }) :=
    Confines.trans .kept (.guarded fun _ => State.withdrawPermission_confines _)
  unfold State.clearProposal
  split
  · exact hclear
  · exact hclear
  all_goals exact .refl s

theorem State.stopSwing_confines (s : State) : Confines s s.stopSwing := by
  refine .guarded fun _ => ?_
  split
  · exact Confines.trans .kept s.lockSwing.clearProposal_confines
  · exact Confines.trans .kept s.lockSwing.raiseWithdrawn.clearProposal_confines
  all_goals exact .refl s

theorem State.withdrawSwing_confines (s : State) (x : Station × Reason) : Confines s (s.withdrawSwing x) :=
  .guarded fun _ => .kept

theorem State.stopWalk_confines (s : State) : Confines s s.stopWalk := by
  unfold State.stopWalk
  split
  · exact .kept
  · exact Confines.trans .kept (s.enterWalk .idle).clearProposal_confines
  all_goals exact .refl s

theorem State.abortWalk_confines (s : State) (v : Int) : Confines s (s.abortWalk v) :=
  .ite (fun _ => s.stopWalk_confines.trans .kept) fun _ => s.stopWalk_confines

theorem State.supplyNormal_confines (s : State) : Confines s s.supplyNormal :=
  (s.modRole_confines _).trans (State.returnAlarm_confines _ _)

theorem State.openTransfer_confines (s : State) : Confines s s.openTransfer :=
  ((s.setTransfer_confines false).trans .kept).trans (.guarded fun _ => State.supplyNormal_confines _)

theorem State.endSupply_confines (s : State) : Confines s s.endSupply := by
  have hend : Confines s (((s.clearReference).modRole fun r =>
      { r with supply := .returning, transferLimit := none }).openTransfer) :=
    (s.clearReference_confines.trans .kept).trans (State.openTransfer_confines _)
  unfold State.endSupply
  split
  · exact hend
  · exact hend
  all_goals exact .refl s

theorem State.returnSupply_confines (s : State) : Confines s s.returnSupply :=
  Confines.trans (t := s.modRole _) .kept (.guarded fun _ => State.openTransfer_confines _)

/-! ### The consent engine -/

theorem State.cancelProposal_confines (s : State) (x : CancelOutcome) : Confines s (s.cancelProposal x) := by
  unfold State.cancelProposal
  dsimp only
  split <;> exact .kept

theorem State.newProposal_confines (s : State) (k : ProposalKind) : Confines s (s.newProposal k) :=
  .kept (by simp [State.newProposal]) (by simp [State.newProposal]) (by simp [State.newProposal])

theorem State.requestProposal_confines (s : State) (k : ProposalKind) : Confines s (s.requestProposal k) := by
  rw [State.requestProposal_eq]
  refine .ite (fun _ => .refl s) fun _ => (s.newProposal_confines k).trans ?_
  split
  · exact .ite (fun _ => State.cancelProposal_confines _ _) fun _ => .kept
  · exact .kept

theorem State.expireSendLimit_confines (s : State) : Confines s s.expireSendLimit :=
  .guarded fun _ => (s.cancelProposal_confines _).trans (State.removePropose_confines _ _)

theorem State.holdNew_confines (s : State) (q : Station) (n : Byte) (k : ProposalKind) :
    Confines s (s.holdNew q n k) :=
  .kept

theorem State.settlePropose_confines (s : State) (q : Station) (n : Byte) (k : ProposalKind) :
    Confines s (s.settlePropose q n k) := by
  unfold State.settlePropose
  split
  · exact .kept
  · exact .guarded fun _ => ((s.cancelProposal_confines _).trans (State.removePropose_confines _ _)).trans
      (State.holdNew_confines _ _ _ _)
  · exact .refl s

theorem State.takePropose_confines (s : State) (q : Station) (n : Byte) (k : ProposalKind) :
    Confines s (s.takePropose q n k) :=
  .ite (fun _ => (s.settlePropose_confines q n k).trans .kept) fun _ => .guarded fun _ => .kept

theorem State.takeCurrentObject_confines (s : State) (x : Station × Reason) :
    Confines s (s.takeCurrentObject x) := by
  unfold State.takeCurrentObject
  split
  · exact .kept
  · split
    · exact s.abortWalk_confines _
    all_goals exact Confines.trans .kept (State.withdrawSwing_confines (s.modOwn _) x)
  all_goals exact .refl s

theorem State.takeObject_confines (s : State) (src q : Station) (n : Byte) (r : Reason) :
    Confines s (s.takeObject src q n r) :=
  .ite (fun _ => .refl s) fun _ => .ite (fun _ => s.takeCurrentObject_confines _) fun _ => .kept

theorem State.expireWindow_confines (s : State) : Confines s s.expireWindow := by
  rcases s.expireWindow_cases with h | ⟨-, k, -, ⟨x, -, h⟩ | ⟨-, h⟩⟩
  · rw [h]
    exact .refl s
  · rw [h]
    exact s.cancelProposal_confines x
  · rw [h]
    exact .kept (by simp [State.committed]) (by simp [State.committed]) (by simp [State.committed])

end Sys2Proof.Machine
end

section
/-!
PROOFS. `Confines`: HOLD, TRIP and STOP, and the peer table.
-/

set_option Elab.async false

namespace Sys2Proof.Machine

/-! ### HOLD, TRIP and STOP -/

theorem State.dropToHold_confines (s : State) : Confines s s.dropToHold := ⟨id, id⟩

theorem State.halted_confines (s : State) : Confines s s.halted := ⟨id, id⟩

/-- HOLD clears the target of a station that does not serve as walk supply (R10). -/
theorem State.enterHold_confines (s : State) : Confines s s.enterHold :=
  (s.dropToHold_confines.trans (.guarded fun _ => State.clearTarget_confines _ _)).trans
    (.guarded fun _ => State.stopWalk_confines _)

theorem State.addCause_confines (s : State) (c : HoldCause) : Confines s (s.addCause c) :=
  .ite (fun _ => .refl s) fun _ => .ite (fun _ => Confines.trans .kept (s.putCause c true).enterHold_confines)
    fun _ => .kept

theorem State.addLocalTrip_confines (s : State) : Confines s s.addLocalTrip :=
  .ite (fun _ => .refl s) fun _ => (s.addCause_confines _).trans (State.endSupply_confines _)

theorem State.raiseTrip_confines (s : State) (c : AlarmCode) (v : Int) : Confines s (s.raiseTrip c v) :=
  .ite (fun _ => .refl s) fun _ =>
    (Confines.trans (t := s.latch c v) .kept (.guarded fun _ => State.addLocalTrip_confines _)).trans
      (State.armAndNotice_confines _ _ _ _)

theorem State.enterForced_confines (s : State) (c : ForcedCause) : Confines s (s.enterForced c) :=
  Confines.trans (t := s.braked c) ⟨id, id⟩ (State.raiseTrip_confines _ _ _)

theorem State.forceWalk_confines (s : State) (c : ForcedCause) : Confines s (s.forceWalk c) := by
  unfold State.forceWalk
  split
  · exact s.enterForced_confines c
  · exact s.enterForced_confines c
  · exact .guarded fun _ => s.enterForced_confines c
  · exact .guarded fun _ => s.enterForced_confines c
  · exact .kept
  all_goals exact .refl s

theorem State.clearForced_confines (s : State) (c : ForcedCause) : Confines s (s.clearForced c) :=
  .ite (fun _ => .refl s) fun _ => .ite (fun _ => .kept) fun _ => .kept

theorem State.stopSupply_confines (s : State) : Confines s s.stopSupply := by
  unfold State.stopSupply
  split
  · exact s.endSupply_confines
  · exact s.endSupply_confines
  · exact .guarded fun _ => s.clearReference_confines.trans (State.openTransfer_confines _)
  · exact .refl s

theorem State.makeSafe_confines (s : State) : Confines s s.makeSafe :=
  ((s.clearReference_confines.trans (State.setBrake_confines _ true)).trans
    (State.setTransfer_confines _ false)).trans (State.clearTarget_confines _ _)

theorem State.startReporting_confines (s : State) (m : Mode) : Confines s (s.startReporting m) := by
  unfold State.startReporting
  split
  · exact .kept
  · exact .guarded fun _ => .kept
  all_goals exact .refl s

theorem State.enterStop_confines (s : State) : Confines s s.enterStop :=
  .ite (fun _ => .refl s) fun _ =>
    (((s.halted_confines.trans (State.stopSupply_confines _)).trans
      (State.makeSafe_confines _)).trans (State.stopSwing_confines _)).trans (State.forceWalk_confines _ _) |>.trans
      (State.startReporting_confines _ _)

theorem State.raiseStop_confines (s : State) (c : AlarmCode) (v : Int) : Confines s (s.raiseStop c v) :=
  .ite (fun _ => .refl s) fun _ => (Confines.trans .kept (s.latch c v).enterStop_confines).trans .kept

/-! ### The peer table -/

theorem State.findConflict_confines (s : State) (n : Station) : Confines s (s.findConflict n) :=
  .guarded fun _ => (Confines.trans .kept (State.raiseTrip_confines (s.modPeers _) _ _)).trans
    (State.addCause_confines _ _)

theorem State.endConflict_confines (s : State) : Confines s s.endConflict := .guarded fun _ => .kept

theorem State.addPeerStop_confines (s : State) (b : Bool) : Confines s (s.addPeerStop b) :=
  .guarded fun _ => s.addCause_confines _

theorem State.removePeerStop_confines (s : State) (b : Bool) : Confines s (s.removePeerStop b) :=
  .guarded fun _ => .kept

theorem State.returnMismatch_confines (s : State) (b : Bool) : Confines s (s.returnMismatch b) :=
  .guarded fun _ => .kept

theorem State.completePicture_confines (s : State) : Confines s s.completePicture :=
  .ite (fun _ => .refl s) fun _ => .kept

theorem State.endReturning_confines (s : State) : Confines s s.endReturning :=
  .guarded fun _ => Confines.trans .kept (s.enterWalk .idle).clearProposal_confines

theorem State.stepWalk_confines (s : State) : Confines s s.stepWalk := ⟨id, id⟩

theorem State.walkTakesDrag_confines (s : State) (n : Station) : Confines s (s.walkTakesDrag n) := by
  have hforced : Confines s
      (if (if (s.entry n).shows .walkSupply then s else s.forceWalk .supply).allSupplying then
        (if (s.entry n).shows .walkSupply then s else s.forceWalk .supply).clearForced .supply
      else if (s.entry n).shows .walkSupply then s else s.forceWalk .supply) :=
    (Confines.ite (fun _ => .refl s) fun _ => s.forceWalk_confines _).trans
      (.guarded fun _ => State.clearForced_confines _ _)
  unfold State.walkTakesDrag
  split
  · exact .guarded fun _ => s.stepWalk_confines
  · exact hforced
  · exact hforced
  · exact hforced
  · exact s.endReturning_confines
  all_goals exact .refl s

theorem State.dragTakesWalk_confines (s : State) (w : WalkState) : Confines s (s.dragTakesWalk w) := by
  unfold State.dragTakesWalk
  split
  · exact s.returnSupply_confines
  · exact s.returnSupply_confines
  · exact s.returnSupply_confines
  · exact s.returnSupply_confines
  · exact s.clearReference_confines
  · exact .refl s

theorem State.walkActive_confines (s : State) (w : WalkState) : Confines s (s.walkActive w) :=
  .ite (fun _ => s.addCause_confines _) fun _ => .kept

theorem State.dutiesTake_confines (s : State) (n : Station) (f : ReportFields) :
    Confines s (s.dutiesTake n f) :=
  (Confines.guarded fun _ => s.walkTakesDrag_confines n).trans
    (.guarded fun _ => (Confines.guarded fun _ => State.dragTakesWalk_confines _ _).trans
      (.guarded fun _ => State.walkActive_confines _ _))

theorem State.partnerTakes_confines (s : State) (n : Station) : Confines s (s.partnerTakes n) :=
  .ite (fun _ => .kept) fun _ => .guarded fun _ => (s.modDrive_confines _).trans (State.returnAlarm_confines _ _)

theorem State.raiseUnlisted_confines (s : State) (n : Station) (old : PeerEntry) :
    Confines s (s.raiseUnlisted n old) :=
  .guarded fun _ => .kept

theorem State.raiseMismatch_confines (s : State) (n : Station) (old : PeerEntry) :
    Confines s (s.raiseMismatch n old) :=
  .guarded fun _ => s.raiseTrip_confines _ _

/-- What a report brings to records and duties, and the marks of an aged entry that it returns. -/
theorem State.reportTaken_confines (s : State) (n : Station) (f : ReportFields) (b : Bool) :
    Confines s ((((s.noteEcho n f).updateHeld n f).dutiesTake n f).returnLost b).returnStale :=
  ((Confines.trans .kept (State.dutiesTake_confines ((s.noteEcho n f).updateHeld n f) n f)).trans
    (.guarded fun _ => State.returnAlarm_confines _ _)).trans
      (.guarded fun _ => (State.modPeers_confines _ _).trans (State.returnAlarm_confines _ _))

theorem State.acceptReport_confines (s : State) (n : Station) (seq : BitVec 4) (role : BitVec 3)
    (f : ReportFields) : Confines s (s.acceptReport n seq role f) :=
  ((((((((Confines.trans (t := s.modEntry n _) .kept (State.raiseUnlisted_confines _ _ _)).trans
    (State.raiseMismatch_confines _ _ _)).trans (State.findConflict_confines _ _)).trans
    (State.addPeerStop_confines _ _)).trans (State.reportTaken_confines _ _ _ _)).trans
    (State.returnMismatch_confines _ _)).trans (State.endConflict_confines _)).trans
    (State.removePeerStop_confines _ _)).trans (State.partnerTakes_confines _ _) |>.trans
    (State.completePicture_confines _)

theorem State.takeReport_confines (s : State) (n : Station) (l : List Byte) :
    Confines s (s.takeReport n l) :=
  .ite (fun _ => .refl s) fun _ => .ite (fun _ => .kept) fun _ =>
    .ite (fun _ => .kept) fun _ => s.acceptReport_confines n _ _ _

theorem State.partnerStale_confines (s : State) (n : Station) : Confines s (s.partnerStale n) :=
  .guarded fun _ => (s.modDrive_confines _).trans (State.raiseWarn_confines _ _ _)

theorem State.walkDragStale_confines (s : State) (n : Station) : Confines s (s.walkDragStale n) :=
  .guarded fun _ => (s.abortWalk_confines _).trans (State.endReturning_confines _)

theorem State.goStale_confines (s : State) (n : Station) : Confines s (s.goStale n) :=
  ((((Confines.trans (t := s.modEntry n _) .kept (.guarded fun _ => .kept)).trans
    (State.findConflict_confines _ _)).trans (State.partnerStale_confines _ _)).trans
    (State.walkDragStale_confines _ _)).trans (State.endConflict_confines _)

theorem State.rosterLost_confines (s : State) (n : Station) : Confines s (s.rosterLost n) :=
  .guarded fun _ => (s.raiseTrip_confines _ _).trans (State.addCause_confines _ _)

theorem State.leadAbsent_confines (s : State) (n : Station) : Confines s (s.leadAbsent n) :=
  .guarded fun _ => s.addCause_confines _

theorem State.walkDragAbsent_confines (s : State) (n : Station) : Confines s (s.walkDragAbsent n) :=
  .guarded fun _ => (s.forceWalk_confines _).trans (State.endReturning_confines _)

theorem State.walkAbsentAtDrag_confines (s : State) (n : Station) : Confines s (s.walkAbsentAtDrag n) :=
  .guarded fun _ => s.endSupply_confines

theorem State.walkAbsentHeld_confines (s : State) (n : Station) : Confines s (s.walkAbsentHeld n) :=
  .guarded fun _ => .kept

theorem State.returnUnlisted_confines (s : State) (n : Station) : Confines s (s.returnUnlisted n) :=
  .guarded fun _ => .kept

theorem State.dropHeldOf_confines (s : State) (n : Station) : Confines s (s.dropHeldOf n) := .kept

theorem State.goAbsent_confines (s : State) (n : Station) : Confines s (s.goAbsent n) :=
  ((((((((((Confines.trans (t := s.modEntry n _) .kept (State.rosterLost_confines _ _)).trans
    (State.findConflict_confines _ _)).trans (State.leadAbsent_confines _ _)).trans
    (State.walkDragAbsent_confines _ _)).trans (State.walkAbsentAtDrag_confines _ _)).trans
    (State.dropHeldOf_confines _ _)).trans (State.returnMismatch_confines _ _)).trans
    (State.endConflict_confines _)).trans (State.removePeerStop_confines _ _)).trans
    (State.returnUnlisted_confines _ _)).trans (State.walkAbsentHeld_confines _ _)

theorem State.stopNotice_confines (s : State) (n : Station) : Confines s (s.stopNotice n) :=
  .guarded fun _ => Confines.trans (t := s.modEntry n _) .kept (State.addPeerStop_confines _ _)

end Sys2Proof.Machine
end

section
/-!
PROOFS. `Confines`: a step of the regulator, a move of the heat levels, and the rest of an expiry.
-/

set_option Elab.async false

namespace Sys2Proof.Machine

/-! ### The step of the regulator (R85, R88, R95) -/

theorem bounded_le {b : Bool} {value limit bound : Nat} (h : limit ≤ bound) : bounded b value limit ≤ bound := by
  cases b
  · exact h
  · exact (Nat.min_le_left _ _).trans h

theorem State.forwardLimit_le (s : State) : s.forwardLimit ≤ 1000 :=
  bounded_le (bounded_le (bounded_le (bounded_le (bounded_le le_rfl))))

theorem State.reverseLimit_le (s : State) : s.reverseLimit ≤ 1000 := bounded_le (bounded_le (bounded_le le_rfl))

theorem clamp_zero_natAbs_le (n : Nat) (x : Int) : (clamp 0 n x).natAbs ≤ n := by
  have hlow := le_clamp 0 n x (by omega)
  have hhigh := clamp_le 0 n x (by omega)
  omega

/-- A drag in walk supply serves a reference within the range of the cams (R129). -/
theorem State.walkReference_natAbs_le (s : State) : s.walkReference.natAbs ≤ 1000 := by
  unfold State.walkReference
  dsimp only
  split
  · split
    · exact clamp_zero_natAbs_le 1000 _
    · exact Nat.zero_le _
  · exact Nat.zero_le _

/-- The target of a step lies within ±1000 (R88). -/
theorem State.targetOf_natAbs_le (s : State) (c : Int) : (s.targetOf c).natAbs ≤ 1000 := by
  unfold State.targetOf
  split
  · unfold State.supplyTarget
    split
    · exact s.walkReference_natAbs_le
    · exact Nat.zero_le _
  · split
    · exact Nat.zero_le _
    · have hlow := le_clamp (-(s.reverseLimit : Int)) s.forwardLimit c (by omega)
      have hhigh := clamp_le (-(s.reverseLimit : Int)) s.forwardLimit c (by omega)
      have hf := s.forwardLimit_le
      have hr := s.reverseLimit_le
      omega

theorem foldStep_nonneg {x : Int} (h : 0 ≤ x) (gain : Nat) : 0 ≤ foldStep x gain :=
  Int.tdiv_nonneg (by positivity) (by decide)

/-- Foldback moves a reference toward 0, not past it (R93). -/
theorem State.folded_natAbs_le (s : State) (r eb : Int) : (s.folded r eb).natAbs ≤ r.natAbs := by
  have hstep := foldStep_nonneg (x := max (s.currentExcess : Int) eb) (by omega) s.prm.clGain
  unfold State.folded moveToward
  (repeat' split) <;> omega

/-- A step that starts with a sound reference and has a target within ±1000 leaves a sound regulator. -/
theorem State.regulate_driveSound {s : State} (c : Int) {t : Int} (eb : Int)
    (hr : s.drive.reference.natAbs ≤ 256000) (ht : t.natAbs ≤ 1000) : (s.regulate c t eb).DriveSound := by
  have hramped : (s.ramped t).natAbs ≤ 256000 := rampMove_natAbs_le _ _ _ _ _ hr (by omega)
  exact State.setDuty_driveSound ((s.folded_natAbs_le _ _).trans hramped) ht (dutyOf_natAbs_le _ _)

theorem State.regulate_confines (s : State) (c eb : Int) : Confines s (s.regulate c (s.targetOf c) eb) :=
  ⟨fun ⟨hr, _⟩ => State.regulate_driveSound c eb hr (s.targetOf_natAbs_le c), id⟩

theorem State.sectorMarks_confines (s : State) (c : Int) : Confines s (s.sectorMarks c) :=
  .guarded fun _ => (s.modRole_confines _).trans
    (.ite (fun _ => State.raiseWarn_confines _ _ _) fun _ => .guarded fun _ => State.returnAlarm_confines _ _)

theorem State.followBrake_confines (s : State) : Confines s s.followBrake := by
  unfold State.followBrake
  split <;> exact s.setBrake_confines _

theorem State.expireBrakeSet_confines (s : State) : Confines s s.expireBrakeSet :=
  .guarded fun _ => (s.setBrake_confines true).trans (State.modDrive_confines _ _)

theorem State.brakeRule_confines (s : State) : Confines s s.brakeRule :=
  .ite (fun _ => s.followBrake_confines) fun _ =>
    .ite (fun _ => .guarded fun _ => s.setBrake_confines false) fun _ =>
      (s.modDrive_confines _).trans (State.expireBrakeSet_confines _)

theorem State.driveStep_confines (s : State) : Confines s s.driveStep :=
  ((s.sectorMarks_confines _).trans (State.regulate_confines _ _ _)).trans (State.brakeRule_confines _)

theorem State.driveExpiry_confines (s : State) : Confines s s.driveExpiry :=
  .ite (fun _ => s.driveStep_confines) fun _ => (s.clearTarget_confines _).trans (State.modRole_confines _ _)

/-! ### Measurement and the checks after the step -/

theorem State.modMeas_confines (s : State) (f : Measurement → Measurement) : Confines s (s.modMeas f) := .kept

theorem State.expireTachExcess_confines (s : State) : Confines s s.expireTachExcess :=
  .guarded fun _ => (s.modMeas_confines _).trans (State.raiseTrip_confines _ _ _)

theorem State.expireTachRecovery_confines (s : State) : Confines s s.expireTachRecovery :=
  .guarded fun _ => (s.modMeas_confines _).trans (State.returnAlarm_confines _ _)

theorem State.measure_confines (s : State) (raw : Analog) : Confines s (s.measure raw) :=
  (((s.modMeas_confines _).trans (State.modMeas_confines _ _)).trans (State.expireTachExcess_confines _)).trans
    (State.expireTachRecovery_confines _)

theorem State.expireDisagree_confines (s : State) : Confines s s.expireDisagree :=
  .guarded fun _ => (s.modDrive_confines _).trans (State.raiseTrip_confines _ _ _)

theorem State.expireAgree_confines (s : State) : Confines s s.expireAgree :=
  .guarded fun _ => (s.modDrive_confines _).trans (State.returnAlarm_confines _ _)

theorem State.expireLoss_confines (s : State) : Confines s s.expireLoss :=
  .guarded fun _ => (s.modDrive_confines _).trans (State.raiseTrip_confines _ _ _)

theorem State.expireLossClear_confines (s : State) : Confines s s.expireLossClear :=
  .guarded fun _ => (s.modDrive_confines _).trans (State.returnAlarm_confines _ _)

theorem State.watchOvercurrent_confines (s : State) : Confines s s.watchOvercurrent :=
  .ite (fun _ => s.modDrive_confines _) fun _ =>
    .guarded fun _ => (s.modDrive_confines _).trans (State.raiseTrip_confines _ _ _)

theorem State.watchOvervoltage_confines (s : State) : Confines s s.watchOvervoltage :=
  .ite (fun _ => s.modDrive_confines _) fun _ =>
    .guarded fun _ => (s.modDrive_confines _).trans (State.raiseTrip_confines _ _ _)

theorem State.expireClear_confines (s : State) (x : FieldCheck) : Confines s (s.expireClear x) := by
  unfold State.expireClear
  split
  · exact .guarded fun _ => (s.modDrive_confines _).trans (State.returnAlarm_confines _ _)
  · exact .guarded fun _ => (s.modDrive_confines _).trans (State.returnAlarm_confines _ _)

theorem State.checkField_confines (s : State) (d : Int) : Confines s (s.checkField d) :=
  .guarded fun _ => ((((((s.modDrive_confines _).trans (State.expireLoss_confines _)).trans
    (State.expireLossClear_confines _)).trans (State.watchOvercurrent_confines _)).trans
    (State.expireClear_confines _ _)).trans (State.watchOvervoltage_confines _)).trans
    (State.expireClear_confines _ _)

theorem State.checks_confines (s : State) (d : Int) : Confines s (s.checks d) :=
  (((s.modDrive_confines _).trans (State.expireDisagree_confines _)).trans (State.expireAgree_confines _)).trans
    (State.checkField_confines _ _)

/-! ### Role logic -/

theorem State.watchOverload_confines (s : State) : Confines s s.watchOverload :=
  .ite (fun _ => .ite (fun _ => (s.modRole_confines _).trans (State.returnAlarm_confines _ _)) fun _ =>
    s.modRole_confines _) fun _ => s.modRole_confines _

theorem State.expireOverload_confines (s : State) : Confines s s.expireOverload :=
  .guarded fun _ => (s.modRole_confines _).trans (State.raiseTrip_confines _ _ _)

theorem State.checkBoom_confines (s : State) : Confines s s.checkBoom :=
  .guarded fun _ => s.watchOverload_confines.trans (State.expireOverload_confines _)

theorem State.requestSwing_confines (s : State) : Confines s s.requestSwing :=
  .guarded fun _ => (s.returnAlarm_confines _).trans (State.requestProposal_confines _ _)

theorem State.setSwingBrake_confines (s : State) : Confines s s.setSwingBrake :=
  (s.setBrake_confines true).trans (State.modDrive_confines _ _)

theorem State.lockSwing_confines (s : State) : Confines s s.lockSwing := .kept

theorem State.raiseWithdrawn_confines (s : State) : Confines s s.raiseWithdrawn := .kept

theorem State.expireRest_confines (s : State) : Confines s s.expireRest :=
  .guarded fun _ => (s.setSwingBrake_confines.trans (State.lockSwing_confines _)).trans
    (State.clearProposal_confines _)

theorem State.endWithdrawal_confines (s : State) : Confines s s.endWithdrawal :=
  .guarded fun _ => ((s.setSwingBrake_confines.trans (State.lockSwing_confines _)).trans
    (State.raiseWithdrawn_confines _)).trans (State.clearProposal_confines _)

theorem State.swingStep_confines (s : State) : Confines s s.swingStep := by
  unfold State.swingStep
  refine Confines.trans ?_ (State.modRole_confines _ _)
  split
  · exact s.requestSwing_confines
  · exact .refl s
  · exact (s.modRole_confines _).trans (State.expireRest_confines _)
  · exact s.endWithdrawal_confines

theorem State.startTransfer_confines (s : State) : Confines s s.startTransfer :=
  .guarded fun _ => ((s.modRole_confines _).trans (State.setTransfer_confines _ true)).trans
    (State.withdrawPermission_confines _)

theorem State.openWhenStill_confines (s : State) : Confines s s.openWhenStill :=
  .guarded fun _ => s.openTransfer_confines

theorem State.supplyExpiry_confines (s : State) : Confines s s.supplyExpiry :=
  .guarded fun _ => s.startTransfer_confines.trans (State.openWhenStill_confines _)

theorem State.contactorRises_confines (s : State) : Confines s s.contactorRises := by
  unfold State.contactorRises
  split
  · exact s.modRole_confines _
  · exact s.modRole_confines _
  all_goals exact .refl s

theorem State.failSupply_confines (s : State) (v : Int) : Confines s (s.failSupply v) :=
  (s.raiseTrip_confines _ _).trans (State.endSupply_confines _)

theorem State.feedbackOpens_confines (s : State) : Confines s s.feedbackOpens :=
  (s.modRole_confines _).trans (.guarded fun _ => State.returnAlarm_confines _ _)

theorem State.contactorFalls_confines (s : State) : Confines s s.contactorFalls := by
  unfold State.contactorFalls
  split
  · exact s.failSupply_confines _
  · exact .ite (fun _ => .refl s) fun _ => s.supplyNormal_confines
  · exact s.feedbackOpens_confines
  · exact .refl s

theorem State.expireTransfer_confines (s : State) : Confines s s.expireTransfer :=
  .guarded fun _ => (s.modRole_confines _).trans (State.failSupply_confines _ _)

theorem State.expireReturn_confines (s : State) : Confines s s.expireReturn :=
  .guarded fun _ => (s.modRole_confines _).trans (State.raiseTrip_confines _ _ _)

theorem State.expireClosed_confines (s : State) : Confines s s.expireClosed :=
  .guarded fun _ => (s.modRole_confines _).trans (State.raiseTrip_confines _ _ _)

theorem State.notePhase_confines (s : State) : Confines s s.notePhase := ⟨id, id⟩

theorem State.roleExpiry_confines (s : State) : Confines s s.roleExpiry :=
  ((s.checkBoom_confines.trans (.guarded fun _ => State.swingStep_confines _)).trans
    (State.supplyExpiry_confines _)).trans (State.notePhase_confines _)

/-! ### The walk sequencer -/

theorem State.modWalk_confines (s : State) (f : WalkSequencer → WalkSequencer) : Confines s (s.modWalk f) := .kept

theorem State.checkSkew_confines (s : State) : Confines s s.checkSkew :=
  .ite (fun _ => .guarded fun _ => (s.modWalk_confines _).trans (State.returnAlarm_confines _ _))
    fun _ => .guarded fun _ => (s.modWalk_confines _).trans (State.raiseStop_confines _ _ _)

theorem State.haltWalk_confines (s : State) : Confines s s.haltWalk := ⟨id, id⟩

theorem State.stoppingPhase_confines (s : State) : Confines s s.stoppingPhase := by
  unfold State.stoppingPhase
  split
  · exact .guarded fun _ => s.modWalk_confines _
  · exact .ite (fun _ => s.modWalk_confines _) fun _ => .guarded fun _ => s.haltWalk_confines
  · exact .refl s

theorem State.enterWalk_confines (s : State) (x : WalkState) : Confines s (s.enterWalk x) := .kept

theorem State.expireEnd_confines (s : State) : Confines s s.expireEnd :=
  .guarded fun _ => (s.enterWalk_confines _).trans (State.endReturning_confines _)

theorem State.checkEnd_confines (s : State) : Confines s s.checkEnd :=
  .guarded fun _ => (s.modWalk_confines _).trans (State.expireEnd_confines _)

theorem State.walkReferences_confines (s : State) : Confines s s.walkReferences := ⟨id, id⟩

theorem State.walkMoves_confines (s : State) : Confines s s.walkMoves :=
  ((Confines.guarded fun _ => s.walkReferences_confines).trans (State.checkSkew_confines _)).trans
    (State.stoppingPhase_confines _)

theorem State.walkExpiry_confines (s : State) : Confines s s.walkExpiry :=
  .guarded fun _ => ((s.modWalk_confines _).trans (State.checkEnd_confines _)).trans (State.walkMoves_confines _)

theorem State.beginWalk_confines (s : State) : Confines s s.beginWalk :=
  .ite (fun _ => .refl s) fun _ => (s.returnAlarm_confines _).trans (State.requestProposal_confines _ _)

theorem State.resumeForced_confines (s : State) : Confines s s.resumeForced :=
  .ite (fun _ => .refl s) fun _ => .ite (fun _ => s.haltWalk_confines) fun _ => ⟨id, id⟩

theorem State.walkCommanded_confines (s : State) : Confines s s.walkCommanded := by
  unfold State.walkCommanded
  split
  · exact s.beginWalk_confines
  · exact .guarded fun _ => s.stepWalk_confines
  · exact .guarded fun _ => s.resumeForced_confines
  all_goals exact .refl s

theorem State.expireStopHold_confines (s : State) : Confines s s.expireStopHold :=
  .guarded fun _ => (s.modWalk_confines _).trans (State.forceWalk_confines _ _)

theorem State.expireSupplyLimit_confines (s : State) : Confines s s.expireSupplyLimit :=
  .guarded fun _ => ((s.enterWalk_confines _).trans (State.clearProposal_confines _)).trans
    (State.raiseWarn_confines _ _ _)

/-! ### The heat levels (R142, R143) -/

/-- The effective level is formed anew (R143). -/
@[simp] theorem State.formLevel_heat (s : State) :
    s.formLevel.heat = { s.heat with effective := max s.heat.level s.heat.forced } := by
  unfold State.formLevel
  dsimp only
  (repeat' split) <;> simp

theorem State.formLevel_lines (s : State) : s.formLevel.out.lines = s.out.lines := by
  unfold State.formLevel
  dsimp only
  (repeat' split) <;> simp

/-- Levels within 0 to 7 become sound as the effective level follows them, whatever it was before. -/
theorem State.formLevel_levelsSound {s : State} (hlevel : s.heat.level ≤ 7) (hforced : s.heat.forced ≤ 7) :
    s.formLevel.LevelsSound := by
  unfold State.LevelsSound
  rw [State.formLevel_heat]
  exact ⟨hlevel, hforced, rfl⟩

/-- A level moves within 0 to 7, and the effective level follows. -/
theorem State.modHeat_formLevel_confines (s : State) (f : HeatMonitor → HeatMonitor)
    (h : s.LevelsSound → (f s.heat).level ≤ 7 ∧ (f s.heat).forced ≤ 7) : Confines s (s.modHeat f).formLevel := by
  refine ⟨fun hs => hs.congr (by simp) (State.formLevel_lines _), fun hs => ?_⟩
  obtain ⟨hlevel, hforced⟩ := h hs
  exact State.formLevel_levelsSound hlevel hforced

theorem State.expireDerate_confines (s : State) : Confines s s.expireDerate := by
  refine .guarded fun _ => ?_
  split
  · exact .guarded fun ⟨_, hlow⟩ => s.modHeat_formLevel_confines _ fun ⟨_, hforced, _⟩ => ⟨hlow, hforced⟩
  · exact .guarded fun _ => s.modHeat_formLevel_confines _ fun ⟨hlevel, hforced, _⟩ =>
      ⟨(Nat.sub_le _ _).trans hlevel, hforced⟩
  · exact .refl s

theorem State.forceLevel_confines (s : State) {n : Nat} (h : n ≤ 7) : Confines s (s.forceLevel n) :=
  s.modHeat_formLevel_confines _ fun ⟨hlevel, _⟩ => ⟨hlevel, h⟩

theorem State.checkOverheat_confines (s : State) : Confines s s.checkOverheat :=
  .ite (fun _ => .guarded fun _ => (s.modHeat_confines _).trans (State.returnAlarm_confines _ _))
    fun _ => .guarded fun _ => (s.modHeat_confines _).trans (State.raiseTrip_confines _ _ _)

theorem State.heatExpiry_confines (s : State) : Confines s s.heatExpiry :=
  .guarded fun _ => (((s.modHeat_confines _).trans (State.modHeat_confines _ _)).trans
    (State.expireDerate_confines _)).trans (State.checkOverheat_confines _)

/-! ### The expiry -/

theorem State.neutralExpiry_confines (s : State) : Confines s s.neutralExpiry := .guarded fun _ => .kept

theorem State.duties_confines (s : State) : Confines s s.duties :=
  ((s.roleExpiry_confines.trans (State.walkExpiry_confines _)).trans (State.heatExpiry_confines _)).trans
    (State.neutralExpiry_confines _)

theorem State.expiryWork_confines (s : State) (raw : Analog) : Confines s (s.expiryWork raw) := by
  have hrestart : Confines s (s.restartRegulation raw) := .kept
  exact (((hrestart.trans (State.measure_confines _ _)).trans (State.driveExpiry_confines _)).trans
    (State.checks_confines _ _)).trans (State.duties_confines _)

theorem State.captureWork_confines (s : State) (v : Sample) : Confines s (s.captureWork v) :=
  (((s.modCapture_confines _).trans (State.modCapture_confines _ _)).trans
    (State.decideDue_confines _)).trans (State.endPost_confines _)

theorem State.withStore_confines (s : State) (k : CaptureStore) : Confines s (s.withStore k) := ⟨id, id⟩

theorem State.noteQuiet_confines (s : State) : Confines s s.noteQuiet := ⟨id, id⟩

theorem State.regulationWork_confines (s : State) (raw : Analog) : Confines s (s.regulationWork raw) :=
  .ite (fun _ => ((((s.expiryWork_confines raw).trans (State.withStore_confines _ _)).trans
      (State.captureWork_confines _ _)).trans (State.withStore_confines _ _)).trans
      (State.noteQuiet_confines _)) fun _ =>
    (s.expiryWork_confines raw).trans (State.noteQuiet_confines _)

end Sys2Proof.Machine
end

section
/-!
PROOFS. Link, service, edges, start-up and every command `Confines`; O57.
-/

set_option Elab.async false

namespace Sys2Proof.Machine

/-! ### Link and reception -/

theorem State.modLink_confines (s : State) (f : LinkController → LinkController) : Confines s (s.modLink f) := .kept

theorem State.declareFault_confines (s : State) : Confines s s.declareFault :=
  (Confines.trans .kept (State.raiseTrip_confines (s.discardQueue.modLink _) _ _)).trans (State.addCause_confines _ _)

theorem State.failTransmission_confines (s : State) : Confines s s.failTransmission := by
  unfold State.failTransmission
  split
  · exact ((s.modLink_confines _).trans (State.modLink_confines _ _)).trans
      (.guarded fun _ => State.declareFault_confines _)
  · exact .refl s

theorem State.clearFault_confines (s : State) : Confines s s.clearFault :=
  .guarded fun _ => (s.returnAlarm_confines _).trans (State.removeCause_confines _ _)

theorem State.useCompletion_confines (s : State) (f : OutFrame) : Confines s (s.useCompletion f) := by
  unfold State.useCompletion
  split
  · exact s.clearFault_confines
  · exact .kept
  · exact .guarded fun _ => .kept
  all_goals exact .refl s

theorem State.completeTransmission_confines (s : State) : Confines s s.completeTransmission := by
  have htake : Confines s s.takeCompleted := s.modLink_confines _
  unfold State.completeTransmission
  split
  · exact htake.trans (State.useCompletion_confines _ _)
  · exact .refl s

theorem State.reportEvent_confines (s : State) : Confines s s.reportEvent := .kept

theorem State.endQuietOut_confines (s : State) : Confines s s.endQuietOut :=
  .guarded fun _ => (s.modLink_confines _).trans (State.reportEvent_confines _)

theorem State.clash_confines (s : State) (src : BitVec 4) : Confines s (s.clash src) :=
  (s.modLink_confines _).trans (.ite (fun _ => .refl _) fun _ => State.raiseStop_confines _ _ _)

theorem State.expireClash_confines (s : State) : Confines s s.expireClash :=
  .guarded fun _ => (s.modLink_confines _).trans (State.returnAlarm_confines _ _)

theorem State.countMalformed_confines (s : State) : Confines s s.countMalformed := s.modLink_confines _

theorem State.freeBuffer_confines (s : State) : Confines s s.freeBuffer := s.modLink_confines _

/-- A received frame is judged, and handed over by `hand` if it is usable. -/
theorem State.receive_confines {s : State} (f : Frame) {hand : State → State} (h : Confines s (hand s)) :
    Confines s (s.receive f hand) :=
  .ite (fun _ => .refl s) fun _ => (Confines.ite (fun _ => s.clash_confines _) fun _ =>
    .ite (fun _ => s.countMalformed_confines) fun _ => h).trans (State.freeBuffer_confines _)

theorem State.handReport_confines (s : State) (f : Frame) : Confines s (s.handReport f) := by
  unfold State.handReport
  split
  · exact s.takeReport_confines _ _
  · exact .refl s

theorem State.handPropose_confines (s : State) (f : Frame) : Confines s (s.handPropose f) := by
  unfold State.handPropose
  split
  · dsimp only
    split
    · exact .ite (fun _ => s.countMalformed_confines) fun _ => s.takePropose_confines _ _ _
    · exact s.countMalformed_confines
  · exact .refl s

theorem State.handObject_confines (s : State) (f : Frame) : Confines s (s.handObject f) := by
  unfold State.handObject
  split
  · dsimp only
    split
    · exact .ite (fun _ => s.countMalformed_confines) fun _ => s.takeObject_confines _ _ _ _
    · exact s.countMalformed_confines
  · exact .refl s

theorem State.takeNotice_confines (s : State) (src : Station) (c : AlarmCode) (v : Word16) (b : Bool)
    (q : Word16) : Confines s (s.takeNotice src c v b q) := by
  have hlog : Confines s (s.log c .peerNotice v (stationAddress src)) := .kept
  exact (hlog.trans (.guarded fun _ => State.stopNotice_confines _ _)).trans
    (.guarded fun _ => State.modCapture_confines _ _)

theorem State.handNotice_confines (s : State) (f : Frame) : Confines s (s.handNotice f) := by
  unfold State.handNotice
  split
  · split
    · exact .ite (fun _ => s.takeNotice_confines _ _ _ _ _) fun _ => s.countMalformed_confines
    · exact s.countMalformed_confines
  · exact .refl s

theorem State.handKeep_confines (s : State) (f : Frame) : Confines s (s.handKeep f) := by
  unfold State.handKeep
  dsimp only
  split
  · exact .ite (fun _ => s.countMalformed_confines) fun _ =>
      .guarded fun _ => s.takeKeepNotice_confines _
  · exact s.countMalformed_confines

/-! ### The service logic -/

theorem State.queueFrame_confines (s : State) (f : OutFrame) : Confines s (s.queueFrame f) := .kept

theorem State.setSlot_confines (s : State) (b : Bool) : Confines s (s.setSlot b) := ⟨id, id⟩

theorem State.request_confines (s : State) (h : Header) (code : Byte) (args : List Byte)
    (work : State → State × Reply) (hw : ∀ u, Confines u (work u).1) :
    Confines s (s.request h code args work) := by
  refine State.receive_confines _ ?_
  unfold State.handRequest
  split
  · exact .guarded fun _ => .ite (fun _ => .refl s) fun _ =>
      .ite (fun _ => .ite (fun _ => .refl s) fun _ => s.queueFrame_confines _) fun _ =>
        ((s.setSlot_confines true).trans (hw _)).trans (State.queueFrame_confines _ _)
  · exact .refl s

theorem workAck_confines (args : List Byte) (s : State) : Confines s (workAck args s).1 := by
  unfold workAck
  split
  · exact .refl s
  · dsimp only
    exact s.acknowledge_confines

theorem workRelease_confines (args : List Byte) (s : State) : Confines s (workRelease args s).1 := by
  unfold workRelease
  split
  · exact .refl s
  · split
    · exact s.releaseHead_confines
    · exact .refl s

/-- FORCE_DERATE takes a level of 0 to 7 alone (R143). -/
theorem workForce_confines (args : List Byte) (s : State) : Confines s (workForce args s).1 := by
  unfold workForce
  split
  · split
    · exact s.forceLevel_confines (by omega)
    · exact .refl s
  · exact .refl s

/-! ### Edges -/

theorem State.modPins_confines (s : State) (f : Pins → Pins) : Confines s (s.modPins f) := ⟨id, id⟩

/-- What an input that has settled does, its settling included. -/
theorem Confines.settled {s t : State} {f : Pins → Pins} {g : Measurement → Measurement}
    (h : Confines ((s.modPins f).modMeas g) t) : Confines s t :=
  Confines.trans (t := (s.modPins f).modMeas g) ⟨id, id⟩ h

theorem State.settleSupplyOk_confines (s : State) (x : Bool) : Confines s (s.settleSupplyOk x) :=
  .ite (fun _ => .refl s) fun _ => ⟨id, id⟩

theorem State.tryRun_confines (s : State) : Confines s s.tryRun := .kept

theorem State.permitRises_confines (s : State) : Confines s s.permitRises :=
  (s.removeCause_confines _).trans (State.tryRun_confines _)

theorem State.permitFalls_confines (s : State) : Confines s s.permitFalls :=
  .guarded fun _ => s.enterHold_confines

theorem State.ackRises_confines (s : State) : Confines s s.ackRises :=
  .ite (fun _ => .refl s) fun _ => s.acknowledge_confines

theorem State.limitRises_confines (s : State) : Confines s s.limitRises := by
  refine .guarded fun _ => ?_
  split
  · exact (s.modMeas_confines _).trans (State.raiseWarn_confines _ _ _)
  · exact s.modMeas_confines _
  all_goals exact .refl s

theorem State.limitFalls_confines (s : State) : Confines s s.limitFalls :=
  .guarded fun _ => s.returnAlarm_confines _

theorem State.homeLeftRises_confines (s : State) : Confines s s.homeLeftRises :=
  .guarded fun _ => s.modMeas_confines _

theorem State.homeRightRises_confines (s : State) : Confines s s.homeRightRises :=
  .guarded fun _ => s.modMeas_confines _

theorem State.feedbackRises_confines (s : State) : Confines s s.feedbackRises :=
  .guarded fun _ => s.contactorRises_confines

theorem State.feedbackFalls_confines (s : State) : Confines s s.feedbackFalls :=
  .guarded fun _ => s.contactorFalls_confines

theorem State.walkCmdRises_confines (s : State) : Confines s s.walkCmdRises :=
  .guarded fun _ => s.walkCommanded_confines

theorem State.walkCmdFalls_confines (s : State) : Confines s s.walkCmdFalls :=
  .guarded fun _ => s.stopWalk_confines

theorem State.walkStopRises_confines (s : State) : Confines s s.walkStopRises :=
  .guarded fun _ => (s.modWalk_confines _).trans (State.stopWalk_confines _)

theorem State.walkStopFalls_confines (s : State) : Confines s s.walkStopFalls :=
  .guarded fun _ => (s.modWalk_confines _).trans (State.clearForced_confines _ _)

theorem State.countEdge_confines (s : State) (x : PairId) (y : Phase) (us : Nat) :
    Confines s (s.countEdge x y us) := by
  unfold State.countEdge
  split
  · exact (s.modPins_confines _).trans (.guarded fun _ => State.modMeas_confines _ _)
  · exact (s.modPins_confines _).trans (.guarded fun _ => State.modMeas_confines _ _)

theorem State.skipEdge_confines (s : State) (x : PairId) : Confines s (s.skipEdge x) :=
  (s.modPins_confines _).trans (.guarded fun _ => State.modMeas_confines _ _)

/-! ### Start-up -/

theorem State.firstWriteBlock_confines (s : State) : Confines s s.firstWriteBlock := .kept

theorem State.listenDone_confines (s : State) : Confines s s.listenDone := ⟨id, id⟩

theorem State.leaveListen_confines (s : State) : Confines s s.leaveListen :=
  (s.listenDone_confines.trans (State.firstWriteBlock_confines _)).trans (State.reportEvent_confines _)

theorem State.homeAtLoad_confines (s : State) : Confines s s.homeAtLoad := by
  unfold State.homeAtLoad
  split
  · exact .guarded fun _ => s.modMeas_confines _
  · exact .guarded fun _ => s.modMeas_confines _
  · exact .guarded fun _ => s.modMeas_confines _
  · exact (Confines.guarded fun _ => s.modMeas_confines _).trans (.guarded fun _ => State.modMeas_confines _ _)
  · exact .refl s

theorem State.dutiesAtLoad_confines (s : State) : Confines s s.dutiesAtLoad := by
  unfold State.dutiesAtLoad
  split
  · exact .guarded fun _ => s.raiseWarn_confines _ _
  · exact .guarded fun _ => s.modRole_confines _
  all_goals exact .refl s

theorem State.admitted_confines (s : State) (b : List Byte) (n : Station) : Confines s (s.admitted b n) := ⟨id, id⟩

theorem State.goodLoad_confines (s : State) (b : List Byte) (n : Station) : Confines s (s.goodLoad b n) :=
  (((s.admitted_confines b n).trans (State.modMeas_confines _ _)).trans (State.homeAtLoad_confines _)).trans
    (State.dutiesAtLoad_confines _)

theorem State.loadBlock_confines (s : State) (memory : List Byte) : Confines s (s.loadBlock memory) := by
  rcases s.loadBlock_cases memory with h | ⟨-, n, r, -, -, h⟩
  · rw [h]
    exact .refl s
  · rw [h]
    exact .ite (fun _ => s.goodLoad_confines _ _) fun _ => s.raiseStop_confines _ _

/-- A strap read over the reset values of regulator, outputs and heat monitor leaves both invariants. -/
theorem State.readStraps_driveSound {s : State} (hd : s.drive = DriveRegulator.reset) (ho : s.out = Outputs.reset)
    (hh : s.heat = HeatMonitor.reset) (x : Straps) :
    (s.readStraps x).DriveSound ∧ (s.readStraps x).LevelsSound := by
  have hread : Confines s (s.readStraps x) :=
    Confines.trans (t := s.strapped x) ⟨id, id⟩ (.ite (fun _ => .refl _) fun _ => State.enterStop_confines _)
  refine ⟨hread.drive ?_, hread.levels ?_⟩
  · unfold State.DriveSound directionFits
    rw [hd, ho]
    decide
  · unfold State.LevelsSound
    rw [hh]
    decide

/-! ### Every command -/

theorem exec_confines (c : Instr) (s : State) : Completes c s (Confines s) := by
  cases c with
  | powerOnReset x =>
    obtain ⟨hdrive, hlevels⟩ := State.readStraps_driveSound (s := s.afterPowerOn) rfl rfl rfl x
    exact ⟨_, rfl, fun _ => hdrive, fun _ => hlevels⟩
  | localReset x =>
    obtain ⟨hdrive, hlevels⟩ := State.readStraps_driveSound (s := s.afterLocalReset) rfl rfl rfl x
    exact ⟨_, rfl, fun _ => hdrive, fun _ => hlevels⟩
  | parameterBlockLoaded m => exact ⟨_, rfl, s.loadBlock_confines m⟩
  | listenExpiry => exact ⟨_, rfl, .guarded fun _ => s.leaveListen_confines⟩
  | reportTimerExpiry => exact ⟨_, rfl, .guarded fun _ => s.reportEvent_confines⟩
  | unconfiguredReportExpiry => exact ⟨_, rfl, .guarded fun _ => s.reportEvent_confines⟩
  | regulationIntervalExpiry raw => exact ⟨_, rfl, .guarded fun _ => s.regulationWork_confines raw⟩
  | neutralTimeElapsed => exact ⟨_, rfl, s.tryRun_confines⟩
  | runPermitRise => exact ⟨_, rfl, .settled (s.settleRunPermit true).permitRises_confines⟩
  | runPermitFall => exact ⟨_, rfl, .settled (s.settleRunPermit false).permitFalls_confines⟩
  | ackRise => exact ⟨_, rfl, .settled (s.settleAck true).ackRises_confines⟩
  | limitRise => exact ⟨_, rfl, .settled (s.settleLimit true).limitRises_confines⟩
  | limitFall => exact ⟨_, rfl, .settled (s.settleLimit false).limitFalls_confines⟩
  | homeLRise => exact ⟨_, rfl, .settled (s.settleHomeL true).homeLeftRises_confines⟩
  | homeRRise => exact ⟨_, rfl, .settled (s.settleHomeR true).homeRightRises_confines⟩
  | contactorFbRise => exact ⟨_, rfl, .settled (s.settleContactorFb true).feedbackRises_confines⟩
  | contactorFbFall => exact ⟨_, rfl, .settled (s.settleContactorFb false).feedbackFalls_confines⟩
  | walkCmdRise => exact ⟨_, rfl, .settled (s.settleWalkCmd true).walkCmdRises_confines⟩
  | walkCmdFall => exact ⟨_, rfl, .settled (s.settleWalkCmd false).walkCmdFalls_confines⟩
  | walkStopRise => exact ⟨_, rfl, .settled (s.settleWalkStop true).walkStopRises_confines⟩
  | walkStopFall => exact ⟨_, rfl, .settled (s.settleWalkStop false).walkStopFalls_confines⟩
  | walkStopHoldExpiry => exact ⟨_, rfl, s.expireStopHold_confines⟩
  | supplyOkFall => exact ⟨_, rfl, (s.settleSupplyOk_confines false).trans (State.raiseStop_confines _ _ _)⟩
  | supplyOkRise => exact ⟨_, rfl, (s.settleSupplyOk_confines true).trans (State.returnAlarm_confines _ _)⟩
  | countEdge x y us => exact ⟨_, rfl, s.countEdge_confines x y us⟩
  | quadSkip x => exact ⟨_, rfl, s.skipEdge_confines x⟩
  | transmissionStart => exact ⟨_, rfl, .kept⟩
  | contestLost => exact ⟨_, rfl, .kept⟩
  | transmitFailure => exact ⟨_, rfl, s.failTransmission_confines⟩
  | completionEvent => exact ⟨_, rfl, s.completeTransmission_confines⟩
  | quietOutExpiry => exact ⟨_, rfl, s.endQuietOut_confines⟩
  | frameLengthAbandoned n => exact ⟨_, rfl, .guarded fun _ => s.countMalformed_confines⟩
  | frameBad f x y =>
    exact ⟨_, rfl, .guarded fun _ => (s.modLink_confines _).trans (State.freeBuffer_confines _)⟩
  | frameOwnAddress f =>
    exact ⟨_, rfl, .guarded fun _ => (s.clash_confines _).trans (State.freeBuffer_confines _)⟩
  | addressClashReturnExpiry => exact ⟨_, rfl, s.expireClash_confines⟩
  | frameMalformed f => exact ⟨_, rfl, State.receive_confines _ (.refl s)⟩
  | stateReport h l => exact ⟨_, rfl, State.receive_confines _ (s.handReport_confines _)⟩
  | propose h l => exact ⟨_, rfl, State.receive_confines _ (s.handPropose_confines _)⟩
  | object h l => exact ⟨_, rfl, State.receive_confines _ (s.handObject_confines _)⟩
  | sendLimitExpiry => exact ⟨_, rfl, s.expireSendLimit_confines⟩
  | windowExpiry => exact ⟨_, rfl, s.expireWindow_confines⟩
  | alarmNotice h l => exact ⟨_, rfl, State.receive_confines _ (s.handNotice_confines _)⟩
  | keepNotice h l => exact ⟨_, rfl, State.receive_confines _ (s.handKeep_confines _)⟩
  | serviceReply h l => exact ⟨_, rfl, State.receive_confines _ (.refl s)⟩
  | readStatus h l => exact ⟨_, rfl, s.request_confines _ _ _ _ Confines.refl⟩
  | readPeer h l => exact ⟨_, rfl, s.request_confines _ _ _ _ Confines.refl⟩
  | readCounters h l => exact ⟨_, rfl, s.request_confines _ _ _ _ Confines.refl⟩
  | readAlarms h l => exact ⟨_, rfl, s.request_confines _ _ _ _ Confines.refl⟩
  | ackAlarms h l => exact ⟨_, rfl, s.request_confines _ _ _ _ (workAck_confines l)⟩
  | readCaptureHeader h l => exact ⟨_, rfl, s.request_confines _ _ _ _ Confines.refl⟩
  | readCaptureSamples h l => exact ⟨_, rfl, s.request_confines _ _ _ _ Confines.refl⟩
  | releaseCapture h l => exact ⟨_, rfl, s.request_confines _ _ _ _ (workRelease_confines l)⟩
  | forceDerate h l => exact ⟨_, rfl, s.request_confines _ _ _ _ (workForce_confines l)⟩
  | serviceRequestUnknownCode h x l =>
    exact ⟨_, rfl, .ite (fun _ => .refl s) fun _ => s.request_confines _ _ _ _ Confines.refl⟩
  | entryGoesStale n => exact ⟨_, rfl, .guarded fun _ => s.goStale_confines n⟩
  | entryGoesAbsent n => exact ⟨_, rfl, .guarded fun _ => s.goAbsent_confines n⟩
  | tachExcessExpiry => exact ⟨_, rfl, s.expireTachExcess_confines⟩
  | tachRecoveryExpiry => exact ⟨_, rfl, s.expireTachRecovery_confines⟩
  | brakeSetTimeExpiry => exact ⟨_, rfl, s.expireBrakeSet_confines⟩
  | brakeDisagreeExpiry => exact ⟨_, rfl, s.expireDisagree_confines⟩
  | brakeAgreeExpiry => exact ⟨_, rfl, s.expireAgree_confines⟩
  | fieldLossTimeExpiry => exact ⟨_, rfl, s.expireLoss_confines⟩
  | fieldLossClearExpiry => exact ⟨_, rfl, s.expireLossClear_confines⟩
  | overcurrentClearExpiry x => exact ⟨_, rfl, s.expireClear_confines x⟩
  | boomOverloadTimeExpiry => exact ⟨_, rfl, s.expireOverload_confines⟩
  | swingRestExpiry => exact ⟨_, rfl, s.expireRest_confines⟩
  | deratePersistenceExpiry => exact ⟨_, rfl, s.expireDerate_confines⟩
  | supplyLimitExpiry => exact ⟨_, rfl, s.expireSupplyLimit_confines⟩
  | transferLimitExpiry => exact ⟨_, rfl, s.expireTransfer_confines⟩
  | returnLimitExpiry => exact ⟨_, rfl, s.expireReturn_confines⟩
  | closedFeedbackLimitExpiry => exact ⟨_, rfl, s.expireClosed_confines⟩
  | endTimeExpiry => exact ⟨_, rfl, s.expireEnd_confines⟩
  | postEnd => exact ⟨_, rfl, .guarded fun _ => s.endPost_confines⟩
  | decisionEntryDue => exact ⟨_, rfl, .guarded fun _ => s.decideDue_confines⟩
  | keepDeadlineExpiry i => exact ⟨_, rfl, .kept⟩
  | brakeFbEdge level => exact ⟨_, rfl, .settled (.refl (s.settleBrakeFb level))⟩

/-- Settles O57: every command `Confines`, and a tick touches neither regulator nor levels. -/
theorem driveKept : Obligations.DriveKept := by
  unfold Obligations.DriveKept
  intro s t hstep
  unfold step at hstep
  split at hstep
  · obtain rfl : s.tick = t := by simpa using hstep
    exact ⟨id, id⟩
  · next c rest _ =>
    obtain ⟨t', ht', hkeep⟩ := exec_confines c { s with pending := rest }
    obtain rfl : t' = t := by simpa [ht'] using hstep
    exact ⟨hkeep.drive, hkeep.levels⟩

end Sys2Proof.Machine
end

section
/-!
PROOFS. O40 and O43 fail: an expiry that returns the last TRIP code enters RUN in its course.
-/

set_option Elab.async false

namespace Sys2Proof.Machine

/-! ### A station whose last hold cause goes at the expiry -/

/-- Parameters of a hoist or a swing: a regulation interval of 5 ms, a stop and a slowdown point below the home
payout, and limits that no reading 0 exceeds. -/
def plainParams : Params :=
  { Params.blank with
    regInterval := 5, msSpan := 1000, countsPerM := 80, countsPerTurn := 4000, homePayout := 5000, pSlow := 2800
    pStop := 800, fieldMax := 1300, armVMax := 1900, hTrip := 1440000, hReset := 1000000, hStop := 2000000 }

/-- The MASTER lever is fully forward, with no current and no voltage. -/
def leverForward : Analog := ⟨4095, 0, 0, 0⟩

/-- A solo station of a role in HOLD, an expiry of the regulation timer due: RUN_PERMIT is high, the command has been
neutral for a second, and the one hold cause is the LOCAL_TRIP of code `c`, which stands ACTIVE_ACK. -/
def heldByTrip (straps : Straps) (c : AlarmCode) : State :=
  { State.reset with
    now := 1000
    ctl := { StationControl.reset with
      mode := .hold, straps := some straps, params := some plainParams, place := some .solo
      causes := { HoldCauses.empty with localTrip := true }, neutralSince := some 0 }
    meas := { Measurement.reset with
      regTimer := some 995, runPermit := ⟨true, 0⟩, homedA := true, brakeFb := ⟨true, 0⟩ }
    alarm := { AlarmUnit.reset with table := AlarmUnit.reset.table.set c.index .activeAck } }

/-! ### O40: a hoist recovered from a TACH_FAULT -/

/-- A hoist whose two speeds have agreed for 200 ms after an acknowledged TACH_FAULT (R81). -/
def tachRecovered : State :=
  (heldByTrip ⟨1, 1⟩ .tachFault).modMeas fun m => { m with tachRaised := true, tachRecovery := some 800 }

/-- The cross-check of the expiry returns TACH_FAULT, with the last cause gone the station is in RUN before the
regulator's step (R9, R81, R151), and the step serves the lever. -/
theorem tachRecovered_target : (tachRecovered.regulationExpiry leverForward).drive.target = 1000 := by
  decide +kernel

/-- Refutes O40, in its first clause: in HOLD before the expiry, the hoist takes its step in RUN, since the expiry
itself returned the last TRIP code, and its target is the command. -/
theorem not_regulatorStep : ¬ Obligations.RegulatorStep := by
  unfold Obligations.RegulatorStep
  rintro ⟨hold, -⟩
  obtain ⟨t, ht, htarget, -⟩ := hold tachRecovered leverForward 995 (by decide +kernel) rfl (by decide +kernel) rfl
    (.inl (by decide +kernel))
  obtain rfl : tachRecovered.regulationExpiry leverForward = t := Host.Outcome.next.inj ht
  exact absurd (tachRecovered_target.symm.trans htarget) (by decide)

/-! ### O43: a swing recovered from a BRAKE_FAULT -/

/-- A locked swing whose brake and brake feedback have agreed for 300 ms after an acknowledged BRAKE_FAULT (R100). -/
def brakeRecovered : State :=
  (heldByTrip ⟨3, 1⟩ .brakeFault).modDrive fun d => { d with brakeFaultRaised := true, agreeTime := some 700 }

/-- The brake check of the expiry returns BRAKE_FAULT, with the last cause gone the station is in RUN before the swing
sequence (R9, R100, R151), and the lever that has left neutral asks for a SWING_RELEASE (R113). -/
theorem brakeRecovered_swing : (brakeRecovered.regulationExpiry leverForward).role.swing = .proposing := by
  decide +kernel

/-- Refutes O43, in its fourth clause: in HOLD before the expiry, the swing asks for its release in RUN, since the
expiry itself returned the last TRIP code. -/
theorem not_brakeAndSwingRest : ¬ Obligations.BrakeAndSwingRest := by
  unfold Obligations.BrakeAndSwingRest
  rintro ⟨-, -, -, still, -⟩
  obtain ⟨t, ht, hlocked, -⟩ := still brakeRecovered leverForward 995 (by decide +kernel) rfl (by decide +kernel)
    (by decide +kernel) rfl (.inl (by decide +kernel))
  obtain rfl : brakeRecovered.regulationExpiry leverForward = t := Host.Outcome.next.inj ht
  exact absurd (brakeRecovered_swing.symm.trans hlocked) (by decide)

end Sys2Proof.Machine
end

section
/-!
PROOFS. `Secures`: what keeps a drag braked while it serves as walk supply, and a walk at rest without reference.
-/

set_option Elab.async false

namespace Sys2Proof.Machine

/-- From `s` to `t` contactor, supply state and drag brake stay sound (R128), and so do the walk references (R132). -/
structure Secures (s t : State) : Prop where
  supply : s.SupplySound → t.SupplySound
  walk : s.WalkSound → t.WalkSound

/-- What `SupplySound` reads: the straps, the supply state, brake and transfer output. -/
def State.coupling (s : State) : Option Straps × SupplyState × Bool × Bool :=
  (s.ctl.straps, s.role.supply, s.out.brakeSet, s.out.transferClosed)

/-- What `WalkSound` reads. -/
def WalkSequencer.motion (w : WalkSequencer) : WalkState × Int × Nat × Nat := (w.state, w.reference, w.left, w.right)

theorem State.SupplySound.congr {s t : State} (h : s.SupplySound) (he : t.coupling = s.coupling) : t.SupplySound := by
  simp only [State.coupling, Prod.mk.injEq] at he
  obtain ⟨hstraps, hsupply, hbrake, htransfer⟩ := he
  unfold State.SupplySound
  rw [State.is_congr hstraps, hsupply, hbrake, htransfer]
  exact h

theorem State.WalkSound.congr {s t : State} (h : s.WalkSound) (he : t.walk.motion = s.walk.motion) : t.WalkSound := by
  simp only [WalkSequencer.motion, Prod.mk.injEq] at he
  obtain ⟨hstate, href, hleft, hright⟩ := he
  unfold State.WalkSound
  rw [hstate, href, hleft, hright]
  exact h

/-- No station but a drag is away from NORMAL. -/
theorem State.SupplySound.is_drag {s : State} (h : s.SupplySound) (hs : s.role.supply ≠ .normal) :
    s.is .drag = true := by
  obtain ⟨-, hdrag, -⟩ := h
  exact Bool.eq_true_of_not_eq_false fun hn => hs (hdrag hn)

/-- In NORMAL it is enough that the transfer output is open. -/
theorem State.SupplySound.of_normal {s : State} (h : s.role.supply = .normal) (ho : s.out.transferClosed = false) :
    s.SupplySound :=
  ⟨fun hc => absurd (hc.symm.trans ho) (by decide), fun _ => h, fun _ hn => absurd h hn⟩

/-! ### Straps at returns and removed causes -/

@[simp] theorem State.tryRun_straps (s : State) : s.tryRun.ctl.straps = s.ctl.straps :=
  (State.tryRun_orderly (p := True) s).drifted.straps

@[simp] theorem State.removeCause_straps (s : State) (c : HoldCause) :
    (s.removeCause c).ctl.straps = s.ctl.straps :=
  (State.removeCause_orderly (p := True) s c).drifted.straps

@[simp] theorem State.returnAlarm_straps (s : State) (c : AlarmCode) :
    (s.returnAlarm c).ctl.straps = s.ctl.straps :=
  (State.returnAlarm_orderly (p := True) s c).drifted.straps

@[simp] theorem State.acknowledge_straps (s : State) : s.acknowledge.ctl.straps = s.ctl.straps :=
  (State.acknowledge_orderly (p := True) s).drifted.straps

namespace Secures

variable {s t u : State}

theorem refl (s : State) : Secures s s := ⟨id, id⟩

theorem trans (h : Secures s t) (h' : Secures t u) : Secures s u := ⟨h'.supply ∘ h.supply, h'.walk ∘ h.walk⟩

/-- What leaves all that the two invariants read. -/
theorem of_eq (h : t.coupling = s.coupling := by rfl) (hw : t.walk.motion = s.walk.motion := by rfl) : Secures s t :=
  ⟨fun hs => hs.congr h, fun hs => hs.congr hw⟩

/-- What leaves straps, driving lines, supply state and walk. -/
theorem kept (hc : t.ctl.straps = s.ctl.straps := by simp) (ho : t.out.lines = s.out.lines := by simp)
    (hr : t.role.supply = s.role.supply := by simp) (hw : t.walk = s.walk := by simp) : Secures s t := by
  simp only [Outputs.lines, Prod.mk.injEq] at ho
  obtain ⟨-, -, hbrake, htransfer⟩ := ho
  exact .of_eq (by simp only [State.coupling, hc, hr, hbrake, htransfer]) (by rw [hw])

theorem ite {p : Prop} [Decidable p] (h : p → Secures s t) (h' : ¬p → Secures s u) :
    Secures s (if p then t else u) := by
  split
  · next hp => exact h hp
  · next hp => exact h' hp

theorem guarded {p : Prop} [Decidable p] (h : p → Secures s t) : Secures s (if p then t else s) :=
  .ite h fun _ => .refl s

theorem foldl {α : Type} {f : State → α → State} (hf : ∀ s x, Secures s (f s x)) (l : List α) (s : State) :
    Secures s (l.foldl f s) := by
  induction l generalizing s with
  | nil => exact .refl s
  | cons x l ih => exact (hf s x).trans (ih _)

end Secures

/-! ### Brake and contactor -/

theorem State.setBrake_true_secures (s : State) : Secures s (s.setBrake true) :=
  ⟨fun ⟨hclosed, hdrag, _⟩ => ⟨hclosed, hdrag, fun _ _ => rfl⟩, id⟩

/-- The brake of a drag moves freely in NORMAL alone. -/
theorem State.setBrake_secures {s : State} (b : Bool) (h : s.is .drag = true → s.role.supply = .normal) :
    Secures s (s.setBrake b) :=
  ⟨fun ⟨hclosed, hdrag, _⟩ => ⟨hclosed, hdrag, fun hd hn => absurd (h hd) hn⟩, id⟩

theorem State.setTransfer_false_secures (s : State) : Secures s (s.setTransfer false) :=
  ⟨fun ⟨_, hdrag, hbrake⟩ => ⟨fun h => absurd h Bool.false_ne_true, hdrag, hbrake⟩, id⟩

/-- A supply away from NORMAL goes on to another such state. -/
theorem State.modRole_away_secures {s : State} (f : RoleLogic → RoleLogic) (h : s.role.supply ≠ .normal)
    (hf : (f s.role).supply ≠ .normal) : Secures s (s.modRole f) :=
  ⟨fun hs => ⟨fun _ => hf, fun hn => absurd (hs.is_drag h) (by rw [show s.is .drag = false from hn]; decide),
    fun hd _ => hs.2.2 hd h⟩, id⟩

/-- Role logic changes beside the supply state. -/
theorem State.modRole_secures (s : State) (f : RoleLogic → RoleLogic)
    (h : (f s.role).supply = s.role.supply := by rfl) : Secures s (s.modRole f) :=
  .of_eq (by simp only [State.coupling, State.modRole_role, h]; rfl)

theorem State.modDrive_secures (s : State) (f : DriveRegulator → DriveRegulator) : Secures s (s.modDrive f) := .of_eq

theorem State.clearReference_secures (s : State) : Secures s s.clearReference := .of_eq

theorem State.returnAlarm_secures (s : State) (c : AlarmCode) : Secures s (s.returnAlarm c) := .kept

/-- With the transfer output open the supply may end (R130). -/
theorem State.supplyNormal_secures {s : State} (h : s.out.transferClosed = false) : Secures s s.supplyNormal := by
  have hnormal : Secures s (s.modRole fun r =>
      { r with supply := .normal, transferLimit := none, returnLimit := none }) :=
    ⟨fun _ => .of_normal rfl h, id⟩
  exact hnormal.trans (State.returnAlarm_secures _ _)

theorem State.openTransfer_secures (s : State) : Secures s s.openTransfer :=
  (s.setTransfer_false_secures.trans (State.modRole_secures _ _)).trans
    (.guarded fun _ => State.supplyNormal_secures rfl)

/-! ### The walk references -/

/-- The walk sequencer changes beside state and references. -/
theorem State.modWalk_secures (s : State) (f : WalkSequencer → WalkSequencer)
    (h : (f s.walk).motion = s.walk.motion := by rfl) : Secures s (s.modWalk f) :=
  .of_eq rfl h

/-- A walk state entered at rest leaves no reference (R132). -/
theorem State.enterWalk_secures (s : State) (x : WalkState) : Secures s (s.enterWalk x) := by
  refine ⟨fun hs => hs.congr rfl, fun ⟨hleft, hright, _⟩ => ?_⟩
  unfold State.WalkSound
  cases hx : x.moves <;> simp [State.enterWalk, hx, hleft, hright]

theorem camReference_le (x : Int) : camReference x ≤ 1000 := by
  have := clamp_le 0 1000 x (by decide)
  unfold camReference
  omega

/-- The references of a walk that moves (R132). -/
theorem State.walkReferences_secures {s : State} (h : s.walk.state.moves = true) : Secures s s.walkReferences :=
  ⟨fun hs => hs.congr rfl, fun _ =>
    ⟨camReference_le _, camReference_le _, fun hn => absurd (h.symm.trans hn) (by decide)⟩⟩

end Sys2Proof.Machine
end

section
/-!
PROOFS. `Secures`: alarms, capture store, swing, walk, supply and the consent engine.
-/

set_option Elab.async false

namespace Sys2Proof.Machine

/-! ### Alarms and the capture store -/

theorem State.raiseWarn_secures (s : State) (c : AlarmCode) (v : Int) : Secures s (s.raiseWarn c v) := .kept

theorem State.tryRun_secures (s : State) : Secures s s.tryRun := .kept

theorem State.removeCause_secures (s : State) (c : HoldCause) : Secures s (s.removeCause c) := .kept

theorem State.settleTrips_secures (s : State) : Secures s s.settleTrips := .guarded fun _ => s.removeCause_secures _

theorem State.armAndNotice_secures (s : State) (c : AlarmCode) (v : Int) (m : Mode) :
    Secures s (s.armAndNotice c v m) :=
  .kept

theorem State.modCapture_secures (s : State) (f : CaptureStore → CaptureStore) : Secures s (s.modCapture f) :=
  .kept

theorem State.modPeers_secures (s : State) (f : PeerTable → PeerTable) : Secures s (s.modPeers f) := .kept

theorem State.removePropose_secures (s : State) (n : Byte) : Secures s (s.removePropose n) := .kept

theorem State.acknowledge_secures (s : State) : Secures s s.acknowledge :=
  (Secures.foldl (fun u c => .kept (t := u.ackCode c)) allCodes s).trans (State.settleTrips_secures _)

theorem State.becomeKept_secures (s : State) (i : Nat) : Secures s (s.becomeKept i) :=
  .ite (fun _ => .kept) fun _ => .kept

theorem State.keepById_secures (s : State) (id : ArmId) : Secures s (s.keepById id) :=
  Secures.trans .kept (.foldl State.becomeKept_secures _ (s.modCapture _))

theorem State.takeKeepNotice_secures (s : State) (id : ArmId) : Secures s (s.takeKeepNotice id) :=
  .ite (fun _ => .kept) fun _ => s.keepById_secures id

theorem State.settleDecision_secures (s : State) (d : Decision) : Secures s (s.settleDecision d) := by
  unfold State.settleDecision
  split
  · exact .refl s
  · dsimp only
    split
    · exact Secures.trans .kept (State.keepById_secures _ _)
    · exact .kept

theorem State.decideDue_secures (s : State) : Secures s s.decideDue :=
  Secures.trans .kept (.foldl State.settleDecision_secures _ (s.modCapture _))

theorem State.settlePost_secures (s : State) (i : Nat) : Secures s (s.settlePost i) := by
  unfold State.settlePost
  refine .ite (fun _ => ?_) fun _ => .ite (fun _ => .kept) fun _ => .kept
  dsimp only
  split
  · exact (s.becomeKept_secures i).trans .kept
  · exact s.becomeKept_secures i

theorem State.endPost_secures (s : State) : Secures s s.endPost := by
  unfold State.endPost
  split
  · split
    · exact (s.settlePost_secures _).trans (State.modCapture_secures _ _)
    · exact .refl s
  · exact .refl s

theorem State.releaseHead_secures (s : State) : Secures s s.releaseHead := by
  unfold State.releaseHead
  split
  · exact .refl s
  · dsimp only
    split <;> exact .kept

/-! ### Moves that several events share -/

theorem State.withdrawPermission_secures (s : State) : Secures s s.withdrawPermission :=
  .ite (fun _ => .refl s) fun _ =>
    (s.setBrake_true_secures.trans (State.clearReference_secures _)).trans (State.modDrive_secures _ _)

theorem State.clearProposal_secures (s : State) : Secures s s.clearProposal := by
  have hclear : Secures s
      (if (s.modOwn fun o => { o with status := .idle }).swingLead then
        (s.modOwn fun o => { o with status := .idle }).withdrawPermission
      else s.modOwn fun o => { o with status := .idle }) :=
    Secures.trans .kept (.guarded fun _ => State.withdrawPermission_secures _)
  unfold State.clearProposal
  split
  · exact hclear
  · exact hclear
  all_goals exact .refl s

theorem State.dropSectorMarks_secures (s : State) : Secures s s.dropSectorMarks :=
  (s.modRole_secures _).trans (.guarded fun _ => State.returnAlarm_secures _ _)

theorem State.lockSwing_secures (s : State) : Secures s s.lockSwing :=
  (s.modRole_secures _).trans (State.dropSectorMarks_secures _)

theorem State.raiseWithdrawn_secures (s : State) : Secures s s.raiseWithdrawn := .kept

theorem State.stopSwing_secures (s : State) : Secures s s.stopSwing := by
  refine .guarded fun _ => ?_
  split
  · exact s.lockSwing_secures.trans (State.clearProposal_secures _)
  · exact (s.lockSwing_secures.trans (State.raiseWithdrawn_secures _)).trans (State.clearProposal_secures _)
  all_goals exact .refl s

theorem State.withdrawSwing_secures (s : State) (x : Station × Reason) : Secures s (s.withdrawSwing x) :=
  .guarded fun _ => (s.modRole_secures _).trans (State.dropSectorMarks_secures _)

theorem State.enterStopping_secures (s : State) (x : StopPhase) : Secures s (s.enterStopping x) :=
  (s.enterWalk_secures .stopping).trans (State.modWalk_secures _ _)

theorem State.stopWalk_secures (s : State) : Secures s s.stopWalk := by
  unfold State.stopWalk
  split
  · exact s.enterStopping_secures _
  · exact (s.enterWalk_secures .idle).trans (State.clearProposal_secures _)
  all_goals exact .refl s

theorem State.abortWalk_secures (s : State) (v : Int) : Secures s (s.abortWalk v) :=
  .ite (fun _ => s.stopWalk_secures.trans .kept) fun _ => s.stopWalk_secures

theorem State.endSupply_secures (s : State) : Secures s s.endSupply := by
  have hend (h : s.role.supply ≠ .normal) : Secures s (((s.clearReference).modRole fun r =>
      { r with supply := .returning, transferLimit := none }).openTransfer) :=
    (s.clearReference_secures.trans (State.modRole_away_secures _ h (by exact SupplyState.noConfusion))).trans
      (State.openTransfer_secures _)
  unfold State.endSupply
  split
  · next h => exact hend (by rw [h]; decide)
  · next h => exact hend (by rw [h]; decide)
  all_goals exact .refl s

/-- A drag in supply hands it back (R130). -/
theorem State.returnSupply_secures {s : State} (h : s.role.supply ≠ .normal) : Secures s s.returnSupply :=
  (State.modRole_away_secures _ h (by exact SupplyState.noConfusion)).trans
    (.guarded fun _ => State.openTransfer_secures _)

/-! ### The consent engine -/

theorem State.tellCancel_secures (s : State) (k : ProposalKind) : Secures s (s.tellCancel k) := by
  unfold State.tellCancel
  split
  · exact .guarded fun _ => s.modRole_secures _
  · exact .guarded fun _ => s.enterWalk_secures _

theorem State.cancelProposal_secures (s : State) (x : CancelOutcome) : Secures s (s.cancelProposal x) := by
  unfold State.cancelProposal
  dsimp only
  split
  · exact (Secures.trans .of_eq (State.tellCancel_secures (s.modOwn _) _)).trans (State.raiseWarn_secures _ _ _)
  · exact .kept

theorem State.tellProposing_secures (s : State) (k : ProposalKind) : Secures s (s.tellProposing k) := by
  unfold State.tellProposing
  split
  · exact s.modRole_secures _
  · exact s.enterWalk_secures _

theorem State.newProposal_secures (s : State) (k : ProposalKind) : Secures s (s.newProposal k) :=
  (s.returnAlarm_secures _).trans (Secures.trans .of_eq (State.tellProposing_secures (State.modOwn _ _) k))

theorem State.requestProposal_secures (s : State) (k : ProposalKind) : Secures s (s.requestProposal k) := by
  rw [State.requestProposal_eq]
  refine .ite (fun _ => .refl s) fun _ => (s.newProposal_secures k).trans ?_
  split
  · exact .ite (fun _ => State.cancelProposal_secures _ _) fun _ => .kept
  · exact .kept

theorem State.expireSendLimit_secures (s : State) : Secures s s.expireSendLimit :=
  .guarded fun _ => (s.cancelProposal_secures _).trans (State.removePropose_secures _ _)

theorem State.holdNew_secures (s : State) (q : Station) (n : Byte) (k : ProposalKind) :
    Secures s (s.holdNew q n k) :=
  .kept

theorem State.settlePropose_secures (s : State) (q : Station) (n : Byte) (k : ProposalKind) :
    Secures s (s.settlePropose q n k) := by
  unfold State.settlePropose
  split
  · exact .kept
  · exact .guarded fun _ => ((s.cancelProposal_secures _).trans (State.removePropose_secures _ _)).trans
      (State.holdNew_secures _ _ _ _)
  · exact .refl s

theorem State.takePropose_secures (s : State) (q : Station) (n : Byte) (k : ProposalKind) :
    Secures s (s.takePropose q n k) :=
  .ite (fun _ => (s.settlePropose_secures q n k).trans .kept) fun _ => .guarded fun _ => .kept

theorem State.takeCurrentObject_secures (s : State) (x : Station × Reason) :
    Secures s (s.takeCurrentObject x) := by
  unfold State.takeCurrentObject
  split
  · exact .kept
  · split
    · exact s.abortWalk_secures _
    all_goals exact Secures.trans .kept (State.withdrawSwing_secures (s.modOwn _) x)
  all_goals exact .refl s

theorem State.takeObject_secures (s : State) (src q : Station) (n : Byte) (r : Reason) :
    Secures s (s.takeObject src q n r) :=
  .ite (fun _ => .refl s) fun _ => .ite (fun _ => s.takeCurrentObject_secures _) fun _ => .kept

theorem State.tellCommit_secures (s : State) (k : ProposalKind) : Secures s (s.tellCommit k) := by
  unfold State.tellCommit
  split
  · exact .guarded fun _ => s.modRole_secures _
  · exact .guarded fun _ => (s.enterWalk_secures _).trans (State.modWalk_secures _ _)

theorem State.expireWindow_secures (s : State) : Secures s s.expireWindow := by
  rcases s.expireWindow_cases with h | ⟨-, k, -, ⟨x, -, h⟩ | ⟨-, h⟩⟩
  · rw [h]
    exact .refl s
  · rw [h]
    exact s.cancelProposal_secures x
  · rw [h]
    exact Secures.trans .of_eq (State.tellCommit_secures (s.modOwn _) k)

end Sys2Proof.Machine
end

section
/-!
PROOFS. `Secures`: HOLD, TRIP and STOP, and the peer table.
-/

set_option Elab.async false

namespace Sys2Proof.Machine

/-! ### HOLD, TRIP and STOP -/

theorem State.dropToHold_secures (s : State) : Secures s s.dropToHold := .of_eq

theorem State.halted_secures (s : State) : Secures s s.halted := .of_eq

theorem State.enterHold_secures (s : State) : Secures s s.enterHold :=
  (s.dropToHold_secures.trans (.guarded fun _ => State.modDrive_secures _ _)).trans
    (.guarded fun _ => State.stopWalk_secures _)

theorem State.addCause_secures (s : State) (c : HoldCause) : Secures s (s.addCause c) :=
  .ite (fun _ => .refl s) fun _ => .ite (fun _ => Secures.trans .kept (s.putCause c true).enterHold_secures)
    fun _ => .kept

theorem State.addLocalTrip_secures (s : State) : Secures s s.addLocalTrip :=
  .ite (fun _ => .refl s) fun _ => (s.addCause_secures _).trans (State.endSupply_secures _)

theorem State.raiseTrip_secures (s : State) (c : AlarmCode) (v : Int) : Secures s (s.raiseTrip c v) :=
  .ite (fun _ => .refl s) fun _ =>
    (Secures.trans (t := s.latch c v) .kept (.guarded fun _ => State.addLocalTrip_secures _)).trans
      (State.armAndNotice_secures _ _ _ _)

theorem State.braked_secures (s : State) (c : ForcedCause) : Secures s (s.braked c) :=
  ((s.enterWalk_secures .forced).trans (State.setBrake_true_secures _)).trans (State.modWalk_secures _ _)

theorem State.enterForced_secures (s : State) (c : ForcedCause) : Secures s (s.enterForced c) :=
  (s.braked_secures c).trans (State.raiseTrip_secures _ _ _)

theorem State.forceWalk_secures (s : State) (c : ForcedCause) : Secures s (s.forceWalk c) := by
  unfold State.forceWalk
  split
  · exact s.enterForced_secures c
  · exact s.enterForced_secures c
  · exact .guarded fun _ => s.enterForced_secures c
  · exact .guarded fun _ => s.enterForced_secures c
  · exact s.modWalk_secures _
  all_goals exact .refl s

theorem State.clearForced_secures (s : State) (c : ForcedCause) : Secures s (s.clearForced c) :=
  .ite (fun _ => .refl s) fun _ => (s.modWalk_secures _).trans (.guarded fun _ => State.returnAlarm_secures _ _)

theorem State.stopSupply_secures (s : State) : Secures s s.stopSupply := by
  unfold State.stopSupply
  split
  · exact s.endSupply_secures
  · exact s.endSupply_secures
  · exact .guarded fun _ => s.clearReference_secures.trans (State.openTransfer_secures _)
  · exact .refl s

theorem State.makeSafe_secures (s : State) : Secures s s.makeSafe :=
  ((s.clearReference_secures.trans (State.setBrake_true_secures _)).trans
    (State.setTransfer_false_secures _)).trans (State.modDrive_secures _ _)

@[simp] theorem State.firstWriteBlock_straps (s : State) : s.firstWriteBlock.ctl.straps = s.ctl.straps :=
  (State.firstWriteBlock_orderly (p := True) s).drifted.straps

@[simp] theorem State.reportEvent_straps (s : State) : s.reportEvent.ctl.straps = s.ctl.straps :=
  (State.reportEvent_orderly (p := True) s).drifted.straps

theorem State.reportEvent_secures (s : State) : Secures s s.reportEvent := .kept

theorem State.startReporting_secures (s : State) (m : Mode) : Secures s (s.startReporting m) := by
  unfold State.startReporting
  split
  · exact Secures.trans .kept (State.reportEvent_secures s.firstWriteBlock)
  · exact .guarded fun _ => s.reportEvent_secures
  all_goals exact .refl s

theorem State.enterStop_secures (s : State) : Secures s s.enterStop :=
  .ite (fun _ => .refl s) fun _ =>
    (((s.halted_secures.trans (State.stopSupply_secures _)).trans
      (State.makeSafe_secures _)).trans (State.stopSwing_secures _)).trans (State.forceWalk_secures _ _) |>.trans
      (State.startReporting_secures _ _)

theorem State.raiseStop_secures (s : State) (c : AlarmCode) (v : Int) : Secures s (s.raiseStop c v) :=
  .ite (fun _ => .refl s) fun _ => (Secures.trans .kept (s.latch c v).enterStop_secures).trans .kept

/-! ### The peer table -/

theorem State.findConflict_secures (s : State) (n : Station) : Secures s (s.findConflict n) :=
  .guarded fun _ => (Secures.trans .kept (State.raiseTrip_secures (s.modPeers _) _ _)).trans
    (State.addCause_secures _ _)

theorem State.endConflict_secures (s : State) : Secures s s.endConflict := .guarded fun _ => .kept

theorem State.addPeerStop_secures (s : State) (b : Bool) : Secures s (s.addPeerStop b) :=
  .guarded fun _ => s.addCause_secures _

theorem State.removePeerStop_secures (s : State) (b : Bool) : Secures s (s.removePeerStop b) :=
  .guarded fun _ => .kept

theorem State.returnMismatch_secures (s : State) (b : Bool) : Secures s (s.returnMismatch b) :=
  .guarded fun _ => .kept

theorem State.completePicture_secures (s : State) : Secures s s.completePicture :=
  .ite (fun _ => .refl s) fun _ => .kept

theorem State.endReturning_secures (s : State) : Secures s s.endReturning :=
  .guarded fun _ => (s.enterWalk_secures _).trans (State.clearProposal_secures _)

/-- A walk station that starts to step is no drag. -/
theorem State.stepWalk_secures {s : State} (h : s.is .walk = true) : Secures s s.stepWalk :=
  (s.enterWalk_secures .stepping).trans (State.setBrake_secures false fun hd =>
    absurd ((State.is_of_is h .drag).symm.trans hd) (by decide))

theorem State.walkTakesDrag_secures {s : State} (h : s.is .walk = true) (n : Station) :
    Secures s (s.walkTakesDrag n) := by
  have hforced : Secures s
      (if (if (s.entry n).shows .walkSupply then s else s.forceWalk .supply).allSupplying then
        (if (s.entry n).shows .walkSupply then s else s.forceWalk .supply).clearForced .supply
      else if (s.entry n).shows .walkSupply then s else s.forceWalk .supply) :=
    (Secures.ite (fun _ => .refl s) fun _ => s.forceWalk_secures _).trans
      (.guarded fun _ => State.clearForced_secures _ _)
  unfold State.walkTakesDrag
  split
  · exact .guarded fun _ => State.stepWalk_secures h
  · exact hforced
  · exact hforced
  · exact hforced
  · exact s.endReturning_secures
  all_goals exact .refl s

theorem State.dragTakesWalk_secures (s : State) (w : WalkState) : Secures s (s.dragTakesWalk w) := by
  unfold State.dragTakesWalk
  split
  · next h => exact State.returnSupply_secures (by rw [h]; decide)
  · next h => exact State.returnSupply_secures (by rw [h]; decide)
  · next h => exact State.returnSupply_secures (by rw [h]; decide)
  · next h => exact State.returnSupply_secures (by rw [h]; decide)
  · exact s.clearReference_secures
  · exact .refl s

theorem State.walkActive_secures (s : State) (w : WalkState) : Secures s (s.walkActive w) :=
  .ite (fun _ => s.addCause_secures _) fun _ => .kept

theorem State.is_walk_of_walkWorks {s : State} (h : s.walkWorks = true) : s.is .walk = true := by
  simp only [State.walkWorks, Bool.and_eq_true] at h
  exact h.1

theorem State.dutiesTake_secures (s : State) (n : Station) (f : ReportFields) :
    Secures s (s.dutiesTake n f) :=
  (Secures.guarded fun h => State.walkTakesDrag_secures
      (State.is_walk_of_walkWorks (Bool.and_eq_true_iff.mp h).1) n).trans
    (.guarded fun _ => (Secures.guarded fun _ => State.dragTakesWalk_secures _ _).trans
      (.guarded fun _ => State.walkActive_secures _ _))

theorem State.partnerTakes_secures (s : State) (n : Station) : Secures s (s.partnerTakes n) :=
  .ite (fun _ => .kept) fun _ => .guarded fun _ => (s.modDrive_secures _).trans (State.returnAlarm_secures _ _)

theorem State.raiseUnlisted_secures (s : State) (n : Station) (old : PeerEntry) :
    Secures s (s.raiseUnlisted n old) :=
  .guarded fun _ => .kept

theorem State.raiseMismatch_secures (s : State) (n : Station) (old : PeerEntry) :
    Secures s (s.raiseMismatch n old) :=
  .guarded fun _ => s.raiseTrip_secures _ _

/-- What a report brings to records and duties, and the marks of an aged entry that it returns. -/
theorem State.reportTaken_secures (s : State) (n : Station) (f : ReportFields) (b : Bool) :
    Secures s ((((s.noteEcho n f).updateHeld n f).dutiesTake n f).returnLost b).returnStale :=
  ((Secures.trans .kept (State.dutiesTake_secures ((s.noteEcho n f).updateHeld n f) n f)).trans
    (.guarded fun _ => State.returnAlarm_secures _ _)).trans
      (.guarded fun _ => (State.modPeers_secures _ _).trans (State.returnAlarm_secures _ _))

theorem State.acceptReport_secures (s : State) (n : Station) (seq : BitVec 4) (role : BitVec 3)
    (f : ReportFields) : Secures s (s.acceptReport n seq role f) :=
  ((((((((Secures.trans (t := s.modEntry n _) .kept (State.raiseUnlisted_secures _ _ _)).trans
    (State.raiseMismatch_secures _ _ _)).trans (State.findConflict_secures _ _)).trans
    (State.addPeerStop_secures _ _)).trans (State.reportTaken_secures _ _ _ _)).trans
    (State.returnMismatch_secures _ _)).trans (State.endConflict_secures _)).trans
    (State.removePeerStop_secures _ _)).trans (State.partnerTakes_secures _ _) |>.trans
    (State.completePicture_secures _)

theorem State.takeReport_secures (s : State) (n : Station) (l : List Byte) :
    Secures s (s.takeReport n l) :=
  .ite (fun _ => .refl s) fun _ => .ite (fun _ => .kept) fun _ =>
    .ite (fun _ => .kept) fun _ => s.acceptReport_secures n _ _ _

theorem State.partnerStale_secures (s : State) (n : Station) : Secures s (s.partnerStale n) :=
  .guarded fun _ => (s.modDrive_secures _).trans (State.raiseWarn_secures _ _ _)

theorem State.walkDragStale_secures (s : State) (n : Station) : Secures s (s.walkDragStale n) :=
  .guarded fun _ => (s.abortWalk_secures _).trans (State.endReturning_secures _)

theorem State.goStale_secures (s : State) (n : Station) : Secures s (s.goStale n) :=
  ((((Secures.trans (t := s.modEntry n _) .kept (.guarded fun _ => .kept)).trans
    (State.findConflict_secures _ _)).trans (State.partnerStale_secures _ _)).trans
    (State.walkDragStale_secures _ _)).trans (State.endConflict_secures _)

theorem State.rosterLost_secures (s : State) (n : Station) : Secures s (s.rosterLost n) :=
  .guarded fun _ => (s.raiseTrip_secures _ _).trans (State.addCause_secures _ _)

theorem State.leadAbsent_secures (s : State) (n : Station) : Secures s (s.leadAbsent n) :=
  .guarded fun _ => s.addCause_secures _

theorem State.walkDragAbsent_secures (s : State) (n : Station) : Secures s (s.walkDragAbsent n) :=
  .guarded fun _ => (s.forceWalk_secures _).trans (State.endReturning_secures _)

theorem State.walkAbsentAtDrag_secures (s : State) (n : Station) : Secures s (s.walkAbsentAtDrag n) :=
  .guarded fun _ => s.endSupply_secures

theorem State.walkAbsentHeld_secures (s : State) (n : Station) : Secures s (s.walkAbsentHeld n) :=
  .guarded fun _ => .kept

theorem State.returnUnlisted_secures (s : State) (n : Station) : Secures s (s.returnUnlisted n) :=
  .guarded fun _ => .kept

theorem State.dropHeldOf_secures (s : State) (n : Station) : Secures s (s.dropHeldOf n) := .kept

theorem State.goAbsent_secures (s : State) (n : Station) : Secures s (s.goAbsent n) :=
  ((((((((((Secures.trans (t := s.modEntry n _) .kept (State.rosterLost_secures _ _)).trans
    (State.findConflict_secures _ _)).trans (State.leadAbsent_secures _ _)).trans
    (State.walkDragAbsent_secures _ _)).trans (State.walkAbsentAtDrag_secures _ _)).trans
    (State.dropHeldOf_secures _ _)).trans (State.returnMismatch_secures _ _)).trans
    (State.endConflict_secures _)).trans (State.removePeerStop_secures _ _)).trans
    (State.returnUnlisted_secures _ _)).trans (State.walkAbsentHeld_secures _ _)

theorem State.stopNotice_secures (s : State) (n : Station) : Secures s (s.stopNotice n) :=
  .guarded fun _ => Secures.trans (t := s.modEntry n _) .kept (State.addPeerStop_secures _ _)

end Sys2Proof.Machine
end

section
/-!
PROOFS. `Secures`: a step of the regulator, a move of the heat levels, and the rest of an expiry.
-/

set_option Elab.async false

namespace Sys2Proof.Machine

/-! ### The step of the regulator -/

theorem State.regulate_secures (s : State) (c t eb : Int) : Secures s (s.regulate c t eb) := .of_eq

theorem State.sectorMarks_secures (s : State) (c : Int) : Secures s (s.sectorMarks c) :=
  .guarded fun _ => (s.modRole_secures _).trans
    (.ite (fun _ => State.raiseWarn_secures _ _ _) fun _ => .guarded fun _ => State.returnAlarm_secures _ _)

/-- The brake of a swing follow follows its lead (R118). -/
theorem State.followBrake_secures {s : State} (h : s.swingFollow = true) : Secures s s.followBrake := by
  have hswing : s.is .swing = true := (Bool.and_eq_true_iff.mp h).1
  have hbrake (b : Bool) : Secures s (s.setBrake b) := State.setBrake_secures b fun hd =>
    absurd ((State.is_of_is hswing .drag).symm.trans hd) (by decide)
  unfold State.followBrake
  split <;> exact hbrake _

theorem State.expireBrakeSet_secures (s : State) : Secures s s.expireBrakeSet :=
  .guarded fun _ => s.setBrake_true_secures.trans (State.modDrive_secures _ _)

/-- A drag is permitted to release its brake in NORMAL alone (R97). -/
theorem State.normal_of_permitsRelease {s : State} (h : s.permitsRelease = true) (hd : s.is .drag = true) :
    s.role.supply = .normal := by
  unfold State.permitsRelease at h
  rw [State.ownRole_of_is hd] at h
  simpa using h

theorem State.brakeRule_secures (s : State) : Secures s s.brakeRule :=
  .ite State.followBrake_secures fun _ =>
    .ite (fun _ => .guarded fun h => State.setBrake_secures false
      (State.normal_of_permitsRelease (Bool.and_eq_true_iff.mp h).2)) fun _ =>
      (s.modDrive_secures _).trans (State.expireBrakeSet_secures _)

theorem State.driveStep_secures (s : State) : Secures s s.driveStep :=
  ((s.sectorMarks_secures _).trans (State.regulate_secures _ _ _ _)).trans (State.brakeRule_secures _)

theorem State.driveExpiry_secures (s : State) : Secures s s.driveExpiry :=
  .ite (fun _ => s.driveStep_secures) fun _ => (s.modDrive_secures _).trans (State.modRole_secures _ _)

/-! ### Measurement and the checks after the step -/

theorem State.modMeas_secures (s : State) (f : Measurement → Measurement) : Secures s (s.modMeas f) := .of_eq

theorem State.expireTachExcess_secures (s : State) : Secures s s.expireTachExcess :=
  .guarded fun _ => (s.modMeas_secures _).trans (State.raiseTrip_secures _ _ _)

theorem State.expireTachRecovery_secures (s : State) : Secures s s.expireTachRecovery :=
  .guarded fun _ => (s.modMeas_secures _).trans (State.returnAlarm_secures _ _)

theorem State.measure_secures (s : State) (raw : Analog) : Secures s (s.measure raw) :=
  (((s.modMeas_secures _).trans (State.modMeas_secures _ _)).trans (State.expireTachExcess_secures _)).trans
    (State.expireTachRecovery_secures _)

theorem State.expireDisagree_secures (s : State) : Secures s s.expireDisagree :=
  .guarded fun _ => (s.modDrive_secures _).trans (State.raiseTrip_secures _ _ _)

theorem State.expireAgree_secures (s : State) : Secures s s.expireAgree :=
  .guarded fun _ => (s.modDrive_secures _).trans (State.returnAlarm_secures _ _)

theorem State.expireLoss_secures (s : State) : Secures s s.expireLoss :=
  .guarded fun _ => (s.modDrive_secures _).trans (State.raiseTrip_secures _ _ _)

theorem State.expireLossClear_secures (s : State) : Secures s s.expireLossClear :=
  .guarded fun _ => (s.modDrive_secures _).trans (State.returnAlarm_secures _ _)

theorem State.watchOvercurrent_secures (s : State) : Secures s s.watchOvercurrent :=
  .ite (fun _ => s.modDrive_secures _) fun _ =>
    .guarded fun _ => (s.modDrive_secures _).trans (State.raiseTrip_secures _ _ _)

theorem State.watchOvervoltage_secures (s : State) : Secures s s.watchOvervoltage :=
  .ite (fun _ => s.modDrive_secures _) fun _ =>
    .guarded fun _ => (s.modDrive_secures _).trans (State.raiseTrip_secures _ _ _)

theorem State.expireClear_secures (s : State) (x : FieldCheck) : Secures s (s.expireClear x) := by
  unfold State.expireClear
  split
  · exact .guarded fun _ => (s.modDrive_secures _).trans (State.returnAlarm_secures _ _)
  · exact .guarded fun _ => (s.modDrive_secures _).trans (State.returnAlarm_secures _ _)

theorem State.checkField_secures (s : State) (d : Int) : Secures s (s.checkField d) :=
  .guarded fun _ => ((((((s.modDrive_secures _).trans (State.expireLoss_secures _)).trans
    (State.expireLossClear_secures _)).trans (State.watchOvercurrent_secures _)).trans
    (State.expireClear_secures _ _)).trans (State.watchOvervoltage_secures _)).trans
    (State.expireClear_secures _ _)

theorem State.checks_secures (s : State) (d : Int) : Secures s (s.checks d) :=
  (((s.modDrive_secures _).trans (State.expireDisagree_secures _)).trans (State.expireAgree_secures _)).trans
    (State.checkField_secures _ _)

/-! ### Role logic -/

theorem State.watchOverload_secures (s : State) : Secures s s.watchOverload :=
  .ite (fun _ => .ite (fun _ => (s.modRole_secures _).trans (State.returnAlarm_secures _ _)) fun _ =>
    s.modRole_secures _) fun _ => s.modRole_secures _

theorem State.expireOverload_secures (s : State) : Secures s s.expireOverload :=
  .guarded fun _ => (s.modRole_secures _).trans (State.raiseTrip_secures _ _ _)

theorem State.checkBoom_secures (s : State) : Secures s s.checkBoom :=
  .guarded fun _ => s.watchOverload_secures.trans (State.expireOverload_secures _)

theorem State.requestSwing_secures (s : State) : Secures s s.requestSwing :=
  .guarded fun _ => (s.returnAlarm_secures _).trans (State.requestProposal_secures _ _)

theorem State.setSwingBrake_secures (s : State) : Secures s s.setSwingBrake :=
  s.setBrake_true_secures.trans (State.modDrive_secures _ _)

theorem State.expireRest_secures (s : State) : Secures s s.expireRest :=
  .guarded fun _ => (s.setSwingBrake_secures.trans (State.lockSwing_secures _)).trans
    (State.clearProposal_secures _)

theorem State.endWithdrawal_secures (s : State) : Secures s s.endWithdrawal :=
  .guarded fun _ => ((s.setSwingBrake_secures.trans (State.lockSwing_secures _)).trans
    (State.raiseWithdrawn_secures _)).trans (State.clearProposal_secures _)

theorem State.swingStep_secures (s : State) : Secures s s.swingStep := by
  unfold State.swingStep
  refine Secures.trans ?_ (State.modRole_secures _ _)
  split
  · exact s.requestSwing_secures
  · exact .refl s
  · exact (s.modRole_secures _).trans (State.expireRest_secures _)
  · exact s.endWithdrawal_secures

/-- A drag at rest begins its transfer with the brake set (R128). -/
theorem State.startTransfer_secures {s : State} (h : s.is .drag = true) : Secures s s.startTransfer := by
  refine .guarded fun ⟨_, _, _, hbrake, _⟩ => Secures.trans
    (t := (s.modRole fun r => { r with supply := .transferring, transferLimit := some s.now }).setTransfer true)
    ⟨fun _ => ?_, fun hw => hw.congr rfl⟩ (State.withdrawPermission_secures _)
  exact ⟨fun _ => by simp, fun hn => absurd (h.symm.trans hn) (by decide), fun _ _ => hbrake⟩

theorem State.openWhenStill_secures (s : State) : Secures s s.openWhenStill :=
  .guarded fun _ => s.openTransfer_secures

theorem State.supplyExpiry_secures (s : State) : Secures s s.supplyExpiry :=
  .guarded fun h => (State.startTransfer_secures h).trans (State.openWhenStill_secures _)

theorem State.contactorRises_secures (s : State) : Secures s s.contactorRises := by
  unfold State.contactorRises
  split
  · next h => exact State.modRole_away_secures _ (by rw [h]; decide) (by exact SupplyState.noConfusion)
  · exact s.modRole_secures _
  all_goals exact .refl s

theorem State.failSupply_secures (s : State) (v : Int) : Secures s (s.failSupply v) :=
  (s.raiseTrip_secures _ _).trans (State.endSupply_secures _)

theorem State.feedbackOpens_secures (s : State) : Secures s s.feedbackOpens :=
  (s.modRole_secures _).trans (.guarded fun _ => State.returnAlarm_secures _ _)

theorem State.contactorFalls_secures (s : State) : Secures s s.contactorFalls := by
  unfold State.contactorFalls
  split
  · exact s.failSupply_secures _
  · exact .ite (fun _ => .refl s) fun hopen => State.supplyNormal_secures (by simpa using hopen)
  · exact s.feedbackOpens_secures
  · exact .refl s

theorem State.expireTransfer_secures (s : State) : Secures s s.expireTransfer :=
  .guarded fun _ => (s.modRole_secures _).trans (State.failSupply_secures _ _)

theorem State.expireReturn_secures (s : State) : Secures s s.expireReturn :=
  .guarded fun _ => (s.modRole_secures _).trans (State.raiseTrip_secures _ _ _)

theorem State.expireClosed_secures (s : State) : Secures s s.expireClosed :=
  .guarded fun _ => (s.modRole_secures _).trans (State.raiseTrip_secures _ _ _)

theorem State.notePhase_secures (s : State) : Secures s s.notePhase := .of_eq

theorem State.roleExpiry_secures (s : State) : Secures s s.roleExpiry :=
  ((s.checkBoom_secures.trans (.guarded fun _ => State.swingStep_secures _)).trans
    (State.supplyExpiry_secures _)).trans (State.notePhase_secures _)

/-! ### The walk sequencer -/

theorem State.checkSkew_secures (s : State) : Secures s s.checkSkew :=
  .ite (fun _ => .guarded fun _ => (s.modWalk_secures _).trans (State.returnAlarm_secures _ _))
    fun _ => .guarded fun _ => (s.modWalk_secures _).trans (State.raiseStop_secures _ _ _)

theorem State.haltWalk_secures (s : State) : Secures s s.haltWalk :=
  (s.enterWalk_secures .halted).trans (State.setBrake_true_secures _)

theorem State.stoppingPhase_secures (s : State) : Secures s s.stoppingPhase := by
  unfold State.stoppingPhase
  split
  · exact .guarded fun _ => s.modWalk_secures _
  · exact .ite (fun _ => s.modWalk_secures _) fun _ => .guarded fun _ => s.haltWalk_secures
  · exact .refl s

theorem State.expireEnd_secures (s : State) : Secures s s.expireEnd :=
  .guarded fun _ => (s.enterWalk_secures _).trans (State.endReturning_secures _)

theorem State.checkEnd_secures (s : State) : Secures s s.checkEnd :=
  .guarded fun _ => (s.modWalk_secures _).trans (State.expireEnd_secures _)

theorem State.walkMoves_secures (s : State) : Secures s s.walkMoves :=
  ((Secures.guarded State.walkReferences_secures).trans (State.checkSkew_secures _)).trans
    (State.stoppingPhase_secures _)

theorem State.walkExpiry_secures (s : State) : Secures s s.walkExpiry :=
  .guarded fun _ => ((s.modWalk_secures _).trans (State.checkEnd_secures _)).trans (State.walkMoves_secures _)

theorem State.beginWalk_secures (s : State) : Secures s s.beginWalk :=
  .ite (fun _ => .refl s) fun _ => (s.returnAlarm_secures _).trans (State.requestProposal_secures _ _)

theorem State.resumeForced_secures {s : State} (h : s.is .walk = true) : Secures s s.resumeForced :=
  .ite (fun _ => .refl s) fun _ => .ite (fun _ => s.haltWalk_secures) fun _ =>
    (s.enterStopping_secures _).trans (State.setBrake_secures false fun hd =>
      absurd ((State.is_of_is h .drag).symm.trans hd) (by decide))

theorem State.walkCommanded_secures {s : State} (h : s.is .walk = true) : Secures s s.walkCommanded := by
  unfold State.walkCommanded
  split
  · exact s.beginWalk_secures
  · exact .guarded fun _ => State.stepWalk_secures h
  · exact .guarded fun _ => State.resumeForced_secures h
  all_goals exact .refl s

theorem State.expireStopHold_secures (s : State) : Secures s s.expireStopHold :=
  .guarded fun _ => (s.modWalk_secures _).trans (State.forceWalk_secures _ _)

theorem State.expireSupplyLimit_secures (s : State) : Secures s s.expireSupplyLimit :=
  .guarded fun _ => ((s.enterWalk_secures _).trans (State.clearProposal_secures _)).trans
    (State.raiseWarn_secures _ _ _)

/-! ### The heat monitor -/

theorem State.modHeat_secures (s : State) (f : HeatMonitor → HeatMonitor) : Secures s (s.modHeat f) := .of_eq

theorem State.formLevel_secures (s : State) : Secures s s.formLevel :=
  (s.modHeat_secures _).trans (.ite (fun _ => State.raiseWarn_secures _ _ _) fun _ =>
    .guarded fun _ => State.returnAlarm_secures _ _)

theorem State.expireDerate_secures (s : State) : Secures s s.expireDerate := by
  refine .guarded fun _ => ?_
  split
  · exact .guarded fun _ => (s.modHeat_secures _).trans (State.formLevel_secures _)
  · exact .guarded fun _ => (s.modHeat_secures _).trans (State.formLevel_secures _)
  · exact .refl s

theorem State.checkOverheat_secures (s : State) : Secures s s.checkOverheat :=
  .ite (fun _ => .guarded fun _ => (s.modHeat_secures _).trans (State.returnAlarm_secures _ _))
    fun _ => .guarded fun _ => (s.modHeat_secures _).trans (State.raiseTrip_secures _ _ _)

theorem State.heatExpiry_secures (s : State) : Secures s s.heatExpiry :=
  .guarded fun _ => (((s.modHeat_secures _).trans (State.modHeat_secures _ _)).trans
    (State.expireDerate_secures _)).trans (State.checkOverheat_secures _)

/-! ### The expiry -/

theorem State.neutralExpiry_secures (s : State) : Secures s s.neutralExpiry :=
  .guarded fun _ => Secures.trans .of_eq (State.tryRun_secures (s.modCtl _))

theorem State.duties_secures (s : State) : Secures s s.duties :=
  ((s.roleExpiry_secures.trans (State.walkExpiry_secures _)).trans (State.heatExpiry_secures _)).trans
    (State.neutralExpiry_secures _)

theorem State.expiryWork_secures (s : State) (raw : Analog) : Secures s (s.expiryWork raw) := by
  have hrestart : Secures s (s.restartRegulation raw) := .kept
  exact (((hrestart.trans (State.measure_secures _ _)).trans (State.driveExpiry_secures _)).trans
    (State.checks_secures _ _)).trans (State.duties_secures _)

theorem State.captureWork_secures (s : State) (v : Sample) : Secures s (s.captureWork v) :=
  (((s.modCapture_secures _).trans (State.modCapture_secures _ _)).trans
    (State.decideDue_secures _)).trans (State.endPost_secures _)

theorem State.withStore_secures (s : State) (k : CaptureStore) : Secures s (s.withStore k) := .of_eq

theorem State.noteQuiet_secures (s : State) : Secures s s.noteQuiet := .of_eq

theorem State.regulationWork_secures (s : State) (raw : Analog) : Secures s (s.regulationWork raw) :=
  .ite (fun _ => ((((s.expiryWork_secures raw).trans (State.withStore_secures _ _)).trans
      (State.captureWork_secures _ _)).trans (State.withStore_secures _ _)).trans
      (State.noteQuiet_secures _)) fun _ =>
    (s.expiryWork_secures raw).trans (State.noteQuiet_secures _)

end Sys2Proof.Machine
end

section
/-!
PROOFS. Link, service, edges, start-up and every command `Secures`; O58.
-/

set_option Elab.async false

namespace Sys2Proof.Machine

/-! ### Link and reception -/

theorem State.modLink_secures (s : State) (f : LinkController → LinkController) : Secures s (s.modLink f) := .kept

theorem State.declareFault_secures (s : State) : Secures s s.declareFault :=
  (Secures.trans .kept (State.raiseTrip_secures (s.discardQueue.modLink _) _ _)).trans (State.addCause_secures _ _)

theorem State.failTransmission_secures (s : State) : Secures s s.failTransmission := by
  unfold State.failTransmission
  split
  · exact ((s.modLink_secures _).trans (State.modLink_secures _ _)).trans
      (.guarded fun _ => State.declareFault_secures _)
  · exact .refl s

theorem State.clearFault_secures (s : State) : Secures s s.clearFault :=
  .guarded fun _ => (s.returnAlarm_secures _).trans (State.removeCause_secures _ _)

theorem State.useCompletion_secures (s : State) (f : OutFrame) : Secures s (s.useCompletion f) := by
  unfold State.useCompletion
  split
  · exact s.clearFault_secures
  · exact .kept
  · exact .guarded fun _ => .kept
  all_goals exact .refl s

theorem State.completeTransmission_secures (s : State) : Secures s s.completeTransmission := by
  have htake : Secures s s.takeCompleted := s.modLink_secures _
  unfold State.completeTransmission
  split
  · exact htake.trans (State.useCompletion_secures _ _)
  · exact .refl s

theorem State.endQuietOut_secures (s : State) : Secures s s.endQuietOut :=
  .guarded fun _ => (s.modLink_secures _).trans (State.reportEvent_secures _)

theorem State.clash_secures (s : State) (src : BitVec 4) : Secures s (s.clash src) :=
  (s.modLink_secures _).trans (.ite (fun _ => .refl _) fun _ => State.raiseStop_secures _ _ _)

theorem State.expireClash_secures (s : State) : Secures s s.expireClash :=
  .guarded fun _ => (s.modLink_secures _).trans (State.returnAlarm_secures _ _)

theorem State.countMalformed_secures (s : State) : Secures s s.countMalformed := s.modLink_secures _

theorem State.freeBuffer_secures (s : State) : Secures s s.freeBuffer := s.modLink_secures _

/-- A received frame is judged, and handed over by `hand` if it is usable. -/
theorem State.receive_secures {s : State} (f : Frame) {hand : State → State} (h : Secures s (hand s)) :
    Secures s (s.receive f hand) :=
  .ite (fun _ => .refl s) fun _ => (Secures.ite (fun _ => s.clash_secures _) fun _ =>
    .ite (fun _ => s.countMalformed_secures) fun _ => h).trans (State.freeBuffer_secures _)

theorem State.handReport_secures (s : State) (f : Frame) : Secures s (s.handReport f) := by
  unfold State.handReport
  split
  · exact s.takeReport_secures _ _
  · exact .refl s

theorem State.handPropose_secures (s : State) (f : Frame) : Secures s (s.handPropose f) := by
  unfold State.handPropose
  split
  · dsimp only
    split
    · exact .ite (fun _ => s.countMalformed_secures) fun _ => s.takePropose_secures _ _ _
    · exact s.countMalformed_secures
  · exact .refl s

theorem State.handObject_secures (s : State) (f : Frame) : Secures s (s.handObject f) := by
  unfold State.handObject
  split
  · dsimp only
    split
    · exact .ite (fun _ => s.countMalformed_secures) fun _ => s.takeObject_secures _ _ _ _
    · exact s.countMalformed_secures
  · exact .refl s

theorem State.takeNotice_secures (s : State) (src : Station) (c : AlarmCode) (v : Word16) (b : Bool)
    (q : Word16) : Secures s (s.takeNotice src c v b q) := by
  have hlog : Secures s (s.log c .peerNotice v (stationAddress src)) := .kept
  exact (hlog.trans (.guarded fun _ => State.stopNotice_secures _ _)).trans
    (.guarded fun _ => State.modCapture_secures _ _)

theorem State.handNotice_secures (s : State) (f : Frame) : Secures s (s.handNotice f) := by
  unfold State.handNotice
  split
  · split
    · exact .ite (fun _ => s.takeNotice_secures _ _ _ _ _) fun _ => s.countMalformed_secures
    · exact s.countMalformed_secures
  · exact .refl s

theorem State.handKeep_secures (s : State) (f : Frame) : Secures s (s.handKeep f) := by
  unfold State.handKeep
  dsimp only
  split
  · exact .ite (fun _ => s.countMalformed_secures) fun _ =>
      .guarded fun _ => s.takeKeepNotice_secures _
  · exact s.countMalformed_secures

/-! ### The service logic -/

theorem State.queueFrame_secures (s : State) (f : OutFrame) : Secures s (s.queueFrame f) := .kept

theorem State.setSlot_secures (s : State) (b : Bool) : Secures s (s.setSlot b) := .of_eq

theorem State.request_secures (s : State) (h : Header) (code : Byte) (args : List Byte)
    (work : State → State × Reply) (hw : ∀ u, Secures u (work u).1) :
    Secures s (s.request h code args work) := by
  refine State.receive_secures _ ?_
  unfold State.handRequest
  split
  · exact .guarded fun _ => .ite (fun _ => .refl s) fun _ =>
      .ite (fun _ => .ite (fun _ => .refl s) fun _ => s.queueFrame_secures _) fun _ =>
        ((s.setSlot_secures true).trans (hw _)).trans (State.queueFrame_secures _ _)
  · exact .refl s

theorem workAck_secures (args : List Byte) (s : State) : Secures s (workAck args s).1 := by
  unfold workAck
  split
  · exact .refl s
  · dsimp only
    exact s.acknowledge_secures

theorem workRelease_secures (args : List Byte) (s : State) : Secures s (workRelease args s).1 := by
  unfold workRelease
  split
  · exact .refl s
  · split
    · exact s.releaseHead_secures
    · exact .refl s

theorem workForce_secures (args : List Byte) (s : State) : Secures s (workForce args s).1 := by
  unfold workForce
  split
  · split
    · exact (s.modHeat_secures _).trans (State.formLevel_secures _)
    · exact .refl s
  · exact .refl s

/-! ### Edges -/

theorem State.modPins_secures (s : State) (f : Pins → Pins) : Secures s (s.modPins f) := .of_eq

/-- What an input that has settled does, its settling included. -/
theorem Secures.settled {s t : State} {f : Pins → Pins} {g : Measurement → Measurement}
    (h : Secures ((s.modPins f).modMeas g) t) : Secures s t :=
  Secures.trans (t := (s.modPins f).modMeas g) .of_eq h

theorem State.settleSupplyOk_secures (s : State) (x : Bool) : Secures s (s.settleSupplyOk x) :=
  .ite (fun _ => .refl s) fun _ => .of_eq

theorem State.permitRises_secures (s : State) : Secures s s.permitRises :=
  (s.removeCause_secures _).trans (State.tryRun_secures _)

theorem State.permitFalls_secures (s : State) : Secures s s.permitFalls :=
  .guarded fun _ => s.enterHold_secures

theorem State.ackRises_secures (s : State) : Secures s s.ackRises :=
  .ite (fun _ => .refl s) fun _ => s.acknowledge_secures

theorem State.limitRises_secures (s : State) : Secures s s.limitRises := by
  refine .guarded fun _ => ?_
  split
  · exact (s.modMeas_secures _).trans (State.raiseWarn_secures _ _ _)
  · exact s.modMeas_secures _
  all_goals exact .refl s

theorem State.limitFalls_secures (s : State) : Secures s s.limitFalls :=
  .guarded fun _ => s.returnAlarm_secures _

theorem State.homeLeftRises_secures (s : State) : Secures s s.homeLeftRises :=
  .guarded fun _ => s.modMeas_secures _

theorem State.homeRightRises_secures (s : State) : Secures s s.homeRightRises :=
  .guarded fun _ => s.modMeas_secures _

theorem State.feedbackRises_secures (s : State) : Secures s s.feedbackRises :=
  .guarded fun _ => s.contactorRises_secures

theorem State.feedbackFalls_secures (s : State) : Secures s s.feedbackFalls :=
  .guarded fun _ => s.contactorFalls_secures

theorem State.walkCmdRises_secures (s : State) : Secures s s.walkCmdRises :=
  .guarded fun h => State.walkCommanded_secures (State.is_walk_of_walkWorks (Bool.and_eq_true_iff.mp h).1)

theorem State.walkCmdFalls_secures (s : State) : Secures s s.walkCmdFalls :=
  .guarded fun _ => s.stopWalk_secures

theorem State.walkStopRises_secures (s : State) : Secures s s.walkStopRises :=
  .guarded fun _ => (s.modWalk_secures _).trans (State.stopWalk_secures _)

theorem State.walkStopFalls_secures (s : State) : Secures s s.walkStopFalls :=
  .guarded fun _ => (s.modWalk_secures _).trans (State.clearForced_secures _ _)

theorem State.countEdge_secures (s : State) (x : PairId) (y : Phase) (us : Nat) :
    Secures s (s.countEdge x y us) := by
  unfold State.countEdge
  split
  · exact (s.modPins_secures _).trans (.guarded fun _ => State.modMeas_secures _ _)
  · exact (s.modPins_secures _).trans (.guarded fun _ => State.modMeas_secures _ _)

theorem State.skipEdge_secures (s : State) (x : PairId) : Secures s (s.skipEdge x) :=
  (s.modPins_secures _).trans (.guarded fun _ => State.modMeas_secures _ _)

/-! ### Start-up -/

theorem State.listenDone_secures (s : State) : Secures s s.listenDone := .of_eq

theorem State.leaveListen_secures (s : State) : Secures s s.leaveListen :=
  (s.listenDone_secures.trans .kept).trans (State.reportEvent_secures s.listenDone.firstWriteBlock)

theorem State.homeAtLoad_secures (s : State) : Secures s s.homeAtLoad := by
  unfold State.homeAtLoad
  split
  · exact .guarded fun _ => s.modMeas_secures _
  · exact .guarded fun _ => s.modMeas_secures _
  · exact .guarded fun _ => s.modMeas_secures _
  · exact (Secures.guarded fun _ => s.modMeas_secures _).trans (.guarded fun _ => State.modMeas_secures _ _)
  · exact .refl s

theorem State.dutiesAtLoad_secures (s : State) : Secures s s.dutiesAtLoad := by
  unfold State.dutiesAtLoad
  split
  · exact .guarded fun _ => s.raiseWarn_secures _ _
  · exact .guarded fun _ => s.modRole_secures _
  all_goals exact .refl s

theorem State.admitted_secures (s : State) (b : List Byte) (n : Station) : Secures s (s.admitted b n) := .of_eq

theorem State.goodLoad_secures (s : State) (b : List Byte) (n : Station) : Secures s (s.goodLoad b n) :=
  (((s.admitted_secures b n).trans (State.modMeas_secures _ _)).trans (State.homeAtLoad_secures _)).trans
    (State.dutiesAtLoad_secures _)

theorem State.loadBlock_secures (s : State) (memory : List Byte) : Secures s (s.loadBlock memory) := by
  rcases s.loadBlock_cases memory with h | ⟨-, n, r, -, -, h⟩
  · rw [h]
    exact .refl s
  · rw [h]
    exact .ite (fun _ => s.goodLoad_secures _ _) fun _ => s.raiseStop_secures _ _

/-- A strap read over the reset values of supply, walk and outputs leaves both invariants. -/
theorem State.readStraps_secured {s : State} (hr : s.role = RoleLogic.reset) (hw : s.walk = WalkSequencer.reset)
    (ho : s.out = Outputs.reset) (x : Straps) : (s.readStraps x).SupplySound ∧ (s.readStraps x).WalkSound := by
  have hread : Secures (s.strapped x) (s.readStraps x) := .ite (fun _ => .refl _) fun _ => State.enterStop_secures _
  have hsupply : (s.strapped x).role.supply = .normal := (congrArg RoleLogic.supply hr).trans rfl
  have hopen : (s.strapped x).out.transferClosed = false := (congrArg Outputs.transferClosed ho).trans rfl
  have hwalk : (s.strapped x).walk = WalkSequencer.reset := hw
  refine ⟨hread.supply (.of_normal hsupply hopen), hread.walk ?_⟩
  unfold State.WalkSound
  rw [hwalk]
  decide

/-! ### Every command -/

theorem exec_secures (c : Instr) (s : State) : Completes c s (Secures s) := by
  cases c with
  | powerOnReset x =>
    obtain ⟨hsupply, hwalk⟩ := State.readStraps_secured (s := s.afterPowerOn) rfl rfl rfl x
    exact ⟨_, rfl, fun _ => hsupply, fun _ => hwalk⟩
  | localReset x =>
    obtain ⟨hsupply, hwalk⟩ := State.readStraps_secured (s := s.afterLocalReset) rfl rfl rfl x
    exact ⟨_, rfl, fun _ => hsupply, fun _ => hwalk⟩
  | parameterBlockLoaded m => exact ⟨_, rfl, s.loadBlock_secures m⟩
  | listenExpiry => exact ⟨_, rfl, .guarded fun _ => s.leaveListen_secures⟩
  | reportTimerExpiry => exact ⟨_, rfl, .guarded fun _ => s.reportEvent_secures⟩
  | unconfiguredReportExpiry => exact ⟨_, rfl, .guarded fun _ => s.reportEvent_secures⟩
  | regulationIntervalExpiry raw => exact ⟨_, rfl, .guarded fun _ => s.regulationWork_secures raw⟩
  | neutralTimeElapsed => exact ⟨_, rfl, s.tryRun_secures⟩
  | runPermitRise => exact ⟨_, rfl, .settled (s.settleRunPermit true).permitRises_secures⟩
  | runPermitFall => exact ⟨_, rfl, .settled (s.settleRunPermit false).permitFalls_secures⟩
  | ackRise => exact ⟨_, rfl, .settled (s.settleAck true).ackRises_secures⟩
  | limitRise => exact ⟨_, rfl, .settled (s.settleLimit true).limitRises_secures⟩
  | limitFall => exact ⟨_, rfl, .settled (s.settleLimit false).limitFalls_secures⟩
  | homeLRise => exact ⟨_, rfl, .settled (s.settleHomeL true).homeLeftRises_secures⟩
  | homeRRise => exact ⟨_, rfl, .settled (s.settleHomeR true).homeRightRises_secures⟩
  | contactorFbRise => exact ⟨_, rfl, .settled (s.settleContactorFb true).feedbackRises_secures⟩
  | contactorFbFall => exact ⟨_, rfl, .settled (s.settleContactorFb false).feedbackFalls_secures⟩
  | walkCmdRise => exact ⟨_, rfl, .settled (s.settleWalkCmd true).walkCmdRises_secures⟩
  | walkCmdFall => exact ⟨_, rfl, .settled (s.settleWalkCmd false).walkCmdFalls_secures⟩
  | walkStopRise => exact ⟨_, rfl, .settled (s.settleWalkStop true).walkStopRises_secures⟩
  | walkStopFall => exact ⟨_, rfl, .settled (s.settleWalkStop false).walkStopFalls_secures⟩
  | walkStopHoldExpiry => exact ⟨_, rfl, s.expireStopHold_secures⟩
  | supplyOkFall => exact ⟨_, rfl, (s.settleSupplyOk_secures false).trans (State.raiseStop_secures _ _ _)⟩
  | supplyOkRise => exact ⟨_, rfl, (s.settleSupplyOk_secures true).trans (State.returnAlarm_secures _ _)⟩
  | countEdge x y us => exact ⟨_, rfl, s.countEdge_secures x y us⟩
  | quadSkip x => exact ⟨_, rfl, s.skipEdge_secures x⟩
  | transmissionStart => exact ⟨_, rfl, .kept⟩
  | contestLost => exact ⟨_, rfl, .kept⟩
  | transmitFailure => exact ⟨_, rfl, s.failTransmission_secures⟩
  | completionEvent => exact ⟨_, rfl, s.completeTransmission_secures⟩
  | quietOutExpiry => exact ⟨_, rfl, s.endQuietOut_secures⟩
  | frameLengthAbandoned n => exact ⟨_, rfl, .guarded fun _ => s.countMalformed_secures⟩
  | frameBad f x y =>
    exact ⟨_, rfl, .guarded fun _ => (s.modLink_secures _).trans (State.freeBuffer_secures _)⟩
  | frameOwnAddress f =>
    exact ⟨_, rfl, .guarded fun _ => (s.clash_secures _).trans (State.freeBuffer_secures _)⟩
  | addressClashReturnExpiry => exact ⟨_, rfl, s.expireClash_secures⟩
  | frameMalformed f => exact ⟨_, rfl, State.receive_secures _ (.refl s)⟩
  | stateReport h l => exact ⟨_, rfl, State.receive_secures _ (s.handReport_secures _)⟩
  | propose h l => exact ⟨_, rfl, State.receive_secures _ (s.handPropose_secures _)⟩
  | object h l => exact ⟨_, rfl, State.receive_secures _ (s.handObject_secures _)⟩
  | sendLimitExpiry => exact ⟨_, rfl, s.expireSendLimit_secures⟩
  | windowExpiry => exact ⟨_, rfl, s.expireWindow_secures⟩
  | alarmNotice h l => exact ⟨_, rfl, State.receive_secures _ (s.handNotice_secures _)⟩
  | keepNotice h l => exact ⟨_, rfl, State.receive_secures _ (s.handKeep_secures _)⟩
  | serviceReply h l => exact ⟨_, rfl, State.receive_secures _ (.refl s)⟩
  | readStatus h l => exact ⟨_, rfl, s.request_secures _ _ _ _ Secures.refl⟩
  | readPeer h l => exact ⟨_, rfl, s.request_secures _ _ _ _ Secures.refl⟩
  | readCounters h l => exact ⟨_, rfl, s.request_secures _ _ _ _ Secures.refl⟩
  | readAlarms h l => exact ⟨_, rfl, s.request_secures _ _ _ _ Secures.refl⟩
  | ackAlarms h l => exact ⟨_, rfl, s.request_secures _ _ _ _ (workAck_secures l)⟩
  | readCaptureHeader h l => exact ⟨_, rfl, s.request_secures _ _ _ _ Secures.refl⟩
  | readCaptureSamples h l => exact ⟨_, rfl, s.request_secures _ _ _ _ Secures.refl⟩
  | releaseCapture h l => exact ⟨_, rfl, s.request_secures _ _ _ _ (workRelease_secures l)⟩
  | forceDerate h l => exact ⟨_, rfl, s.request_secures _ _ _ _ (workForce_secures l)⟩
  | serviceRequestUnknownCode h x l =>
    exact ⟨_, rfl, .ite (fun _ => .refl s) fun _ => s.request_secures _ _ _ _ Secures.refl⟩
  | entryGoesStale n => exact ⟨_, rfl, .guarded fun _ => s.goStale_secures n⟩
  | entryGoesAbsent n => exact ⟨_, rfl, .guarded fun _ => s.goAbsent_secures n⟩
  | tachExcessExpiry => exact ⟨_, rfl, s.expireTachExcess_secures⟩
  | tachRecoveryExpiry => exact ⟨_, rfl, s.expireTachRecovery_secures⟩
  | brakeSetTimeExpiry => exact ⟨_, rfl, s.expireBrakeSet_secures⟩
  | brakeDisagreeExpiry => exact ⟨_, rfl, s.expireDisagree_secures⟩
  | brakeAgreeExpiry => exact ⟨_, rfl, s.expireAgree_secures⟩
  | fieldLossTimeExpiry => exact ⟨_, rfl, s.expireLoss_secures⟩
  | fieldLossClearExpiry => exact ⟨_, rfl, s.expireLossClear_secures⟩
  | overcurrentClearExpiry x => exact ⟨_, rfl, s.expireClear_secures x⟩
  | boomOverloadTimeExpiry => exact ⟨_, rfl, s.expireOverload_secures⟩
  | swingRestExpiry => exact ⟨_, rfl, s.expireRest_secures⟩
  | deratePersistenceExpiry => exact ⟨_, rfl, s.expireDerate_secures⟩
  | supplyLimitExpiry => exact ⟨_, rfl, s.expireSupplyLimit_secures⟩
  | transferLimitExpiry => exact ⟨_, rfl, s.expireTransfer_secures⟩
  | returnLimitExpiry => exact ⟨_, rfl, s.expireReturn_secures⟩
  | closedFeedbackLimitExpiry => exact ⟨_, rfl, s.expireClosed_secures⟩
  | endTimeExpiry => exact ⟨_, rfl, s.expireEnd_secures⟩
  | postEnd => exact ⟨_, rfl, .guarded fun _ => s.endPost_secures⟩
  | decisionEntryDue => exact ⟨_, rfl, .guarded fun _ => s.decideDue_secures⟩
  | keepDeadlineExpiry i => exact ⟨_, rfl, .kept⟩
  | brakeFbEdge level => exact ⟨_, rfl, .settled (.refl (s.settleBrakeFb level))⟩

/-- Settles O58: every command `Secures`, and a tick touches neither supply nor walk. -/
theorem supplyAndWalkKept : Obligations.SupplyAndWalkKept := by
  unfold Obligations.SupplyAndWalkKept
  intro s t hstep
  unfold step at hstep
  split at hstep
  · obtain rfl : s.tick = t := by simpa using hstep
    exact ⟨id, id⟩
  · next c rest _ =>
    obtain ⟨t', ht', hkeep⟩ := exec_secures c { s with pending := rest }
    obtain rfl : t' = t := by simpa [ht'] using hstep
    exact ⟨hkeep.supply, hkeep.walk⟩

end Sys2Proof.Machine
end

section
/-!
PROOFS. O44 fails: the expiry that returns the last TRIP code does so after the drag has tested LOCAL_TRIP.
-/

set_option Elab.async false

namespace Sys2Proof.Machine

/-- The WALK station of the roster is FRESH and asks for its supply with phase TRANSFER. -/
def askingWalk : PeerEntry :=
  { PeerEntry.reset with
    status := .fresh, expected := some .walk, fields := { PeerEntry.reset.fields with phase := 2 } }

/-- A drag at rest whose armature has cooled after an acknowledged OVERHEAT (R145), its walk asking for supply. -/
def heatRecovered : State :=
  { heldByTrip ⟨2, 1⟩ .overheat with
    heat := { HeatMonitor.reset with overheatRaised := true }
    peers := { PeerTable.reset with entries := PeerTable.reset.entries.set 6 askingWalk } }

/-- LOCAL_TRIP is present, as R151 asks while a TRIP code is away from NORMAL. -/
theorem heatRecovered_consistent :
    heatRecovered.hasCause .localTrip = !heatRecovered.alarm.tripsNormal := by
  decide +kernel

/-- The role logic of the expiry finds LOCAL_TRIP present and leaves the supply in NORMAL (R128). -/
theorem heatRecovered_supply : (heatRecovered.regulationExpiry leverForward).role.supply = .normal := by
  decide +kernel

/-- The heat monitor comes after it: it returns OVERHEAT, and LOCAL_TRIP goes (R145, R151). -/
theorem heatRecovered_trip : (heatRecovered.regulationExpiry leverForward).hasCause .localTrip = false := by
  decide +kernel

/-- All else that the transfer asks for is there after the step: a set brake and a reference of 0. -/
theorem heatRecovered_rests :
    (heatRecovered.regulationExpiry leverForward).out.brakeSet = true
      ∧ (heatRecovered.regulationExpiry leverForward).drive.reference = 0 := by
  decide +kernel

/-- Refutes O44, in its eighth clause: LOCAL_TRIP is absent after the expiry and every other condition holds, but the
drag has not begun its transfer, since the same expiry returned the last TRIP code after the test. -/
theorem not_contactorEdges : ¬ Obligations.ContactorEdges := by
  unfold Obligations.ContactorEdges
  rintro ⟨-, -, -, -, -, -, -, begins, -⟩
  obtain ⟨t, ht, hbegins, -⟩ := begins heatRecovered leverForward 995 6 (by decide +kernel) rfl (by decide +kernel)
    (.inl rfl) (by decide +kernel) rfl (by decide +kernel) (by decide +kernel) heatRecovered_consistent
  obtain rfl : heatRecovered.regulationExpiry leverForward = t := Host.Outcome.next.inj ht
  obtain ⟨hsupply, -⟩ := hbegins heatRecovered_trip
  obtain ⟨hbrake, href⟩ := heatRecovered_rests
  rw [heatRecovered_supply, hbrake, href] at hsupply
  exact absurd hsupply (by decide +kernel)

end Sys2Proof.Machine
end

section
/-!
PROOFS. A supply that ends by TRANSFER_FAIL, and the three limits of the drag supply (R128, R130, R131); O45.
-/

set_option Elab.async false

namespace Sys2Proof.Machine

/-! ### The end of a supply at once (R131) -/

/-- A supply that TRANSFER_FAIL has ended: reference, duty and field current 0, the output open, and the supply NORMAL
with the code returned where the feedback was low, else RETURNING with its return limit started. -/
structure State.SupplyOver (t : State) (low : Bool) (now : Time) : Prop where
  supply : t.role.supply = if low = true then .normal else .returning
  transferLimit : t.role.transferLimit = none
  returnLimit : t.role.returnLimit = if low = true then none else some now
  transferClosed : t.out.transferClosed = false
  reference : t.drive.reference = 0
  duty : t.drive.duty = 0
  fieldPwm : t.out.fieldPwm = 0
  ann : t.ann .transferFail = if low = true then .returnedUnack else .activeUnack

theorem State.openTransfer_lines (s : State) :
    s.openTransfer.out.lines = (s.out.fieldPwm, s.out.fieldDir, s.out.brakeSet, false) := by
  unfold State.openTransfer State.supplyNormal
  dsimp only
  split
  · exact (State.returnAlarm_lines _ _).trans rfl
  · rfl

section

variable {s t : State} {low : Bool} {now : Time}

theorem State.SupplyOver.congr (h : s.SupplyOver low now) (hr : t.role = s.role := by simp)
    (hd : t.drive = s.drive := by simp) (ho : t.out.lines = s.out.lines := by simp)
    (ha : t.ann .transferFail = s.ann .transferFail) : t.SupplyOver low now := by
  simp only [Outputs.lines, Prod.mk.injEq] at ho
  obtain ⟨hpwm, -, -, hclosed⟩ := ho
  exact {
    supply := hr ▸ h.supply, transferLimit := hr ▸ h.transferLimit, returnLimit := hr ▸ h.returnLimit
    transferClosed := hclosed.trans h.transferClosed, reference := hd ▸ h.reference, duty := hd ▸ h.duty
    fieldPwm := hpwm.trans h.fieldPwm, ann := ha.trans h.ann }

/-- At rest nothing is left to end. -/
theorem State.endSupply_of_rest (h : s.role.supply = .normal ∨ s.role.supply = .returning) : s.endSupply = s := by
  unfold State.endSupply
  rcases h with h | h <;> rw [h]

theorem State.SupplyOver.endSupply_eq (h : s.SupplyOver low now) : s.endSupply = s :=
  State.endSupply_of_rest (by
    rw [h.supply]
    cases low
    · exact .inr rfl
    · exact .inl rfl)

/-- A supply with TRANSFER_FAIL just raised ends, and at once returns the code where the feedback is low. -/
theorem State.endSupply_over (huse : s.alarmInUse = true) (hann : s.ann .transferFail = .activeUnack)
    (h : s.role.supply = .transferring ∨ s.role.supply = .walkSupply) :
    s.endSupply.SupplyOver s.feedbackLow s.now := by
  have hended : s.endSupply = s.clearReference.handingBack.openTransfer := by
    unfold State.endSupply
    rcases h with h | h <;> rw [h] <;> rfl
  have hann' : s.clearReference.handingBack.ann .transferFail = .activeUnack := hann
  have hlow : s.clearReference.handingBack.feedbackLow = s.feedbackLow := rfl
  obtain ⟨hsupply, htransfer, hreturn, hclosed, hreturned⟩ :=
    State.openTransfer_spec (s := s.clearReference.handingBack) huse
  have hdrive : s.clearReference.handingBack.openTransfer.drive = s.clearReference.drive := by simp [State.handingBack]
  have hlines := s.clearReference.handingBack.openTransfer_lines
  simp only [Outputs.lines, Prod.mk.injEq] at hlines
  obtain ⟨hpwm, -⟩ := hlines
  rw [hann', hlow] at hreturned
  rw [hlow] at hsupply htransfer hreturn
  rw [hended]
  exact {
    supply := hsupply, transferLimit := htransfer.trans (ite_self _), returnLimit := hreturn
    transferClosed := hclosed, reference := by rw [hdrive]; rfl, duty := by rw [hdrive]; rfl
    fieldPwm := hpwm.trans rfl, ann := hreturned }

/-- TRANSFER_FAIL of a drag in supply or on its way there ends the supply: at LOCAL_TRIP where the raise adds it,
behind the raise where it stands already (R131, R151). -/
theorem State.failSupply_over (huse : s.alarmInUse = true)
    (h : s.role.supply = .transferring ∨ s.role.supply = .walkSupply) (v : Int) :
    (s.failSupply v).SupplyOver s.feedbackLow s.now := by
  have hlatched : (s.latch .transferFail v).ann .transferFail = .activeUnack := s.setAnn_ann_same _ _
  have hends (u : State) (ha : u.ann .transferFail = (s.latch .transferFail v).ann .transferFail)
      (hr : u.role = s.role := by simp [State.latch, State.logOwn])
      (hm : u.meas = s.meas := by simp [State.latch, State.logOwn])
      (hp : u.pending = s.pending := by simp [State.latch, State.logOwn])
      (hn : u.now = s.now := by simp [State.latch, State.logOwn]) (hs : u.ctl.straps = s.ctl.straps) :
      u.endSupply.SupplyOver s.feedbackLow s.now := by
    have hlow : u.feedbackLow = s.feedbackLow := by rw [State.feedbackLow, hm, hp]; rfl
    rw [← hlow, ← hn]
    exact State.endSupply_over ((State.alarmInUse_of_straps hs).trans huse) (ha.trans hlatched)
      (hr ▸ h)
  have hstood : ((s.latch .transferFail v).armAndNotice .transferFail v s.ctl.mode).endSupply.SupplyOver
      s.feedbackLow s.now :=
    hends _ (Aside.armAndNotice _ _ _ _).ann (hs := by simp [State.latch, State.logOwn])
  unfold State.failSupply
  rw [State.raiseTrip_of_inUse huse, State.latchTrip]
  split
  · unfold State.addLocalTrip
    split
    · exact hstood
    · have hadded : ((s.latch .transferFail v).addCause .localTrip).endSupply.SupplyOver s.feedbackLow s.now :=
        hends _ (State.ann_congr (by simp) _) (hs := (Alerts.addCause (codes := []) (causes := [.localTrip])).straps)
      have hnoticed := hadded.congr
        (t := ((s.latch .transferFail v).addCause .localTrip).endSupply.armAndNotice .transferFail v s.ctl.mode)
        (ha := (Aside.armAndNotice _ _ _ _).ann)
      rw [hnoticed.endSupply_eq]
      exact hnoticed
  · exact hstood

end

/-! ### TRANSFER_FAIL without a supply to end (R130, R131) -/

section

variable {s : State} {c : AlarmCode}

theorem State.addLocalTrip_of_rest (h : s.role.supply = .normal ∨ s.role.supply = .returning) :
    s.addLocalTrip = s.addCause .localTrip := by
  unfold State.addLocalTrip
  split
  · next hpresent => exact (if_pos hpresent).symm
  · exact State.endSupply_of_rest (by simpa using h)

theorem State.addCause_lines (s : State) (x : HoldCause) : (s.addCause x).out.lines = s.out.lines := by
  unfold State.addCause
  split
  · rfl
  · dsimp only
    split
    · exact (Sustains.enterHold_supply _).1
    · rfl

/-- With the supply at rest a raise of a TRIP code leaves role logic and driving lines. -/
theorem State.raiseTrip_of_rest (h : s.role.supply = .normal ∨ s.role.supply = .returning) (c : AlarmCode) (v : Int) :
    (s.raiseTrip c v).role = s.role ∧ (s.raiseTrip c v).out.lines = s.out.lines := by
  unfold State.raiseTrip
  dsimp only
  split
  · exact ⟨rfl, rfl⟩
  · split
    · rw [State.addLocalTrip_of_rest (by exact h)]
      simp [State.addCause_lines]
    · simp

theorem State.latch_raiseTrip_of_rest (h : s.role.supply = .normal ∨ s.role.supply = .returning)
    (huse : s.alarmInUse = true) (v : Int) : Alerts [] [.localTrip] 0 (s.latch c v) (s.raiseTrip c v) := by
  rw [State.raiseTrip_of_inUse huse, State.latchTrip, State.addLocalTrip_of_rest (by exact h)]
  exact (Alerts.guarded (n := 0) fun _ => .addCause).trans (n := 0) .armAndNotice

/-- TRANSFER_FAIL raised behind a move of the limits, the supply at rest: its entry, the hold of the station, and
supply and output as they were. -/
theorem State.raiseTrip_transferFail {f : RoleLogic → RoleLogic} (huse : s.alarmInUse = true) (hrun : s.RunIsFree)
    (htrip : s.hasCause .localTrip = !s.alarm.tripsNormal) (v : Int)
    (h : (f s.role).supply = .normal ∨ (f s.role).supply = .returning) :
    let t := (s.modRole f).raiseTrip .transferFail v
    Raised s t .transferFail v ∧ t.tripped ∧ t.role = f s.role ∧ t.out.transferClosed = s.out.transferClosed
      ∧ t.meas = s.meas := by
  have hstands : ((s.modRole f).raiseTrip .transferFail v).TripStands :=
    State.raiseTrip_tripStands (s := s.modRole f) rfl huse (fun hn => htrip.trans (congrArg not hn)) v
  have hevent : Alerts [.transferFail] [.localTrip] 2 (s.modRole f) ((s.modRole f).raiseTrip .transferFail v) :=
    .raiseTrip
  obtain ⟨hrole, hlines⟩ := State.raiseTrip_of_rest (s := s.modRole f) h .transferFail v
  have hraised : Raised s ((s.modRole f).raiseTrip .transferFail v) .transferFail v :=
    .of_latch (u := s.modRole f) rfl rfl rfl (State.latch_raiseTrip_of_rest (s := s.modRole f) h huse v) (by decide)
      (by simp)
  have hclosed : ((s.modRole f).raiseTrip .transferFail v).out.transferClosed = s.out.transferClosed :=
    congrArg (fun l => l.2.2.2) hlines
  exact ⟨hraised, hstands.tripped (hevent.free hrun), hrole, hclosed, by simp⟩

end

/-! ### The limits run (R128, R130, R131) -/

section

variable {s : State} (hload : s.loaded = true) (hdrag : s.is .drag = true)

include hload hdrag

theorem State.expireTransfer_of_due (h : s.role.supply = .transferring)
    (hran : s.ran s.role.transferLimit 500 = true) :
    s.expireTransfer = (s.modRole fun r => { r with transferLimit := none }).failSupply 1 :=
  if_pos (by simp [supplyTime, hload, hdrag, h, hran])

theorem State.expireReturn_of_due (h : s.role.supply = .returning) (hran : s.ran s.role.returnLimit 500 = true) :
    s.expireReturn = (s.modRole fun r => { r with returnLimit := none }).raiseTrip .transferFail 2 :=
  if_pos (by simp [supplyTime, hload, hdrag, h, hran])

theorem State.expireClosed_of_due (h : s.role.supply = .normal) (hran : s.ran s.role.closedLimit 500 = true) :
    s.expireClosed =
      (s.modRole fun r => { r with closedLimit := none, closedFailed := true }).raiseTrip .transferFail 4 :=
  if_pos (by simp [supplyTime, hload, hdrag, h, hran])

end

/-- The raise of TRANSFER_FAIL that ends a supply holds the station, and its entry stands in the list. -/
theorem State.failSupply_raised {s : State} (huse : s.alarmInUse = true) (hrun : s.RunIsFree)
    (htrip : s.hasCause .localTrip = !s.alarm.tripsNormal) (v : Int) : (s.failSupply v).tripped
    ∧ ⟨s.alarm.nextSeq, s.now, .transferFail, .raised, alarmValue v, s.sourceNumber⟩ ∈ (s.failSupply v).alarm.list := by
  have hstands : (s.raiseTrip .transferFail v).TripStands :=
    State.raiseTrip_tripStands rfl huse (fun hn => htrip.trans (congrArg not hn)) v
  have hraise : Alerts [.transferFail] [.localTrip] 2 s (s.raiseTrip .transferFail v) := .raiseTrip
  have hend : Alerts [.transferFail] [.localTrip] 1 (s.raiseTrip .transferFail v) (s.failSupply v) :=
    .endSupply (by decide) (by decide)
  have hbehind := (Alerts.latch_raiseTrip (codes := [.transferFail]) (causes := [.localTrip]) (v := v) huse).trans hend
  exact ⟨(hend.stands hstands).tripped (hend.free (hraise.free hrun)),
    (hbehind.recent _ 0 (by decide) (.of_written _ _)).mem⟩

/-- The feedback is high as its line shows, or by a rise that waits (log entry 34). -/
theorem State.ite_feedbackLow {α : Type} (s : State) (a b : α) : (if s.feedbackLow = true then a else b) =
    if s.meas.contactorFb.value = true ∨ Instr.contactorFbRise ∈ s.pending then b else a := by
  cases h : s.meas.contactorFb.value <;>
    by_cases hp : Instr.contactorFbRise ∈ s.pending <;> simp [State.feedbackLow, h, hp]

/-- Settles O45: the transfer limit ends the supply behind its raise; the other two limits find it at rest. -/
theorem supplyLimits : Obligations.SupplyLimits := by
  unfold Obligations.SupplyLimits
  refine ⟨fun s hload hdrag hsupply hran huse hrun htrip => ⟨_, rfl, ?_⟩,
    fun s hload hdrag hsupply hran huse hrun htrip => ⟨_, rfl, ?_⟩,
    fun s hload hdrag hsupply hran huse hrun htrip => ⟨_, rfl, ?_⟩⟩
  · rw [State.expireTransfer_of_due hload hdrag hsupply hran]
    have hover := State.failSupply_over (s := s.modRole fun r => { r with transferLimit := none }) huse
      (.inl hsupply) 1
    obtain ⟨htripped, hentry⟩ := State.failSupply_raised (s := s.modRole fun r => { r with transferLimit := none }) huse
      hrun htrip 1
    rw [show (s.modRole fun r => { r with transferLimit := none }).feedbackLow = s.feedbackLow from rfl] at hover
    exact ⟨hover.supply.trans (s.ite_feedbackLow _ _), hover.returnLimit.trans (s.ite_feedbackLow _ _),
      hover.transferLimit, hover.transferClosed, hover.reference, hover.duty, hover.fieldPwm,
      hover.ann.trans (s.ite_feedbackLow _ _), htripped, by simp [State.failSupply], hentry⟩
  · rw [State.expireReturn_of_due hload hdrag hsupply hran]
    exact State.raiseTrip_transferFail huse hrun htrip 2 (.inr hsupply)
  · rw [State.expireClosed_of_due hload hdrag hsupply hran]
    exact State.raiseTrip_transferFail huse hrun htrip 4 (.inl hsupply)

end Sys2Proof.Machine
end

section
/-!
PROOFS. The three times of the walk sequencer (R127, R136, R138); O48.
-/

set_option Elab.async false

namespace Sys2Proof.Machine

/-! ### A walk that no stop request moves -/

section

variable {s : State} (hstep : s.walk.state ≠ .stepping) (htransfer : s.walk.state ≠ .transfer)

include hstep htransfer

/-- The drop to HOLD is a stop request, and that moves STEPPING and TRANSFER alone (R10, R134). -/
theorem State.enterHold_of_rested : s.enterHold.walk = s.walk ∧ s.enterHold.consent = s.consent := by
  have hdropped : s.dropToHold.restTarget.walk = s.walk ∧ s.dropToHold.restTarget.consent = s.consent := by
    rw [State.restTarget_eq]
    exact ⟨rfl, rfl⟩
  have hstop : s.dropToHold.restTarget.stopWalk = s.dropToHold.restTarget :=
    State.stopWalk_of_other (by rwa [hdropped.1]) (by rwa [hdropped.1])
  rw [State.enterHold_eq, hstop, ite_self]
  exact hdropped

theorem State.addCause_of_rested (x : HoldCause) :
    (s.addCause x).walk = s.walk ∧ (s.addCause x).consent = s.consent := by
  unfold State.addCause
  split
  · exact ⟨rfl, rfl⟩
  · dsimp only
    split
    · exact State.enterHold_of_rested (s := s.putCause x true) hstep htransfer
    · exact ⟨rfl, rfl⟩

theorem State.raiseTrip_of_rested (c : AlarmCode) (v : Int) :
    (s.raiseTrip c v).walk = s.walk ∧ (s.raiseTrip c v).consent = s.consent := by
  have hadd : (s.latch c v).addLocalTrip.walk = s.walk ∧ (s.latch c v).addLocalTrip.consent = s.consent := by
    unfold State.addLocalTrip
    split
    · exact ⟨rfl, rfl⟩
    · simpa using State.addCause_of_rested (s := s.latch c v) hstep htransfer .localTrip
  unfold State.raiseTrip
  dsimp only
  split
  · exact ⟨rfl, rfl⟩
  · split
    · simpa using hadd
    · simp [State.latch, State.logOwn]

end

/-! ### The walk sequencer's events -/

/-- What a forced walk shows: its one cause, no reference, the cam brake set, and WALK_FORCED_STOP raised with its hold
(R136, R148). -/
theorem State.enterForced_spec {s : State} (hwalk : s.is .walk = true) (huse : s.alarmInUse = true)
    (hrun : s.RunIsFree) (htrip : s.hasCause .localTrip = !s.alarm.tripsNormal) (c : ForcedCause) :
    let t := s.enterForced c
    t.walk = (s.braked c).walk ∧ t.out.brakeSet = true ∧ Raised s t .walkForcedStop s.meas.angleA ∧ t.tripped
      ∧ t.consent = s.consent := by
  obtain ⟨hforced, hbrake⟩ := s.enterForced_forced hwalk c
  obtain ⟨hraised, htripped, -⟩ := State.raiseTrip_trips (u := s.braked c) (c := .walkForcedStop) huse hrun htrip
    s.meas.angleA
  obtain ⟨-, hconsent⟩ := State.raiseTrip_of_rested (s := s.braked c) (by exact WalkState.noConfusion)
    (by exact WalkState.noConfusion) .walkForcedStop s.meas.angleA
  exact ⟨hforced, hbrake, hraised, htripped, hconsent⟩

/-- Every forced cause forces a walk that moves (R136). -/
theorem State.forceWalk_of_moving {s : State} (h : s.walk.state = .stepping ∨ s.walk.state = .stopping)
    (c : ForcedCause) : s.forceWalk c = s.enterForced c := by
  unfold State.forceWalk
  rcases h with h | h <;> rw [h]

/-- Where the walk does not move a cause other than STOP joins the set in FORCED, and is nothing elsewhere. -/
theorem State.forceWalk_of_rested {s : State} (hstep : s.walk.state ≠ .stepping) (hstop : s.walk.state ≠ .stopping)
    {c : ForcedCause} (hc : c ≠ .stop) : s.forceWalk c = s.modWalk fun w =>
      { w with forced := if s.walk.state = .forced then w.forced.put c true else w.forced } := by
  unfold State.forceWalk
  split
  · next h => exact absurd h hstep
  · next h => exact absurd h hstop
  · next h => rw [if_neg hc, h]; rfl
  · next h => rw [if_neg hc, h]; rfl
  · next h => rw [h]; rfl
  all_goals next h => rw [h]; rfl

theorem State.lowestUnsupplied_eq {s : State} {n : Station} (hn : n ∈ s.rosterOf .drag)
    (hlost : (s.entry n).status ≠ .fresh ∨ (s.entry n).fields.supply ≠ 2)
    (hlow : ∀ m ∈ s.rosterOf .drag, m < n → (s.entry m).status = .fresh ∧ (s.entry m).fields.supply = 2) :
    s.lowestUnsupplied = stationNumber n := by
  have hsupplying (m : Station) : (s.entry m).supplying = true ↔
      (s.entry m).status = .fresh ∧ (s.entry m).fields.supply = 2 := by
    simp [PeerEntry.supplying, PeerEntry.shows, SupplyState.code, byteOf]
  have hfind : (s.rosterOf .drag).find? (fun st => !(s.entry st).supplying) = some n :=
    find?_of_lowest ((by decide : allStations.Pairwise (· < ·)).filter _) hn
      (by rw [Bool.not_eq_true', Bool.eq_false_iff, ne_eq, hsupplying]; tauto)
      fun m hm hmn => by rw [Bool.not_eq_false', hsupplying]; exact hlow m hm hmn
  unfold State.lowestUnsupplied
  rw [hfind]

section

variable {s : State} (hwalk : s.is .walk = true) (hservice : s.inService = true)

include hwalk hservice

theorem State.walkWorks_of_inService : s.walkWorks = true := by rw [State.walkWorks, hwalk, hservice]; rfl

theorem State.expireStopHold_of_due (hran : s.ran s.walk.stopHold 2000 = true) :
    s.expireStopHold = (s.modWalk fun w => { w with stopHold := none }).forceWalk .walkStopHold :=
  if_pos (by simp [walkStopTime, State.walkWorks_of_inService hwalk hservice, hran])

theorem State.expireSupplyLimit_of_due (h : s.walk.state = .transfer)
    (hran : s.ran s.walk.supplyLimit 1000 = true) :
    s.expireSupplyLimit =
      ((s.enterWalk .idle).clearProposal).raiseWarn .walkAborted (200 + (s.lowestUnsupplied : Int)) :=
  if_pos (by simp [supplyLimitTime, State.walkWorks_of_inService hwalk hservice, h, hran])

theorem State.expireEnd_of_due (h : s.walk.state = .halted) (hran : s.ran s.walk.endTime s.prm.walkEndDelay = true) :
    s.expireEnd = (s.enterWalk .returning).endReturning :=
  if_pos (by simp [State.walkWorks_of_inService hwalk hservice, h, hran])

end

/-- The proposal of a walk that ends is NONE (R66). -/
theorem State.enterWalk_clearProposal {s : State} (hwalk : s.is .walk = true)
    (hown : s.consent.own.status = .active ∨ s.consent.own.status = .withdrawing) (x : WalkState) :
    (s.enterWalk x).clearProposal = (s.enterWalk x).modOwn fun o => { o with status := .idle } := by
  have hlead : (s.enterWalk x).swingLead = false := State.swingLead_of_is (r := .walk) hwalk (by decide)
  rw [State.clearProposal_eq (.inr hlead)]
  exact State.modOwn_congr (congrArg (fun y => { s.consent.own with status := y }) (if_pos hown))

/-- RETURNING ends at once where every drag has handed its supply back (R138). -/
theorem State.enterReturning_endReturning {s : State} (hwalk : s.is .walk = true)
    (hown : s.consent.own.status = .active ∨ s.consent.own.status = .withdrawing) :
    (s.enterWalk .returning).endReturning =
      if s.allHandedBack = true then (s.enterWalk .idle).modOwn fun o => { o with status := .idle }
      else s.enterWalk .returning := by
  have hback : (s.enterWalk .returning).allHandedBack = s.allHandedBack := rfl
  have hstate : (s.enterWalk .returning).walk.state = .returning := rfl
  unfold State.endReturning
  simp only [hback, hstate, true_and]
  rw [State.enterWalk_clearProposal (s := s.enterWalk .returning) hwalk hown]
  rfl

/-- Settles O48: each time has run, and the walk is forced, abandoned, or returns its supply. -/
theorem walkTimes : Obligations.WalkTimes := by
  unfold Obligations.WalkTimes
  refine ⟨fun s hwalk hservice hran hstate huse hrun htrip => ⟨_, rfl, ?_⟩,
    fun s hwalk hservice hran hstep hstop => ⟨_, rfl, ?_⟩,
    fun s n hwalk hservice hstate hran hown hn hlost hlow => ⟨_, rfl, ?_⟩,
    fun s hwalk hservice hstate hran hown => ⟨_, rfl, ?_⟩⟩
  · rw [State.expireStopHold_of_due hwalk hservice hran, State.forceWalk_of_moving (by exact hstate)]
    obtain ⟨hforced, hbrake, hraised, htripped, hconsent⟩ := State.enterForced_spec
      (s := s.modWalk fun w => { w with stopHold := none }) hwalk huse hrun htrip .walkStopHold
    rw [hforced]
    exact ⟨rfl, rfl, rfl, rfl, rfl, rfl, hbrake, hraised, htripped, by simp, hconsent, by simp⟩
  · rw [State.expireStopHold_of_due hwalk hservice hran,
      State.forceWalk_of_rested (s := s.modWalk fun w => { w with stopHold := none }) hstep hstop (by decide)]
    rfl
  · rw [State.expireSupplyLimit_of_due hwalk hservice hstate hran, State.lowestUnsupplied_eq hn hlost hlow,
      State.enterWalk_clearProposal hwalk hown]
    have hlines := (((s.enterWalk .idle).modOwn fun o => { o with status := .idle }).raiseWarn_lines .walkAborted
      (200 + (stationNumber n : Int))).trans rfl
    refine ⟨?_, ?_, Outputs.brakeSet_of_lines hlines, ?_, fun hraises => .of_warn hraises _ rfl rfl rfl, ?_⟩
    all_goals simp [State.enterWalk, State.modOwn]
  · rw [State.expireEnd_of_due hwalk hservice hstate hran, State.enterReturning_endReturning hwalk hown]
    have hback : s.allHandedBack = (s.rosterOf .drag).all fun n =>
        (s.entry n).status == .absent || (s.entry n).fields.supply == 0 := rfl
    rw [← hback]
    cases s.allHandedBack <;> exact ⟨rfl, rfl, rfl, rfl⟩

end Sys2Proof.Machine
end

section
/-!
PROOFS. WALK_CMD asks for a walk, steps on and resumes (R126, R137); O46.
-/

set_option Elab.async false

namespace Sys2Proof.Machine

/-! ### A request to propose that finds the link free (R50) -/

theorem mem_takeFrame_propose (now : Time) (n : Byte) (k : ProposalKind) (l : List Queued) :
    ∃ q ∈ takeFrame now (.propose n k) l, q.frame = .propose n k := by
  have hjoins : takeFrame now (.propose n k) l = insertByClass ⟨.propose n k, now, false, false⟩ l := by
    simp [takeFrame, OutFrame.sameObject, OutFrame.isReport]
  rw [hjoins]
  exact ⟨_, mem_insertByClass.mpr (.inl rfl), rfl⟩

section

variable {s : State} {k : ProposalKind}

theorem State.requestProposal_of_free (hown : s.consent.own.status = .idle) (hheld : s.consent.held = none) :
    s.requestProposal k = (s.newProposal k).beginProposal k := by
  have hnone : (s.newProposal k).consent.held = none := by rw [State.newProposal_consent, hheld]
  rw [State.requestProposal_eq, if_neg (not_not.mpr hown), hnone]

/-- The fifth step of a request: PENDING, the send limit started and the PROPOSE queued. -/
theorem State.beginProposal_queued (hroom : s.hasRoom 1) :
    (s.beginProposal k).consent = { s.consent with own := { s.consent.own with
        status := .pending, sendLimit := some s.now } }
      ∧ (s.beginProposal k).queued (.propose s.consent.own.number k) := by
  obtain ⟨hlink, hquiet, hlength⟩ := hroom
  refine ⟨by simp [State.beginProposal], ?_⟩
  unfold State.beginProposal
  dsimp only
  rw [State.queueFrame_of_room (s := s.modOwn fun r => { r with status := .pending, sendLimit := some s.now }) _ hlink
    hquiet (Nat.lt_of_succ_le hlength)]
  exact mem_takeFrame_propose _ _ _ _

/-- A WALK_START asked for with nothing held and room in the queue: the walk is PROPOSING at rest, and the new proposal
PENDING; CONSENT_REFUSED is returned, and that alone of the codes. -/
theorem State.requestWalkStart (hown : s.consent.own.status = .idle) (hheld : s.consent.held = none)
    (hroom : s.hasRoom 1) (habsent : s.hasCause .localTrip = false) : let t := s.requestProposal .walkStart
    t.walk.state = .proposing ∧ t.walk.reference = 0
    ∧ t.consent.own = { s.consent.own with
        number := nextNumber s.consent.own.number, kind := some .walkStart, status := .pending
        queueTime := s.now, objected := none, windowStart := none
        echoSeen := Vector.replicate 8 false, sendLimit := some s.now }
    ∧ t.queued (.propose (nextNumber s.consent.own.number) .walkStart)
    ∧ Aside .walkAborted 1 s t ∧ t.ctl = s.ctl ∧ t.drive = s.drive := by
  dsimp only
  have hctl : (s.newProposal .walkStart).ctl = s.ctl := by
    simp [State.newProposal, State.returnAlarm_ctl_of_absent habsent]
  have hnew : (s.newProposal .walkStart).hasRoom 1 := by
    unfold State.hasRoom at *
    rw [State.onLink_congr hctl]
    simpa [State.newProposal] using hroom
  have haside : Aside .walkAborted 1 s (s.newProposal .walkStart) :=
    (Aside.returnAlarm (d := .consentRefused) s (by decide)).andThen (by simp [State.newProposal])
  have hmoved : (s.newProposal .walkStart).walk.state = .proposing
      ∧ (s.newProposal .walkStart).walk.reference = 0 := by
    simp [State.newProposal, State.tellProposing, State.enterWalk, WalkState.moves]
  have hnow : (s.newProposal .walkStart).now = s.now := by simp [State.newProposal]
  obtain ⟨hconsent, hqueued⟩ := State.beginProposal_queued (k := .walkStart) hnew
  rw [State.newProposal_consent, hnow] at hconsent
  rw [State.newProposal_consent] at hqueued
  rw [State.requestProposal_of_free hown hheld]
  refine ⟨by simpa using hmoved.1, by simpa using hmoved.2, by rw [hconsent], hqueued, haside.andThen (by simp),
    by simpa using hctl, by simp [State.newProposal]⟩

end

/-! ### The walk states in which WALK_CMD acts (R126, R137) -/

section

variable {s : State} (hwalk : s.is .walk = true) (hservice : s.inService = true) (hrun : s.ctl.mode = .run)

include hwalk hservice hrun in
theorem State.walkCmdRises_of_run :
    (s.settleWalkCmd true).walkCmdRises = (s.settleWalkCmd true).walkCommanded :=
  if_pos (by
    have hworks : (s.settleWalkCmd true).walkWorks = true :=
      State.walkWorks_of_inService (s := s.settleWalkCmd true) hwalk hservice
    have hmode : (s.settleWalkCmd true).ctl.mode = .run := hrun
    simp [hworks, hmode])

theorem State.walkCmdRises_of_elsewhere
    (h : s.is .walk = false ∨ s.inService = false ∨ s.ctl.mode ≠ .run) : s.walkCmdRises = s :=
  if_neg (by
    rcases h with h | h | h <;> simp [State.walkWorks, h])

end

section

variable {s : State}

theorem State.walkCommanded_of_idle (h : s.walk.state = .idle) (hdrags : 0 < (s.rosterOf .drag).length) :
    s.walkCommanded = (s.returnAlarm .walkAborted).requestProposal .walkStart := by
  unfold State.walkCommanded State.beginWalk
  rw [h]
  exact if_neg (Nat.pos_iff_ne_zero.mp hdrags)

theorem State.walkCommanded_of_halted (h : s.walk.state = .halted) :
    s.walkCommanded = if s.allSupplying = true then s.stepWalk else s := by
  unfold State.walkCommanded
  rw [h]

theorem State.walkCommanded_of_forced (h : s.walk.state = .forced) :
    s.walkCommanded = if s.allSupplying = true then s.resumeForced else s := by
  unfold State.walkCommanded
  rw [h]

/-- No WALK_CMD is taken without a drag in the roster, in a walk under way, by a forced cause, or while a drag is not in
supply. -/
theorem State.walkCommanded_of_deaf (h : (s.walk.state = .idle ∧ s.rosterOf .drag = []) ∨ s.walk.state = .proposing
    ∨ s.walk.state = .transfer ∨ s.walk.state = .stepping ∨ s.walk.state = .stopping ∨ s.walk.state = .returning
    ∨ (s.walk.state = .forced ∧ s.walk.forced.isEmpty = false)
    ∨ ((s.walk.state = .halted ∨ s.walk.state = .forced) ∧ ∃ n ∈ s.rosterOf .drag,
        (s.entry n).status ≠ .fresh ∨ (s.entry n).fields.supply ≠ 2)) :
    s.walkCommanded = s := by
  rcases h with ⟨h, hdrags⟩ | h | h | h | h | h | ⟨h, hforced⟩ | ⟨h, n, hn, hlost⟩
  · unfold State.walkCommanded
    rw [h]
    exact if_pos (by rw [State.dragCount, hdrags]; rfl)
  iterate 5
    unfold State.walkCommanded
    rw [h]
  · rw [State.walkCommanded_of_forced h]
    exact (ite_congr rfl (fun _ => if_pos (by simp [hforced])) fun _ => rfl).trans (ite_self _)
  · have hmissing : ¬s.allSupplying = true := fun hall => by
      obtain ⟨hfresh, hsupply⟩ := s.allSupplying_iff.mp hall n hn
      exact hlost.elim (· hfresh) (· hsupply)
    rcases h with h | h
    · rw [State.walkCommanded_of_halted h, if_neg hmissing]
    · rw [State.walkCommanded_of_forced h, if_neg hmissing]

theorem State.resumeForced_eq (h : s.walk.forced.isEmpty = true) :
    s.resumeForced = if s.walk.region = some .carry then (s.enterStopping .creep).setBrake false else s.haltWalk := by
  unfold State.resumeForced
  rw [if_neg (by simp [h])]
  by_cases hregion : s.walk.region = some .carry <;> simp [WalkSequencer.bearing, hregion]

end

/-- The returns of a request leave station control: in RUN no cause is present (R8). -/
theorem State.hasCause_of_run {s : State} (hfree : s.RunIsFree) (hrun : s.ctl.mode = .run) (x : HoldCause) :
    s.hasCause x = false :=
  (HoldCauses.isEmpty_iff _).mp (hfree hrun) x

/-- Settles O46: the walk asks, steps, resumes, or does not take the command. -/
theorem walkCommanded : Obligations.WalkCommanded := by
  unfold Obligations.WalkCommanded
  refine ⟨fun s hwalk hservice hrun hidle hdrags hown hheld hroom hfree => ⟨_, rfl, ?_⟩,
    fun s hwalk hservice hrun hhalted hall => ⟨_, rfl, ?_⟩,
    fun s hwalk hservice hrun hforced hempty hall => ⟨_, rfl, ?_⟩, fun s hdeaf => ⟨_, rfl, ?_⟩⟩
  · rw [State.walkCmdRises_of_run hwalk hservice hrun,
      State.walkCommanded_of_idle (s := s.settleWalkCmd true) hidle hdrags]
    have habsent := State.hasCause_of_run hfree hrun .localTrip
    have hctl : ((s.settleWalkCmd true).returnAlarm .walkAborted).ctl = s.ctl :=
      (State.returnAlarm_ctl_of_absent (s := s.settleWalkCmd true) habsent _).trans rfl
    have hreturned : s.raises .walkAborted →
        ((s.settleWalkCmd true).returnAlarm .walkAborted).ann .walkAborted = (s.ann .walkAborted).afterReturn :=
      fun ⟨huse, hmask⟩ => State.returnAlarm_ann (s := s.settleWalkCmd true) huse hmask .walkAborted
    have hlines := ((s.settleWalkCmd true).returnAlarm_lines .walkAborted).trans rfl
    generalize hu : (s.settleWalkCmd true).returnAlarm .walkAborted = u at *
    obtain ⟨hconsent, hlink, hnow, hdrive⟩ : u.consent = s.consent ∧ u.link = s.link ∧ u.now = s.now
        ∧ u.drive = s.drive :=
      hu ▸ by simp [State.settleWalkCmd]
    obtain ⟨hstate, href, hnew, hqueued, haside, hctl', hdrive'⟩ := State.requestWalkStart (s := u)
      (by rwa [hconsent]) (by rwa [hconsent])
      (by unfold State.hasRoom; rwa [State.onLink_congr hctl, hlink])
      (by unfold State.hasCause; rw [hctl]; exact habsent)
    rw [hconsent, hnow] at hnew
    rw [hconsent] at hqueued
    exact ⟨hstate, href, hnew, hqueued, fun h => haside.ann.trans (hreturned h), hctl'.trans hctl, hdrive'.trans hdrive,
      (u.requestProposal_brakeSet _).trans (Outputs.brakeSet_of_lines hlines)⟩
  · have hsupplied : (s.settleWalkCmd true).allSupplying = true := s.allSupplying_iff.mpr hall
    rw [State.walkCmdRises_of_run hwalk hservice hrun,
      State.walkCommanded_of_halted (s := s.settleWalkCmd true) hhalted, if_pos hsupplied]
    exact ⟨rfl, rfl, rfl⟩
  · have hsupplied : (s.settleWalkCmd true).allSupplying = true := s.allSupplying_iff.mpr hall
    rw [State.walkCmdRises_of_run hwalk hservice hrun,
      State.walkCommanded_of_forced (s := s.settleWalkCmd true) hforced, if_pos hsupplied,
      State.resumeForced_eq (s := s.settleWalkCmd true) hempty]
    have hregion : (s.settleWalkCmd true).walk.region = s.walk.region := rfl
    rw [hregion]
    by_cases hcarry : s.walk.region = some .carry
    · simp only [hcarry, if_true]
      exact ⟨rfl, rfl, fun _ => rfl, rfl⟩
    · simp only [hcarry, if_false]
      exact ⟨rfl, (bne_iff_ne.mpr hcarry).symm, fun h => h.elim, rfl⟩
  · suffices hsame : (s.settleWalkCmd true).walkCmdRises = s.settleWalkCmd true by rw [hsame]; rfl
    by_cases hacts : s.is .walk = true ∧ s.inService = true ∧ s.ctl.mode = .run
    · obtain ⟨hwalk, hservice, hrun⟩ := hacts
      rw [State.walkCmdRises_of_run hwalk hservice hrun]
      refine State.walkCommanded_of_deaf ?_
      rcases hdeaf with h | h | h | hdeaf
      · exact absurd hwalk (by simp [h])
      · exact absurd hservice (by simp [h])
      · exact absurd hrun h
      · exact hdeaf
    · refine State.walkCmdRises_of_elsewhere (s := s.settleWalkCmd true) ?_
      show s.is .walk = false ∨ s.inService = false ∨ s.ctl.mode ≠ .run
      simpa only [← Bool.not_eq_true, ne_eq, not_and_or] using hacts

end Sys2Proof.Machine
end

section
/-!
PROOFS. WALK_CMD released and WALK_STOP pressed and released (R134, R136): the input clauses of O47.
-/

set_option Elab.async false

namespace Sys2Proof.Machine

/-- The walk with its WALK_STOP hold timer started (R136). -/
def State.timesStop (s : State) : State := s.modWalk fun w => { w with stopHold := some s.now }

section

variable {s : State} (hwalk : s.is .walk = true) (hservice : s.inService = true)

include hwalk hservice

theorem State.walkCmdFalls_of_works : s.walkCmdFalls = s.stopWalk :=
  if_pos (State.walkWorks_of_inService hwalk hservice)

theorem State.walkStopRises_of_works : s.walkStopRises = s.timesStop.stopWalk :=
  if_pos (State.walkWorks_of_inService hwalk hservice)

theorem State.walkStopFalls_of_works :
    s.walkStopFalls = (s.modWalk fun w => { w with stopHold := none }).clearForced .walkStopHold :=
  if_pos (State.walkWorks_of_inService hwalk hservice)

end

theorem ForcedCauses.isEmpty_put_walkStopHold (x : ForcedCauses) :
    (x.put .walkStopHold false).isEmpty = true ↔ x.supply = false ∧ x.stop = false := by
  obtain ⟨a, b, c⟩ := x
  simp [ForcedCauses.isEmpty, ForcedCauses.put]

/-- A forced cause that leaves the set empty of others alone touches the alarm unit (R136). -/
theorem State.clearForced_alarm {s : State} (h : s.walk.forced.supply = true ∨ s.walk.forced.stop = true) :
    (s.clearForced .walkStopHold).alarm = s.alarm := by
  have hmore : ¬(s.walk.forced.put .walkStopHold false).isEmpty = true := by
    rw [ForcedCauses.isEmpty_put_walkStopHold]
    rintro ⟨hsupply, hstop⟩
    simp [hsupply, hstop] at h
  unfold State.clearForced
  split
  · rfl
  · dsimp only
    rw [if_neg (by exact hmore)]
    rfl

/-- A release of WALK_STOP at the walk station (R136). -/
theorem State.walkStopFalls_spec {s : State} (hwalk : s.is .walk = true) (hservice : s.inService = true) :
    let t := s.walkStopFalls
    t.walk = { s.walk with stopHold := none, forced := { s.walk.forced with walkStopHold := false } }
    ∧ (s.walk.forced = ⟨true, false, false⟩ → s.alarmInUse = true →
        t.ann .walkForcedStop = (s.ann .walkForcedStop).afterReturn)
    ∧ (s.walk.forced.supply = true ∨ s.walk.forced.stop = true → t.alarm = s.alarm)
    ∧ t.drive = s.drive ∧ t.link = s.link := by
  dsimp only
  rw [State.walkStopFalls_of_works hwalk hservice]
  refine ⟨State.clearForced_walk _ _, fun hforced huse => ?_, fun hmore => ?_, by simp, by simp⟩
  · exact State.clearForced_ann (s := s.modWalk fun w => { w with stopHold := none }) huse
      (by simp [hforced, ForcedCauses.isEmpty]) (by simp [hforced, ForcedCauses.isEmpty, ForcedCauses.put])
  · exact State.clearForced_alarm (s := s.modWalk fun w => { w with stopHold := none }) hmore

end Sys2Proof.Machine
end

section
/-!
PROOFS. The capture store's work of an expiry raises CAPTURE_FULL at most once (R166, R168).
-/

set_option Elab.async false

namespace Sys2Proof.Machine

/-! ### Blocks that are all KEPT -/

theorem CaptureStore.block_kept {k : CaptureStore} (h : k.allKept = true) {i : Nat} (hi : i < k.blocks.length) :
    (k.block i).state = .kept := by
  rw [CaptureStore.block, List.getD_eq_getElem _ _ hi]
  exact beq_iff_eq.mp (List.all_eq_true.mp h _ (List.getElem_mem hi))

/-- A block that is neither KEPT nor FREE: the store is not full. -/
theorem CaptureStore.allKept_of_block {k : CaptureStore} {i : Nat} (hk : (k.block i).state ≠ .kept)
    (hf : (k.block i).state ≠ .free) : k.allKept = false := by
  rw [Bool.eq_false_iff]
  intro h
  by_cases hi : i < k.blocks.length
  · exact hk (CaptureStore.block_kept h hi)
  · rw [CaptureStore.block, List.getD_eq_default _ _ (Nat.le_of_not_lt hi)] at hf
    exact hf rfl

theorem CaptureStore.writeBlock_of_full {k : CaptureStore} (h : k.allKept = true) : k.writeBlock = none := by
  refine List.findIdx?_eq_none_iff.mpr fun b hb => ?_
  rw [beq_iff_eq.mp (List.all_eq_true.mp h b hb)]
  rfl

theorem earliestAwaitFrom_of_full (now : Time) {l : List CaptureBlock} (h : ∀ b ∈ l, b.state = .kept) (i : Nat) :
    earliestAwaitFrom now i l = none := by
  induction l generalizing i with
  | nil => rfl
  | cons b l ih =>
    obtain ⟨hb, hl⟩ := List.forall_mem_cons.mp h
    simp [earliestAwaitFrom, hb, ih hl]

/-- A full store takes no arm into a block (R164). -/
theorem CaptureStore.arm_blocks_of_full {k : CaptureStore} (h : k.allKept = true) (now : Time) (n : Nat) (id : ArmId)
    (c : Option AlarmCode) : (k.arm now n id c).blocks = k.blocks := by
  have hwrite : ({ k with armCount := k.armCount + 1 } : CaptureStore).writeBlock = none :=
    CaptureStore.writeBlock_of_full h
  have hawait : ({ k with armCount := k.armCount + 1 } : CaptureStore).earliestAwait now = none := by
    unfold CaptureStore.earliestAwait
    rw [earliestAwaitFrom_of_full now fun b hb => beq_iff_eq.mp (List.all_eq_true.mp h b hb)]
    rfl
  unfold CaptureStore.arm
  dsimp only
  rw [hwrite, hawait]
  cases c <;> rfl

theorem State.localArm_blocks_of_full {s : State} (h : s.capture.allKept = true) (c : AlarmCode) (m : Mode) :
    (s.localArm c m).capture.blocks = s.capture.blocks := by
  unfold State.localArm
  (repeat' split)
  · exact CaptureStore.arm_blocks_of_full h _ _ _ _
  · rfl
  · rfl

theorem State.raiseFull_blocks {s : State} (h : s.capture.allKept = true) :
    s.raiseFull.capture.blocks = s.capture.blocks := by
  unfold State.raiseFull State.raiseWarn
  dsimp only
  split
  · rfl
  · unfold State.armAndNotice
    have hask (u : State) (c : AlarmCode) (v : Int) (m : Mode) : (u.askNotice c v m).capture = u.capture := by simp
    rw [hask]
    exact (State.localArm_blocks_of_full (by exact h) _ _).trans rfl

/-! ### The blocks that wait for a KEEP_NOTICE -/

theorem CaptureStore.insertByAge_perm (k : CaptureStore) (now : Time) (i : Nat) (l : List Nat) :
    (k.insertByAge now i l).Perm (i :: l) := by
  induction l with
  | nil => exact .refl _
  | cons j l ih =>
    unfold CaptureStore.insertByAge
    split
    · exact .refl _
    · exact (ih.cons j).trans (.swap i j l)

theorem CaptureStore.byAge_perm (k : CaptureStore) (now : Time) (l : List Nat) : (k.byAge now l).Perm l := by
  have hfold (acc : List Nat) : (l.foldl (fun acc i => k.insertByAge now i acc) acc).Perm (acc ++ l) := by
    induction l generalizing acc with
    | nil => simp
    | cons i l ih =>
      refine (ih _).trans ?_
      have hinsert := (k.insertByAge_perm now i acc).append_right l
      exact hinsert.trans List.perm_middle.symm
  simpa [CaptureStore.byAge] using hfold []

/-! ### At most one CAPTURE_FULL -/

/-- From `s` to `t` the capture store works: CAPTURE_FULL may have been raised, once, and only if the store has become
full; a full store stays full. -/
structure Fills (s t : State) : Prop where
  alerts : Alerts [.captureFull] [] 1 s t
  spare : s.capture.allKept = true ∨ t.capture.allKept = false → Alerts [.captureFull] [] 0 s t
  full : s.capture.allKept = true → t.capture.allKept = true
  lines : t.out.lines = s.out.lines

namespace Fills

variable {s t u : State}

theorem trans (h : Fills s t) (h' : Fills t u) : Fills s u where
  alerts := by
    cases ht : t.capture.allKept with
    | true => exact h.alerts.trans (h'.spare (.inl ht))
    | false => exact (h.spare (.inr ht)).trans h'.alerts |>.mono (by decide)
  spare hs := by
    rcases hs with hs | hu
    · exact (h.spare (.inl hs)).trans (h'.spare (.inl (h.full hs)))
    · have ht : t.capture.allKept = false := by
        rw [Bool.eq_false_iff]
        exact fun ht => absurd ((h'.full ht).symm.trans hu) (by decide)
      exact (h.spare (.inr ht)).trans (h'.spare (.inr hu))
  full hs := h'.full (h.full hs)
  lines := h'.lines.trans h.lines

/-- What raises nothing and fills up no further. -/
theorem of_quiet (h : Alerts [.captureFull] [] 0 s t) (hf : s.capture.allKept = true → t.capture.allKept = true)
    (hl : t.out.lines = s.out.lines := by simp) : Fills s t :=
  ⟨h.mono (Nat.zero_le 1), fun _ => h, hf, hl⟩

/-- What leaves the blocks alone, and of the rest touches neither station control nor alarm unit. -/
theorem kept (hc : t.ctl = s.ctl := by simp) (ha : t.alarm = s.alarm := by simp)
    (hb : s.capture.allKept = true → t.capture.allKept = true := by simp)
    (hl : t.out.lines = s.out.lines := by simp) : Fills s t :=
  of_quiet (.kept hc ha) hb hl

theorem refl (s : State) : Fills s s := kept rfl rfl id rfl

theorem guarded {p : Prop} [Decidable p] (h : p → Fills s t) : Fills s (if p then t else s) := by
  split
  · next hp => exact h hp
  · exact .refl s

theorem foldl {α : Type} {f : State → α → State} (hf : ∀ s x, Fills s (f s x)) (l : List α) (s : State) :
    Fills s (l.foldl f s) := by
  induction l generalizing s with
  | nil => exact .refl s
  | cons x l ih => exact (hf s x).trans (ih _)

end Fills

/-- Block `i` put in the kept queue, before CAPTURE_FULL is judged (R168). -/
def State.joinKept (s : State) (i : Nat) : State :=
  s.modCapture fun k =>
    { k.modBlock i fun b => { b with state := .kept, keepDeadline := none } with kept := k.kept ++ [i] }

theorem State.becomeKept_eq (s : State) (i : Nat) :
    s.becomeKept i = if (s.joinKept i).capture.allKept = true then (s.joinKept i).raiseFull else s.joinKept i := rfl

theorem State.joinKept_block_other (s : State) {i j : Nat} (h : j ≠ i) :
    (s.joinKept i).capture.block j = s.capture.block j := by
  simp [State.joinKept, CaptureStore.block, CaptureStore.modBlock, List.getD_eq_getElem?_getD, h.symm]

/-- A block that has not been KEPT joins the kept queue. -/
theorem State.becomeKept_fills {s : State} {i : Nat} (hk : (s.capture.block i).state ≠ .kept)
    (hf : (s.capture.block i).state ≠ .free) : Fills s (s.becomeKept i) := by
  have hspare := CaptureStore.allKept_of_block hk hf
  have hjoin : Alerts [.captureFull] [] 0 s (s.joinKept i) := .kept rfl rfl
  rw [State.becomeKept_eq]
  split
  · next hfull =>
    have hraise : Alerts [.captureFull] [] 1 (s.joinKept i) (s.joinKept i).raiseFull :=
      (Alerts.raiseWarn (s := (s.joinKept i).modCapture _)).after
    have hstays : (s.joinKept i).raiseFull.capture.allKept = true := by
      unfold CaptureStore.allKept
      rw [State.raiseFull_blocks hfull]
      exact hfull
    exact ⟨hjoin.trans hraise, fun h => h.elim (fun hs => absurd (hs.symm.trans hspare) (by decide))
      fun ht => absurd (hstays.symm.trans ht) (by decide), fun _ => hstays, (State.raiseFull_lines _).trans rfl⟩
  · exact .of_quiet hjoin (fun hs => absurd (hs.symm.trans hspare) (by decide)) rfl

/-- Several blocks become KEPT in turn: the store is full with the last of them at the earliest. -/
theorem State.foldl_becomeKept_fills {l : List Nat} (hl : l.Nodup) {s : State}
    (hwait : ∀ i ∈ l, (s.capture.block i).state = .awaitKeep) : Fills s (l.foldl State.becomeKept s) := by
  induction l generalizing s with
  | nil => exact .refl s
  | cons i l ih =>
    obtain ⟨hi, hrest⟩ := List.forall_mem_cons.mp hwait
    obtain ⟨hnew, hl⟩ := List.nodup_cons.mp hl
    have hfirst : Fills s (s.becomeKept i) := State.becomeKept_fills (by rw [hi]; decide) (by rw [hi]; decide)
    have hstill (j : Nat) (hj : j ∈ l) : ((s.joinKept i).capture.block j).state = .awaitKeep := by
      rw [State.joinKept_block_other s fun h : j = i => hnew (h ▸ hj)]
      exact hrest j hj
    refine hfirst.trans ?_
    by_cases hfull : (s.joinKept i).capture.allKept = true
    · have hnone : l = [] := List.eq_nil_iff_forall_not_mem.mpr fun j hj => by
        have hspare := CaptureStore.allKept_of_block (k := (s.joinKept i).capture) (i := j)
          (by rw [hstill j hj]; decide) (by rw [hstill j hj]; decide)
        exact absurd (hfull.symm.trans hspare) (by decide)
      rw [hnone]
      exact .refl _
    · have hjoined : s.becomeKept i = s.joinKept i := if_neg hfull
      rw [List.foldl_cons, hjoined]
      exact ih hl hstill

/-! ### The decisions and the end of a POST -/

theorem CaptureStore.markKeep_states (k : CaptureStore) (id : ArmId) (i : Nat) :
    ((k.markKeep id).block i).state = (k.block i).state := by
  simp only [CaptureStore.markKeep, CaptureStore.block, List.getD_eq_getElem?_getD, List.getElem?_map]
  cases k.blocks[i]? with
  | none => rfl
  | some b =>
    simp only [Option.map_some, Option.getD_some]
    split <;> rfl

theorem CaptureStore.markKeep_allKept (k : CaptureStore) (id : ArmId) : (k.markKeep id).allKept = k.allKept := by
  unfold CaptureStore.markKeep CaptureStore.allKept
  rw [List.all_map]
  congr 1
  funext b
  dsimp only [Function.comp]
  split <;> rfl

theorem State.keepById_fills (s : State) (id : ArmId) : Fills s (s.keepById id) := by
  have hperm := s.capture.byAge_perm s.now (s.capture.awaiting id)
  have hmark : Fills s (s.modCapture fun k => k.markKeep id) :=
    .kept rfl rfl (fun h => (s.capture.markKeep_allKept id).trans h) rfl
  refine hmark.trans (State.foldl_becomeKept_fills ?_ fun i hi => ?_)
  · exact hperm.nodup_iff.mpr (List.nodup_range.filter _)
  · obtain ⟨-, hi⟩ := List.mem_filter.mp (hperm.mem_iff.mp hi)
    simp only [Bool.and_eq_true, beq_iff_eq] at hi
    exact (s.capture.markKeep_states id i).trans hi.1

theorem State.queueFrame_fills (s : State) (f : OutFrame) : Fills s (s.queueFrame f) := .kept

theorem State.settleDecision_fills (s : State) (d : Decision) : Fills s (s.settleDecision d) := by
  unfold State.settleDecision
  split
  · exact .refl s
  · dsimp only
    split
    · exact (s.queueFrame_fills _).trans (State.keepById_fills _ _)
    · exact s.queueFrame_fills _

theorem State.decideDue_fills (s : State) : Fills s s.decideDue :=
  Fills.trans (t := s.modCapture _) (.kept rfl rfl id rfl) (.foldl State.settleDecision_fills _ _)

theorem State.settlePost_fills {s : State} {i : Nat} (h : (s.capture.block i).state = .post) :
    Fills s (s.settlePost i) := by
  have hspare : s.capture.allKept = false :=
    CaptureStore.allKept_of_block (i := i) (by rw [h]; decide) (by rw [h]; decide)
  have hchange (f : CaptureBlock → CaptureBlock) : Fills s (s.modCapture fun k => k.modBlock i f) :=
    .kept rfl rfl (fun hs => absurd (hs.symm.trans hspare) (by decide)) rfl
  have hkept : Fills s (s.becomeKept i) := State.becomeKept_fills (by rw [h]; decide) (by rw [h]; decide)
  unfold State.settlePost
  dsimp only
  generalize ((s.capture.block i).keepMark || _ : Bool) = keep
  split
  · split
    · exact hkept.trans (State.queueFrame_fills _ _)
    · exact hkept
  · split
    · exact hchange _
    · exact hchange _

theorem State.nextWriteBlock_fills (s : State) (i : Nat) : Fills s (s.nextWriteBlock i) := by
  refine .kept rfl rfl (fun hs => ?_) rfl
  unfold State.nextWriteBlock
  dsimp only [State.modCapture]
  split
  · next j hj =>
    have hfound := List.find?_some hj
    have hfree : (s.capture.block j).state = .free := by simpa using hfound
    obtain ⟨l, hl, hjl⟩ := List.mem_map.mp (List.mem_of_find?_eq_some hj)
    have hj : j < s.capture.blocks.length := by
      rw [← hjl]
      exact Nat.mod_lt _ (Nat.zero_lt_of_lt (List.mem_range.mp hl))
    exact absurd ((CaptureStore.block_kept hs hj).symm.trans hfree) (by decide)
  · exact hs

theorem State.endPost_fills (s : State) : Fills s s.endPost := by
  unfold State.endPost
  split
  · exact .guarded fun ⟨hpost, _⟩ => (State.settlePost_fills hpost).trans (State.nextWriteBlock_fills _ _)
  · exact .refl s

/-- The store's work of an expiry. -/
theorem State.captureWork_fills (s : State) (v : Sample) : Fills s (s.captureWork v) := by
  have htake : Fills s (s.modCapture fun k => k.take s.prm v) := by
    refine .kept rfl rfl (fun hs => ?_) rfl
    show (s.capture.take s.prm v).allKept = true
    unfold CaptureStore.take
    rw [CaptureStore.writeBlock_of_full hs]
    exact hs
  have hcount (u : State) : Fills u u.countDecisions := .kept rfl rfl id rfl
  exact ((htake.trans (hcount _)).trans (State.decideDue_fills _)).trans (State.endPost_fills _)

end Sys2Proof.Machine
end

section
/-!
PROOFS. `Logs`: what list, annunciator and LOCAL_TRIP keep through an event in which the station may enter STOP; the
rest of an expiry behind the walk sequencer.
-/

set_option Elab.async false

namespace Sys2Proof.Machine

/-- From `s` to `t` within one event at most the codes of `codes` have moved and at most `n` entries have been written,
LOCAL_TRIP stays while a TRIP code is unacknowledged, and RUN is free of causes.  Other than by `Alerts`, the station
may have entered STOP. -/
structure Logs (codes : List AlarmCode) (n : Nat) (s t : State) : Prop where
  ann : ∀ c, c ∉ codes → t.ann c = s.ann c
  recent : ∀ e k, k + n ≤ 31 → Recent e k s.alarm.list → Recent e (k + n) t.alarm.list
  seq : ∃ k ≤ n, t.alarm.nextSeq = s.alarm.nextSeq + BitVec.ofNat 16 k
  now : t.now = s.now
  straps : t.ctl.straps = s.ctl.straps
  free : s.RunIsFree → t.RunIsFree
  stands : s.TripStands → t.TripStands

namespace Logs

variable {codes codes' : List AlarmCode} {causes : List HoldCause} {m n : Nat} {s t u : State}

theorem of_alerts (h : Alerts codes causes n s t) (hn : t.now = s.now := by simp) : Logs codes n s t :=
  ⟨h.ann, h.recent, h.seq, hn, h.straps, h.free, h.stands⟩

theorem kept (hc : t.ctl = s.ctl := by simp) (ha : t.alarm = s.alarm := by simp) (hn : t.now = s.now := by simp) :
    Logs codes n s t :=
  of_alerts (causes := []) (.kept hc ha) hn

theorem refl (s : State) : Logs codes n s s := kept rfl rfl rfl

theorem trans (h : Logs codes m s t) (h' : Logs codes n t u) : Logs codes (m + n) s u where
  ann c hc := (h'.ann c hc).trans (h.ann c hc)
  recent e k hk hr := by
    rw [← Nat.add_assoc]
    exact h'.recent e (k + m) (by omega) (h.recent e k (by omega) hr)
  seq := by
    obtain ⟨i, hi, hseq⟩ := h.seq
    obtain ⟨j, hj, hseq'⟩ := h'.seq
    exact ⟨i + j, by omega, by rw [hseq', hseq, BitVec.ofNat_add, BitVec.add_assoc]⟩
  now := h'.now.trans h.now
  straps := h'.straps.trans h.straps
  free := h'.free ∘ h.free
  stands := h'.stands ∘ h.stands

theorem mono (h : Logs codes m s t) (hmn : m ≤ n) (hc : ∀ c ∈ codes, c ∈ codes' := by decide) :
    Logs codes' n s t where
  __ := h
  ann c hn := h.ann c fun hm => hn (hc c hm)
  recent e k hk hr := (h.recent e k (by omega) hr).mono (by omega)
  seq := by
    obtain ⟨i, hi, hseq⟩ := h.seq
    exact ⟨i, by omega, hseq⟩

theorem guarded {p : Prop} [Decidable p] (h : p → Logs codes n s t) : Logs codes n s (if p then t else s) := by
  split
  · next hp => exact h hp
  · exact .refl s

theorem latch (s : State) {c : AlarmCode} (v : Int) (hc : c ∈ codes) : Logs codes 1 s (s.latch c v) :=
  of_alerts (causes := []) (.latch hc) rfl

/-- STOP entered, with nothing yet done in it. -/
theorem halted (s : State) : Logs codes 0 s s.halted where
  ann _ _ := rfl
  recent _ _ _ hr := hr
  seq := ⟨0, Nat.le_refl 0, by simp [State.halted]⟩
  now := rfl
  straps := rfl
  free _ hm := absurd (show Mode.stop = .run from hm) (by decide)
  stands := id

end Logs

/-- A code latched within the event is raised at its end, if nothing behind its latch moves it. -/
theorem RaisedAmong.of_logs {codes codes' : List AlarmCode} {m n : Nat} {s u t : State} {c : AlarmCode} {v : Int}
    (hbefore : Logs codes m s u) (hm : m < 32) (hafter : Logs codes' n (u.latch c v) t) (hn : n ≤ 31)
    (hc : c ∉ codes') : RaisedAmong s t c v := by
  obtain ⟨k, hk, hseq⟩ := hbefore.seq
  refine ⟨(hafter.ann c hc).trans (u.setAnn_ann_same c .activeUnack), _,
    (hafter.recent _ 0 (by omega) (.of_written _ _)).mem, ?_, ?_⟩
  · show (u.alarm.nextSeq - s.alarm.nextSeq).toNat < 32
    have hback : s.alarm.nextSeq + BitVec.ofNat 16 k - s.alarm.nextSeq = BitVec.ofNat 16 k := by
      rw [BitVec.add_comm, BitVec.add_sub_cancel]
    rw [hseq, hback, BitVec.toNat_ofNat]
    omega
  · show (⟨u.alarm.nextSeq, u.now, c, .raised, alarmValue v, u.sourceNumber⟩ : AlarmEntry) = _
    rw [hbefore.now, State.sourceNumber_congr hbefore.straps]
    rfl

/-! ### A walk station that enters STOP from HOLD or RUN (R11, R136) -/

section

variable {s : State} (hwalk : s.is .walk = true) (hmode : s.ctl.mode = .hold ∨ s.ctl.mode = .run)

/-- The outputs of a station in STOP, before the walk is forced. -/
def State.madeSafe (s : State) : State := s.halted.stopSupply.makeSafe

theorem State.madeSafe_logs (s : State) : Logs [.transferFail] 1 s s.madeSafe := by
  have hsupply : Alerts [.transferFail] [.localTrip] 1 s.halted s.halted.stopSupply := by
    unfold State.stopSupply
    split
    · exact .endSupply (by decide) (by decide)
    · exact .endSupply (by decide) (by decide)
    · exact .guarded fun _ => (Alerts.openTransfer (s := s.halted.clearReference) (by decide) (by decide)).after
    · exact .refl _
  have hsafe (u : State) : Logs [.transferFail] 0 u u.makeSafe := .kept rfl rfl rfl
  exact ((Logs.halted s).trans (.of_alerts hsupply)).trans (hsafe s.halted.stopSupply)

include hwalk hmode in
theorem State.enterStop_of_working : s.enterStop = s.madeSafe.forceWalk .stop := by
  have hne : s.ctl.mode ≠ .stop := by rcases hmode with h | h <;> rw [h] <;> decide
  have hlead : s.madeSafe.swingLead = false :=
    State.swingLead_of_is (r := .walk) ((State.is_congr s.madeSafe_logs.straps .walk).trans hwalk) (by decide)
  have hswing : s.halted.stopSupply.makeSafe.stopSwing = s.madeSafe :=
    if_neg (show ¬s.madeSafe.swingLead = true by simp [hlead])
  rw [State.enterStop_of_ne hne, hswing]
  rcases hmode with h | h <;> rw [h] <;> rfl

include hwalk hmode in
theorem State.latch_raiseStop_logs (huse : s.alarmInUse = true) (c : AlarmCode) (v : Int) :
    Logs [.transferFail, .walkForcedStop] 3 (s.latch c v) (s.raiseStop c v) := by
  have hforce : Alerts [.transferFail, .walkForcedStop] [.localTrip] 2 (s.latch c v).madeSafe
      ((s.latch c v).madeSafe.forceWalk .stop) := .forceWalk
  have hraise : s.raiseStop c v = ((s.latch c v).enterStop).armAndNotice c v s.ctl.mode := if_neg (by simp [huse])
  rw [hraise, State.enterStop_of_working (s := s.latch c v) hwalk hmode]
  exact ((((s.latch c v).madeSafe_logs.mono (Nat.le_refl 1)).trans (.of_alerts hforce)).trans (n := 0)
    (.of_alerts (causes := []) .armAndNotice))

end

/-! ### Behind the walk sequencer -/

/-- From `s` to `t` parts of the rest of an expiry have run: walk and driving lines stay, and the angles; STOP is not
left; of the codes CAPTURE_FULL may have moved, with at most `n` entries. -/
structure Trails (n : Nat) (s t : State) : Prop where
  logs : Logs [.captureFull] n s t
  walk : t.walk = s.walk
  lines : t.out.lines = s.out.lines
  angleA : t.meas.angleA = s.meas.angleA
  angleB : t.meas.angleB = s.meas.angleB
  stop : s.ctl.mode = .stop → t.ctl.mode = .stop

theorem Trails.trans {m n : Nat} {s t u : State} (h : Trails m s t) (h' : Trails n t u) : Trails (m + n) s u where
  logs := h.logs.trans h'.logs
  walk := h'.walk.trans h.walk
  lines := h'.lines.trans h.lines
  angleA := h'.angleA.trans h.angleA
  angleB := h'.angleB.trans h.angleB
  stop := h'.stop ∘ h.stop

theorem Trails.mono {m n : Nat} {s t : State} (h : Trails m s t) (hmn : m ≤ n) : Trails n s t :=
  { h with logs := h.logs.mono hmn }

theorem State.neutralExpiry_logs (s : State) : Logs [] 0 s s.neutralExpiry := by
  have hsince (x : Timer) : Logs [] 0 s (s.modCtl fun c => { c with neutralSince := x }) :=
    { ann := fun _ _ => rfl, recent := fun _ _ _ hr => hr, seq := ⟨0, Nat.le_refl 0, by simp⟩, now := rfl
      straps := rfl, free := id, stands := id }
  exact .guarded fun _ => (hsince _).trans (n := 0) (.of_alerts (causes := []) .tryRun)

theorem State.neutralExpiry_trails (s : State) : Trails 0 s s.neutralExpiry where
  logs := s.neutralExpiry_logs.mono (Nat.le_refl 0)
  walk := by simp
  lines := by
    unfold State.neutralExpiry
    split
    · exact (State.tryRun_lines _).trans rfl
    · rfl
  angleA := by simp
  angleB := by simp
  stop h := by
    rw [State.neutralExpiry, if_neg (by rw [h]; decide)]
    exact h

theorem State.captureWork_trails (s : State) (v : Sample) : Trails 1 s (s.captureWork v) where
  logs := .of_alerts (s.captureWork_fills v).alerts
  walk := by simp
  lines := (s.captureWork_fills v).lines
  angleA := by simp
  angleB := by simp
  stop h := by simpa using h

theorem State.withStore_trails (s : State) (k : CaptureStore) : Trails 0 s (s.withStore k) :=
  ⟨.kept rfl rfl rfl, rfl, rfl, rfl, rfl, id⟩

theorem State.takeArms_trails (t s : State) (raw : Analog) : Trails 0 t (t.takeArms s raw) := t.withStore_trails _

theorem State.noteQuiet_trails (s : State) : Trails 0 s s.noteQuiet := ⟨.kept rfl rfl rfl, rfl, rfl, rfl, rfl, id⟩

/-- No heat monitor works on a walk station (R140). -/
theorem State.heatExpiry_of_walk {s : State} (h : s.is .walk = true) : s.heatExpiry = s :=
  if_neg (by simp [State.heats, State.is_of_is h])

/-- What an expiry leaves before its work outside the store ends: all but the tail. -/
def State.walked (s : State) (raw : Analog) : State :=
  ((s.expiryStep raw).checks s.drive.duty).roleExpiry.walkExpiry

/-- Behind the walk sequencer nothing moves walk or brake (R140, R161). -/
theorem State.regulationWork_trails {s : State} {raw : Analog} (hwalk : (s.walked raw).is .walk = true) :
    Trails 1 (s.walked raw) (s.regulationWork raw) := by
  have hwork : Trails 0 (s.walked raw) (s.expiryWork raw) := by
    have hheat : s.expiryWork raw = (s.walked raw).heatExpiry.neutralExpiry := rfl
    rw [hheat, State.heatExpiry_of_walk hwalk]
    exact State.neutralExpiry_trails _
  unfold State.regulationWork
  dsimp only
  split
  · have hbefore := hwork.trans (State.withStore_trails (s.expiryWork raw) s.capture)
    have hstored := hbefore.trans
      (State.captureWork_trails ((s.expiryWork raw).withStore s.capture) (s.expirySample raw))
    exact (hstored.trans (State.takeArms_trails _ s raw)).trans (State.noteQuiet_trails _)
  · exact (hwork.trans (State.noteQuiet_trails _)).mono (Nat.zero_le 1)

end Sys2Proof.Machine
end

section
/-!
PROOFS. The walk station's expiry up to the walk sequencer: the cams measured, the brake checked, and the stop request
that a BRAKE_FAULT in RUN makes (R10, R67, R100).
-/

set_option Elab.async false

namespace Sys2Proof.Machine

/-! ### A stop request to the walk, by the sequencer alone (R134) -/

/-- The walk sequencer behind a stop request. -/
def WalkSequencer.stopped (w : WalkSequencer) : WalkSequencer :=
  match w.state with
  | .stepping => { w with
      state := .stopping, supplyLimit := none, endTime := none
      phase := some (if w.region = some .carry then .creep else .ramp) }
  | .transfer => { w with
      state := .idle, reference := 0, left := 0, right := 0, supplyLimit := none, endTime := none, phase := none }
  | .idle | .proposing | .stopping | .halted | .forced | .returning => w

theorem WalkSequencer.stopped_of_other {w : WalkSequencer} (hs : w.state ≠ .stepping) (ht : w.state ≠ .transfer) :
    w.stopped = w := by
  unfold WalkSequencer.stopped
  split
  · next h => exact absurd h hs
  · next h => exact absurd h ht
  all_goals rfl

section

variable {s : State} (hwalk : s.is .walk = true)

include hwalk

theorem State.stopWalk_walk : s.stopWalk.walk = s.walk.stopped := by
  by_cases hs : s.walk.state = .stepping
  · rw [State.stopWalk_of_stepping hs, WalkSequencer.stopped, hs]
  by_cases ht : s.walk.state = .transfer
  · rw [State.stopWalk_of_transfer hwalk ht, WalkSequencer.stopped, ht]
    rfl
  · rw [State.stopWalk_of_other hs ht, WalkSequencer.stopped_of_other hs ht]

theorem State.enterHold_walk : s.enterHold.walk = s.walk.stopped := by
  have hrest : s.dropToHold.restTarget.walk = s.walk := by rw [State.restTarget_eq]; rfl
  rw [State.enterHold_eq, if_pos hwalk,
    State.stopWalk_walk (s := s.dropToHold.restTarget) ((State.restTarget_is _ _).trans hwalk), hrest]

theorem State.addCause_walk (x : HoldCause) : (s.addCause x).walk =
    if s.hasCause x = false ∧ s.ctl.mode = .run then s.walk.stopped else s.walk := by
  by_cases hcause : s.hasCause x = true
  · rw [if_neg fun ⟨habsent, _⟩ => absurd (habsent.symm.trans hcause) (by decide)]
    exact congrArg State.walk (if_pos hcause)
  by_cases hrun : s.ctl.mode = .run
  · have hadd : s.addCause x = (s.putCause x true).enterHold := (if_neg hcause).trans (if_pos hrun)
    rw [hadd, if_pos ⟨by simpa using hcause, hrun⟩]
    exact State.enterHold_walk (s := s.putCause x true) hwalk
  · have hadd : s.addCause x = s.putCause x true := (if_neg hcause).trans (if_neg hrun)
    rw [hadd, if_neg fun ⟨_, h⟩ => hrun h]
    rfl

/-- A TRIP raised is a stop request to the walk where it adds LOCAL_TRIP in RUN, and else leaves the walk. -/
theorem State.raiseTrip_walk (huse : s.alarmInUse = true) (c : AlarmCode) (v : Int) : (s.raiseTrip c v).walk =
    if s.alarm.tripsNormal = true ∧ s.hasCause .localTrip = false ∧ s.ctl.mode = .run then s.walk.stopped
    else s.walk := by
  have hadd : (s.latch c v).addLocalTrip.walk =
      if s.hasCause .localTrip = false ∧ s.ctl.mode = .run then s.walk.stopped else s.walk := by
    have hcause := State.addCause_walk (s := s.latch c v) hwalk .localTrip
    unfold State.addLocalTrip
    split
    · next h => rw [if_neg fun hboth => absurd (hboth.1.symm.trans h) (by decide)]; rfl
    · exact (by simp : _ = ((s.latch c v).addCause .localTrip).walk).trans hcause
  have hlatch : (s.latchTrip c v).walk =
      if s.alarm.tripsNormal = true ∧ s.hasCause .localTrip = false ∧ s.ctl.mode = .run then s.walk.stopped
      else s.walk := by
    unfold State.latchTrip
    split
    · next h => simpa only [h, true_and] using hadd
    · next h =>
      rw [if_neg fun ⟨hfirst, _⟩ => h hfirst]
      rfl
  rw [State.raiseTrip_of_inUse huse]
  simpa using hlatch

end

/-! ### The cams measured -/

/-- The walk station before BRAKE_FAULT is judged: measured, without a step, the disagreement watched. -/
def State.surveyed (s : State) (raw : Analog) : State := (s.expiryStep raw).watchBrake

/-- The walk station as its expiry reaches the walk sequencer. -/
def State.approached (s : State) (raw : Analog) : State :=
  (s.surveyed raw).expireDisagree.expireAgree.notePhase

section

variable {s : State} (hwalk : s.is .walk = true) (raw : Analog)

include hwalk

/-- The walk station compares no speeds and takes no step: its survey moves measurement, drive and role logic. -/
theorem State.expiryStep_of_walk :
    s.expiryStep raw = (((s.restartRegulation raw).formValues raw).watchTach).noStep := by
  have hcompared : ((s.restartRegulation raw).formValues raw).watchTach.tachCompared = false := by
    have h : ((s.restartRegulation raw).formValues raw).watchTach.is .walk = true := hwalk
    simp [State.tachCompared, State.is_of_is h]
  obtain ⟨hexcess, hrecovery⟩ := State.expireTach_of_not_compared hcompared
  have hmeasure : (s.restartRegulation raw).measure raw = ((s.restartRegulation raw).formValues raw).watchTach := by
    unfold State.measure State.checkTach
    rw [hexcess, hrecovery]
  unfold State.expiryStep State.driveExpiry
  rw [hmeasure]
  refine if_neg ?_
  have h : ((s.restartRegulation raw).formValues raw).watchTach.is .walk = true := hwalk
  simp [State.takesStep, State.is_of_is h]

/-- The survey leaves station control, alarm unit, outputs and walk. -/
theorem State.surveyed_keeps : (s.surveyed raw).ctl = s.ctl ∧ (s.surveyed raw).alarm = s.alarm
    ∧ (s.surveyed raw).out = s.out ∧ (s.surveyed raw).walk = s.walk ∧ (s.surveyed raw).now = s.now
    ∧ (s.surveyed raw).peers = s.peers ∧ (s.surveyed raw).drive.brakeFaultRaised = s.drive.brakeFaultRaised := by
  unfold State.surveyed
  rw [State.expiryStep_of_walk hwalk]
  exact ⟨rfl, rfl, rfl, rfl, rfl, rfl, rfl⟩

theorem State.surveyed_meas : (s.surveyed raw).meas.homedA = s.meas.homedA
    ∧ (s.surveyed raw).meas.homedB = s.meas.homedB ∧ (s.surveyed raw).meas.brakeFb = s.meas.brakeFb := by
  have hrole : s.ownRole = some .walk := beq_iff_eq.mp hwalk
  have hmeas : (s.surveyed raw).meas = (((s.restartRegulation raw).formValues raw).watchTach).meas := by
    unfold State.surveyed
    rw [State.expiryStep_of_walk hwalk]
    rfl
  have hvalues := State.formValues_of_walk raw hwalk
  rw [hrole] at hvalues
  rw [hmeas]
  refine ⟨(congrArg Measurement.homedA hvalues).trans rfl, (congrArg Measurement.homedB hvalues).trans rfl,
    (congrArg Measurement.brakeFb hvalues).trans rfl⟩

/-- The time of a disagreement, where no BRAKE_FAULT stands (R100). -/
theorem State.surveyed_disagreeTime : (s.surveyed raw).drive.disagreeTime =
    if s.drive.brakeFaultRaised = false ∧ s.out.brakeSet ≠ s.meas.brakeFb.value then s.running s.drive.disagreeTime
    else none := by
  obtain ⟨-, -, hfb⟩ := State.surveyed_meas hwalk raw
  have htime : (s.surveyed raw).drive.disagreeTime =
      if (!s.drive.brakeFaultRaised && s.out.brakeSet != (s.surveyed raw).meas.brakeFb.value) = true then
        s.running s.drive.disagreeTime
      else none := by
    unfold State.surveyed
    rw [State.expiryStep_of_walk hwalk]
    rfl
  rw [htime, hfb]
  exact if_congr (by simp) rfl rfl

end

/-! ### The brake checked (R100) -/

theorem State.ran_of_now {s u : State} (h : u.now = s.now) (t : Timer) (n : Nat) : u.ran t n = s.ran t n := by
  unfold State.ran State.since
  rw [h]

theorem State.running_of_ran {s : State} {t : Timer} {n : Nat} (h : s.ran t n = true) : s.running t = t := by
  cases t with
  | some a => rfl
  | none => exact absurd h (by simp [State.ran])

theorem State.ran_of_running {s : State} {t : Timer} {n : Nat} (hn : 0 < n) (h : s.ran (s.running t) n = true) :
    s.ran t n = true := by
  cases t with
  | some a => exact h
  | none =>
    simp [State.running, State.ran, State.since] at h
    omega

/-- A raise of a TRIP code leaves the time of an agreement (R100). -/
theorem State.raiseTrip_agreeTime (s : State) (c : AlarmCode) (v : Int) :
    (s.raiseTrip c v).drive.agreeTime = s.drive.agreeTime := by
  have hend (u : State) : u.endSupply.drive.agreeTime = u.drive.agreeTime := by
    unfold State.endSupply
    split
    · simp
    · simp
    · rfl
    · rfl
  have hcause (u : State) (x : HoldCause) : (u.addCause x).drive.agreeTime = u.drive.agreeTime := by
    unfold State.addCause
    split
    · rfl
    · dsimp only
      split
      · rw [(Sustains.enterHold_supply _).2]
        rfl
      · rfl
  have hadd (u : State) : u.addLocalTrip.drive.agreeTime = u.drive.agreeTime := by
    unfold State.addLocalTrip
    split
    · rfl
    · rw [hend, hcause]
  unfold State.raiseTrip
  dsimp only
  split
  · rfl
  · split
    · simpa using hadd (s.latch c v)
    · simp [State.latch, State.logOwn]

section

variable {s : State} (hwalk : s.is .walk = true) (raw : Analog)

theorem State.expireDisagree_alerts (s : State) :
    Alerts [.brakeFault, .transferFail] [.localTrip] 2 s s.expireDisagree :=
  .guarded fun _ => (Alerts.raiseTrip (s := s.modDrive _)).after

theorem State.expireAgree_alerts (s : State) :
    Alerts [.brakeFault, .transferFail] [.localTrip] 1 s s.expireAgree :=
  .guarded fun _ => (Alerts.returnAlarm (s := s.modDrive _)).after

theorem State.expireDisagree_brakeSet (s : State) : s.expireDisagree.out.brakeSet = s.out.brakeSet := by
  unfold State.expireDisagree
  split
  · exact (Sheds.raiseTrip (s := s.modDrive _)).brake
  · rfl

theorem State.expireAgree_brakeSet (s : State) : s.expireAgree.out.brakeSet = s.out.brakeSet := by
  unfold State.expireAgree
  split
  · exact Outputs.brakeSet_of_lines ((State.returnAlarm_lines _ _).trans rfl)
  · rfl

include hwalk

/-- Before the walk sequencer BRAKE_FAULT moves at most, and with it TRANSFER_FAIL. -/
theorem State.approached_alerts : Alerts [.brakeFault, .transferFail] [.localTrip] 3 s (s.approached raw) := by
  obtain ⟨hctl, halarm, -⟩ := State.surveyed_keeps hwalk raw
  have hphase (u : State) : Alerts [.brakeFault, .transferFail] [.localTrip] 0 u u.notePhase := .kept
  exact (((s.surveyed raw).expireDisagree_alerts.trans (State.expireAgree_alerts _)).trans (hphase _)).after hctl halarm

/-- The walk sequencer finds cams, roster and brake output as the expiry found them. -/
theorem State.approached_keeps : (s.approached raw).now = s.now ∧ (s.approached raw).peers = s.peers
    ∧ (s.approached raw).meas.homedA = s.meas.homedA ∧ (s.approached raw).meas.homedB = s.meas.homedB
    ∧ (s.approached raw).out.brakeSet = s.out.brakeSet := by
  obtain ⟨-, -, hout, -, hnow, hpeers, -⟩ := State.surveyed_keeps hwalk raw
  obtain ⟨hleft, hright, -⟩ := State.surveyed_meas hwalk raw
  have hbrake : (s.approached raw).out.brakeSet = (s.surveyed raw).out.brakeSet := by
    unfold State.approached
    rw [show ((s.surveyed raw).expireDisagree.expireAgree).notePhase.out =
      ((s.surveyed raw).expireDisagree.expireAgree).out by simp, State.expireAgree_brakeSet,
      State.expireDisagree_brakeSet]
  refine ⟨?_, ?_, ?_, ?_, hbrake.trans (by rw [hout])⟩ <;> simp [State.approached, hnow, hpeers, hleft, hright]

/-- The walk is as the expiry found it, or a BRAKE_FAULT raised in RUN has been a stop request to it (R10). -/
theorem State.approached_walk : (s.approached raw).walk = s.walk
    ∨ (s.ctl.mode = .run ∧ s.drive.brakeFaultRaised = false ∧ s.ran s.drive.disagreeTime 300 = true
      ∧ (s.approached raw).walk = s.walk.stopped) := by
  obtain ⟨hctl, halarm, -, hsame, hnow, -, hflag⟩ := State.surveyed_keeps hwalk raw
  have hbehind : (s.approached raw).walk = (s.surveyed raw).expireDisagree.walk := by simp [State.approached]
  rw [hbehind]
  unfold State.expireDisagree
  split
  · next hdue =>
    simp only [Bool.and_eq_true, Bool.not_eq_true', brakeCheckTime] at hdue
    obtain ⟨⟨-, hraised⟩, hran⟩ := hdue
    have htime : s.ran s.drive.disagreeTime 300 = true := by
      rw [State.surveyed_disagreeTime hwalk raw, State.ran_of_now hnow] at hran
      split at hran
      · exact State.ran_of_running (by decide) hran
      · exact absurd hran (by simp [State.ran])
    have hwalk' : (s.surveyed raw).is .walk = true := (State.is_congr (by rw [hctl]) .walk).trans hwalk
    have hraise (u : State) (hu : u.is .walk = true) (hm : u.ctl.mode = s.ctl.mode) (hw : u.walk = s.walk) (v : Int) :
        (u.raiseTrip .brakeFault v).walk = s.walk
          ∨ (s.ctl.mode = .run ∧ (u.raiseTrip .brakeFault v).walk = s.walk.stopped) := by
      cases huse : u.alarmInUse with
      | false =>
        have hnone : u.raiseTrip .brakeFault v = u := if_pos (by simp [huse])
        rw [hnone]
        exact .inl hw
      | true =>
        rw [State.raiseTrip_walk hu huse, hw, hm]
        split
        · next h => exact .inr ⟨h.2.2, rfl⟩
        · exact .inl rfl
    obtain hkept | ⟨hrun, hstopped⟩ := hraise ((s.surveyed raw).modDrive fun d =>
      { d with brakeFaultRaised := true, disagreeTime := none }) hwalk' (by rw [← hctl]; rfl) hsame _
    · exact .inl hkept
    · exact .inr ⟨hrun, hflag ▸ hraised, htime, hstopped⟩
  · exact .inl hsame

/-- The walk station surveyed, its BRAKE_FAULT about to be raised. -/
def State.faulted (s : State) (raw : Analog) : State :=
  (s.surveyed raw).modDrive fun d => { d with brakeFaultRaised := true, disagreeTime := none }

/-- A BRAKE_FAULT due is raised, and does not return at the same expiry (R100). -/
theorem State.approached_of_due (hload : s.loaded = true) (hraised : s.drive.brakeFaultRaised = false)
    (hbad : s.out.brakeSet ≠ s.meas.brakeFb.value) (hran : s.ran s.drive.disagreeTime 300 = true) :
    s.approached raw =
      ((s.faulted raw).raiseTrip .brakeFault (if s.out.brakeSet then 1 else 2)).notePhase := by
  obtain ⟨hctl, -, hout, -, hnow, -, hflag⟩ := State.surveyed_keeps hwalk raw
  have hloaded : (s.surveyed raw).loaded = true := by
    simpa only [State.loaded, State.configured, State.receives, State.addressed, hctl] using hload
  have htime : (s.surveyed raw).ran (s.surveyed raw).drive.disagreeTime 300 = true := by
    rw [State.surveyed_disagreeTime hwalk raw, if_pos ⟨hraised, hbad⟩, State.ran_of_now hnow,
      State.running_of_ran hran]
    exact hran
  have hagree : ((s.faulted raw).raiseTrip .brakeFault (if s.out.brakeSet then 1 else 2)).drive.agreeTime = none := by
    rw [State.raiseTrip_agreeTime]
    have hnone : (s.faulted raw).drive.agreeTime =
        if ((s.expiryStep raw).drive.brakeFaultRaised && !(s.expiryStep raw).brakeDisagrees) = true then
          (s.expiryStep raw).running (s.expiryStep raw).drive.agreeTime
        else none := rfl
    rw [hnone, show (s.expiryStep raw).drive.brakeFaultRaised = false from hflag.trans hraised]
    rfl
  unfold State.approached
  rw [State.expireDisagree_of_due hloaded (hflag.trans hraised) htime, hout]
  refine congrArg State.notePhase (if_neg ?_)
  show ¬(_ && State.ran _ ((s.faulted raw).raiseTrip .brakeFault _).drive.agreeTime _) = true
  rw [hagree]
  simp [State.ran]

/-- A BRAKE_FAULT due in RUN, the first TRIP: its entry, its hold, and the stop request to the walk (R10, R100). -/
theorem State.approached_brakeFault (hload : s.loaded = true) (hrun : s.ctl.mode = .run)
    (hraised : s.drive.brakeFaultRaised = false) (hbad : s.out.brakeSet ≠ s.meas.brakeFb.value)
    (hran : s.ran s.drive.disagreeTime 300 = true) (huse : s.alarmInUse = true) (hfree : s.RunIsFree)
    (htrip : s.hasCause .localTrip = !s.alarm.tripsNormal) :
    Logs [] 0 s (s.faulted raw)
      ∧ Logs [.transferFail] 1 ((s.faulted raw).latch .brakeFault (if s.out.brakeSet then 1 else 2)) (s.approached raw)
      ∧ (s.approached raw).TripStands ∧ (s.approached raw).walk = s.walk.stopped := by
  obtain ⟨hctl, halarm, -, hsame, hnow, -⟩ := State.surveyed_keeps hwalk raw
  have huse' : (s.faulted raw).alarmInUse = true :=
    (State.alarmInUse_of_straps (congrArg StationControl.straps hctl)).trans huse
  have hwalk' : (s.faulted raw).is .walk = true :=
    (State.is_congr (congrArg StationControl.straps hctl) .walk).trans hwalk
  have habsent := State.hasCause_of_run hfree hrun .localTrip
  have hfirst : s.alarm.tripsNormal = true := by simpa [habsent] using htrip
  have hnote (u : State) : Logs [.transferFail] 0 u u.notePhase := .kept
  rw [State.approached_of_due hwalk raw hload hraised hbad hran]
  refine ⟨.kept hctl halarm hnow, ?_, ?_, ?_⟩
  · exact (Logs.of_alerts (Alerts.latch_raiseTrip (causes := [.localTrip]) huse')).trans (hnote _)
  · exact (hnote _).stands (State.raiseTrip_tripStands rfl huse' (fun h => absurd
      ((congrArg AlarmUnit.tripsNormal halarm).symm.trans h) (by simp [hfirst])) _)
  · have hmoved := State.raiseTrip_walk hwalk' huse' .brakeFault (if s.out.brakeSet then 1 else 2)
    have hstop : (s.faulted raw).alarm.tripsNormal = true ∧ (s.faulted raw).hasCause .localTrip = false
        ∧ (s.faulted raw).ctl.mode = .run :=
      ⟨(congrArg AlarmUnit.tripsNormal halarm).trans hfirst,
        (congrArg (fun c : StationControl => c.causes.has .localTrip) hctl).trans habsent,
        (congrArg StationControl.mode hctl).trans hrun⟩
    have hbehind (u : State) : u.notePhase.walk = u.walk := by simp
    rw [hbehind, hmoved, if_pos hstop]
    exact congrArg WalkSequencer.stopped hsame

end

end Sys2Proof.Machine
end

section
/-!
PROOFS. The walk sequencer at an expiry (R123 to R125, R132, R133, R135).
-/

set_option Elab.async false

namespace Sys2Proof.Machine

/-! ### The expiry of a walk station -/

section

variable {s : State} (hwalk : s.is .walk = true) (raw : Analog)

include hwalk

/-- A walk station checks no field, and its role logic notes the phase alone. -/
theorem State.walked_eq : s.walked raw = (s.approached raw).walkExpiry := by
  have hchecked : ((s.surveyed raw).expireDisagree.expireAgree).is .walk = true := by
    obtain ⟨hctl, -⟩ := State.surveyed_keeps hwalk raw
    have hstraps := ((s.surveyed raw).expireDisagree_alerts.trans (State.expireAgree_alerts _)).straps
    exact (State.is_congr (hstraps.trans (congrArg StationControl.straps hctl)) .walk).trans hwalk
  have hfield : (s.expiryStep raw).checks s.drive.duty = (s.surveyed raw).expireDisagree.expireAgree :=
    if_neg (by
      have h : ((s.expiryStep raw).checkBrake).is .walk = true := hchecked
      simp [State.is_of_is h])
  unfold State.walked State.approached
  rw [hfield]
  generalize (s.surveyed raw).expireDisagree.expireAgree = y at hchecked ⊢
  have hboom : y.checkBoom = y := if_neg (by simp [State.estimatesBoom, State.is_of_is hchecked])
  have hstep : y.takesStep = false := by simp [State.takesStep, State.is_of_is hchecked]
  have hsupply : y.supplyExpiry = y := if_neg (by simp [State.is_of_is hchecked])
  have hrole : y.roleExpiry = y.notePhase := by
    unfold State.roleExpiry
    simp [hboom, hstep, hsupply]
  rw [hrole]

theorem State.approached_straps : (s.approached raw).ctl.straps = s.ctl.straps :=
  (State.approached_alerts hwalk raw).straps

theorem State.approached_is : (s.approached raw).is .walk = true :=
  (State.is_congr (State.approached_straps hwalk raw) .walk).trans hwalk

/-- The parameters stay frozen up to the walk sequencer. -/
theorem State.approached_prm : (s.approached raw).prm = s.prm := by
  unfold State.prm
  rw [(State.approached_alerts hwalk raw).params]

end

/-! ### What the sequencer finds (R123 to R125) -/

/-- Region, home and step count with what the next expiry compares, and whether CAM_SKEW stands. -/
def WalkSequencer.found (w : WalkSequencer) :=
  ((w.region, w.offHome, w.stepCount, w.prevAngle, w.prevHomed, w.prevHomedRight), w.skewRaised)

theorem WalkSequencer.stopped_found (w : WalkSequencer) : w.stopped.found = w.found := by
  unfold WalkSequencer.stopped
  split <;> rfl

section

variable {s : State} (hwalk : s.is .walk = true)

theorem State.endReturning_found (s : State) : s.endReturning.walk.found = s.walk.found := by
  unfold State.endReturning
  split
  · simp [WalkSequencer.found, State.enterWalk]
  · rfl

theorem State.checkEnd_found (s : State) : s.checkEnd.walk.found = s.walk.found := by
  have hend (u : State) : u.expireEnd.walk.found = u.walk.found := by
    unfold State.expireEnd
    split
    · exact (State.endReturning_found _).trans rfl
    · rfl
  unfold State.checkEnd
  split
  · exact (hend _).trans rfl
  · rfl

theorem State.walkReferences_found (s : State) : s.walkReferences.walk.found = s.walk.found := rfl

theorem State.stoppingPhase_found (s : State) : s.stoppingPhase.walk.found = s.walk.found := by
  unfold State.stoppingPhase
  (repeat' split) <;> rfl

include hwalk

theorem State.forceWalk_found (c : ForcedCause) : (s.forceWalk c).walk.found = s.walk.found := by
  have hforced : (s.enterForced c).walk.found = s.walk.found :=
    (congrArg WalkSequencer.found (s.enterForced_forced hwalk c).1).trans rfl
  unfold State.forceWalk
  split
  · exact hforced
  · exact hforced
  · split
    · exact hforced
    · rfl
  · split
    · exact hforced
    · rfl
  all_goals rfl

theorem State.enterStop_found : s.enterStop.walk.found = s.walk.found := by
  by_cases hm : s.ctl.mode = .stop
  · rw [State.enterStop_of_stop hm]
  · have hsafe : s.halted.stopSupply.makeSafe.stopSwing.walk = s.walk :=
      (by simp : _ = s.halted.walk).trans rfl
    have hstraps : s.halted.stopSupply.makeSafe.stopSwing.ctl.straps = s.ctl.straps :=
      (State.stopSwing_orderly (p := True) _).drifted.straps.trans s.madeSafe_logs.straps
    have hforce := State.forceWalk_found (s := s.halted.stopSupply.makeSafe.stopSwing)
      ((State.is_congr hstraps .walk).trans hwalk) .stop
    rw [State.enterStop_of_ne hm]
    exact (congrArg WalkSequencer.found (by simp)).trans (hforce.trans (congrArg WalkSequencer.found hsafe))

theorem State.raiseStop_found (c : AlarmCode) (v : Int) : (s.raiseStop c v).walk.found = s.walk.found := by
  unfold State.raiseStop
  split
  · rfl
  · exact (congrArg WalkSequencer.found (by simp)).trans (State.enterStop_found (s := s.latch c v) hwalk)

/-- The skew check judges CAM_SKEW alone. -/
theorem State.checkSkew_found : s.checkSkew.walk.found.1 = s.walk.found.1 := by
  unfold State.checkSkew
  split
  · split
    · simp [WalkSequencer.found]
    · rfl
  · split
    · exact (congrArg Prod.fst
        (State.raiseStop_found (s := s.modWalk fun w => { w with skewRaised := true }) hwalk _ _)).trans rfl
    · rfl

/-- Behind the judgement of an expiry the findings stay (R123 to R125). -/
theorem State.walkExpiry_found : s.walkExpiry.walk.found.1 = s.judgeCams.walk.found.1 := by
  have hwalk' : s.judgeCams.checkEnd.is .walk = true :=
    (State.is_congr (s := s.judgeCams) (by simp) .walk).trans hwalk
  have hmoves : (if s.judgeCams.checkEnd.walk.state.moves then s.judgeCams.checkEnd.walkReferences
      else s.judgeCams.checkEnd).checkSkew.stoppingPhase.walk.found.1 = s.judgeCams.walk.found.1 := by
    rw [State.stoppingPhase_found]
    split
    · rw [State.checkSkew_found (s := s.judgeCams.checkEnd.walkReferences) hwalk', State.walkReferences_found,
        State.checkEnd_found]
    · rw [State.checkSkew_found hwalk', State.checkEnd_found]
  unfold State.walkExpiry
  rw [if_pos hwalk]
  exact hmoves

end

end Sys2Proof.Machine
end

section
/-!
PROOFS. Skew, stopping phases and the other walk states at an expiry (R133, R135, R138).
-/

set_option Elab.async false

namespace Sys2Proof.Machine

/-! ### The expiry from the walk sequencer on -/

section

variable {s : State} (hwalk : s.is .walk = true) (raw : Analog)

include hwalk

/-- An expiry of the walk station is its walk sequencer, between the survey and the rest. -/
theorem State.regulationExpiry_trails (hdue : s.regulationDue = true) :
    Trails 1 (s.approached raw).walkExpiry (s.regulationExpiry raw) := by
  have hstraps : (s.approached raw).walkExpiry.ctl.straps = s.ctl.straps :=
    (State.walkExpiry_orderly (p := True) _ (.inl trivial)).drifted.straps.trans (State.approached_straps hwalk raw)
  have hwalk' : (s.walked raw).is .walk = true := by
    rw [State.walked_eq hwalk]
    exact (State.is_congr hstraps .walk).trans hwalk
  have htrails := State.regulationWork_trails hwalk'
  rw [State.walked_eq hwalk] at htrails
  rw [State.regulationExpiry, if_pos hdue]
  exact htrails

/-- The findings of the survey are those before the expiry. -/
theorem State.approached_found : (s.approached raw).walk.found = s.walk.found := by
  obtain h | ⟨-, -, -, h⟩ := State.approached_walk hwalk raw
  · rw [h]
  · rw [h, s.walk.stopped_found]

end

/-! ### The skew check (R133) -/

/-- CAM_SKEW is due at the angles that the sequencer finds. -/
def State.skewDue (s : State) : Prop :=
  s.walk.skewRaised = false ∧ s.walk.state.moves = true ∧ s.camsHomed = true ∧ 2 ≤ s.dragCount ∧ s.skewed = true

section

variable {s : State}

theorem State.checkSkew_of_due (h : s.skewDue) :
    s.checkSkew = (s.modWalk fun w => { w with skewRaised := true }).raiseStop .camSkew s.skew := by
  obtain ⟨hraised, hmoves, hhomed, hdrags, hskewed⟩ := h
  unfold State.checkSkew
  rw [if_neg (by simp [hraised]), if_pos (by simp [hmoves, hhomed, hdrags, hskewed])]

/-- CAM_SKEW raised before is returned once both cams are homed and the skew is within its limit. -/
theorem State.checkSkew_of_raised (h : s.walk.skewRaised = true) (huse : s.alarmInUse = true) :
    s.checkSkew.walk.skewRaised = !(s.camsHomed && !s.skewed)
    ∧ s.checkSkew.ann .camSkew =
      if (s.camsHomed && !s.skewed) = true then (s.ann .camSkew).afterReturn else s.ann .camSkew := by
  unfold State.checkSkew
  rw [if_pos h]
  split
  · next hends =>
    rw [hends]
    exact ⟨by simp, State.returnAlarm_ann (s := s.modWalk fun w => { w with skewRaised := false }) huse rfl .camSkew⟩
  · next hstays =>
    rw [Bool.eq_false_iff.mpr hstays]
    exact ⟨h, rfl⟩

/-- Unless CAM_SKEW is due the check moves its own mark and its own code at most. -/
theorem State.checkSkew_of_calm (h : ¬s.skewDue) :
    (∃ b, s.checkSkew.walk = { s.walk with skewRaised := b }) ∧ s.checkSkew.out.brakeSet = s.out.brakeSet
      ∧ Logs [.transferFail, .walkForcedStop, .camSkew] 4 s s.checkSkew := by
  unfold State.checkSkew
  split
  · split
    · have hreturn : Alerts [.camSkew] [.localTrip] 1 (s.modWalk fun w => { w with skewRaised := false })
          ((s.modWalk fun w => { w with skewRaised := false }).returnAlarm .camSkew) := .returnAlarm
      exact ⟨⟨false, by simp⟩, Outputs.brakeSet_of_lines ((State.returnAlarm_lines _ _).trans rfl),
        (Logs.of_alerts (hreturn.after (s := s))).mono (by decide)⟩
    · exact ⟨⟨_, rfl⟩, rfl, .refl s⟩
  · next hraised =>
    split
    · next hdue =>
      simp only [Bool.and_eq_true, decide_eq_true_eq] at hdue
      obtain ⟨⟨⟨hmoves, hhomed⟩, hdrags⟩, hskewed⟩ := hdue
      exact absurd ⟨by simpa using hraised, hmoves, hhomed, hdrags, hskewed⟩ h
    · exact ⟨⟨_, rfl⟩, rfl, .refl s⟩

end

section

variable {s : State} (hwalk : s.is .walk = true) (hmode : s.ctl.mode = .hold ∨ s.ctl.mode = .run)
  (hmoves : s.walk.state = .stepping ∨ s.walk.state = .stopping) (huse : s.alarmInUse = true)

include hwalk hmode huse hmoves

/-- A STOP code raised in HOLD or RUN forces a moving walk and stops its cams (R11, R136). -/
theorem State.raiseStop_forces (c : AlarmCode) (v : Int) : let t := s.raiseStop c v
    t.ctl.mode = .stop ∧ t.walk.state = .forced ∧ t.walk.forced = ⟨false, false, true⟩ ∧ t.camsStopped
    ∧ t.walk.skewRaised = s.walk.skewRaised := by
  dsimp only
  have hraise : s.raiseStop c v = ((s.latch c v).enterStop).armAndNotice c v s.ctl.mode := if_neg (by simp [huse])
  have hstop := State.enterStop_of_working (s := s.latch c v) hwalk hmode
  have hsafe : (s.latch c v).madeSafe.walk = s.walk :=
    (by simp [State.madeSafe] : _ = (s.latch c v).halted.walk).trans rfl
  have hwalk' : (s.latch c v).madeSafe.is .walk = true :=
    (State.is_congr (s.latch c v).madeSafe_logs.straps .walk).trans hwalk
  rw [State.forceWalk_of_moving (by rwa [hsafe])] at hstop
  obtain ⟨hforced, hbrake⟩ := (s.latch c v).madeSafe.enterForced_forced hwalk' .stop
  have hkept (u : State) : (u.armAndNotice c v s.ctl.mode).walk = u.walk
      ∧ (u.armAndNotice c v s.ctl.mode).out = u.out ∧ (u.armAndNotice c v s.ctl.mode).ctl = u.ctl := by simp
  obtain ⟨hw, ho, hc⟩ := hkept (s.latch c v).enterStop
  rw [hraise, State.camsStopped, hw, ho, hc, State.enterStop_mode, hstop, hforced, hbrake]
  exact ⟨rfl, rfl, rfl, ⟨rfl, rfl, rfl, rfl⟩, show (s.latch c v).madeSafe.walk.skewRaised = _ by rw [hsafe]⟩

end

/-! ### The stopping phases (R135) -/

section

variable {s : State}

theorem State.stoppingPhase_of_other (h : s.walk.state ≠ .stopping) : s.stoppingPhase = s := by
  unfold State.stoppingPhase
  split
  · next hs _ => exact absurd hs h
  · next hs _ => exact absurd hs h
  · rfl

/-- The end of the ramp phase, the tub bearing and the reference at 0. -/
def State.haltDue (s : State) : Prop :=
  s.walk.state = .stopping ∧ s.walk.phase = some .ramp ∧ s.walk.region ≠ some .carry ∧ s.walk.reference = 0

theorem State.stoppingPhase_of_due (h : s.haltDue) : s.stoppingPhase = s.haltWalk := by
  obtain ⟨hstate, hphase, hregion, href⟩ := h
  unfold State.stoppingPhase
  rw [hstate, hphase]
  exact (if_neg hregion).trans (if_pos href)

/-- The phase of a walk short of its halt: in STOPPING it follows the region (R135). -/
def WalkSequencer.nextPhase (w : WalkSequencer) : Option StopPhase :=
  if w.state = .stopping ∧ w.phase ≠ none then (if w.region = some .carry then some .creep else some .ramp)
  else w.phase

theorem State.stoppingPhase_of_under_way (h : ¬s.haltDue) :
    s.stoppingPhase.walk = { s.walk with phase := s.walk.nextPhase } ∧ s.stoppingPhase.out = s.out := by
  have hstay (hs : s.stoppingPhase = s) (hp : s.walk.nextPhase = s.walk.phase) :
      s.stoppingPhase.walk = { s.walk with phase := s.walk.nextPhase } ∧ s.stoppingPhase.out = s.out := by
    rw [hs, hp]
    exact ⟨rfl, rfl⟩
  have hmove (x : StopPhase) (hs : s.stoppingPhase = s.modWalk fun w => { w with phase := some x })
      (hp : s.walk.nextPhase = some x) :
      s.stoppingPhase.walk = { s.walk with phase := s.walk.nextPhase } ∧ s.stoppingPhase.out = s.out := by
    rw [hs, hp]
    exact ⟨rfl, rfl⟩
  by_cases hstate : s.walk.state = .stopping
  · by_cases hregion : s.walk.region = some .carry <;> rcases hphase : s.walk.phase with _ | _ | _
    · exact hstay (by simp [State.stoppingPhase, hphase]) (by simp [WalkSequencer.nextPhase, hphase])
    · exact hstay (by simp [State.stoppingPhase, hstate, hphase, WalkSequencer.bearing, hregion])
        (by simp [WalkSequencer.nextPhase, hstate, hphase, hregion])
    · exact hmove .creep (by simp [State.stoppingPhase, hstate, hphase, hregion])
        (by simp [WalkSequencer.nextPhase, hstate, hphase, hregion])
    · exact hstay (by simp [State.stoppingPhase, hphase]) (by simp [WalkSequencer.nextPhase, hphase])
    · exact hmove .ramp (by simp [State.stoppingPhase, hstate, hphase, WalkSequencer.bearing, hregion])
        (by simp [WalkSequencer.nextPhase, hstate, hphase, hregion])
    · have href : s.walk.reference ≠ 0 := fun href => h ⟨hstate, hphase, hregion, href⟩
      exact hstay (by simp [State.stoppingPhase, hstate, hphase, hregion, href])
        (by simp [WalkSequencer.nextPhase, hstate, hphase, hregion])
  · exact hstay (State.stoppingPhase_of_other hstate) (by simp [WalkSequencer.nextPhase, hstate])

end

end Sys2Proof.Machine
end

section
/-!
PROOFS. A walk in STEPPING or STOPPING at an expiry: skewed, halted, or under way (R132, R133, R135).
-/

set_option Elab.async false

namespace Sys2Proof.Machine

theorem WalkState.moves_iff (x : WalkState) : x.moves = true ↔ x = .stepping ∨ x = .stopping := by
  cases x <;> simp [WalkState.moves]

/-- The walk sequencer at an expiry with the cams judged and the references formed. -/
def State.referred (s : State) : State := s.judgeCams.walkReferences

theorem State.referred_marked_logs {codes : List AlarmCode} (s : State) :
    Logs codes 0 s (s.referred.modWalk fun w => { w with skewRaised := true }) := .kept rfl rfl rfl

section

variable {s : State} (hwalk : s.is .walk = true)
  (hmoves : s.walk.state = .stepping ∨ s.walk.state = .stopping)

include hwalk hmoves

theorem State.walkExpiry_of_moving : s.walkExpiry = s.referred.checkSkew.stoppingPhase := by
  have hend : s.judgeCams.checkEnd = s.judgeCams := if_neg fun ⟨hhalted, _⟩ => by
    have h : s.walk.state = .halted := hhalted
    rcases hmoves with hm | hm <;> exact absurd (hm.symm.trans h) (by decide)
  have hmoving : s.judgeCams.walk.state.moves = true := (WalkState.moves_iff _).mpr hmoves
  unfold State.walkExpiry State.walkMoves
  rw [if_pos hwalk, hend, if_pos hmoving]
  rfl

/-- The walk forced by its skew. -/
theorem State.walkExpiry_of_skewDue (hmode : s.ctl.mode = .hold ∨ s.ctl.mode = .run) (huse : s.alarmInUse = true)
    (h : s.referred.skewDue) : let t := s.walkExpiry
    t.ctl.mode = .stop ∧ t.walk.state = .forced ∧ t.walk.forced = ⟨false, false, true⟩ ∧ t.camsStopped
    ∧ t.walk.skewRaised = true
    ∧ Logs [.transferFail, .walkForcedStop] 3
        ((s.referred.modWalk fun w => { w with skewRaised := true }).latch .camSkew s.skew) t := by
  have hforced := State.raiseStop_forces (s := s.referred.modWalk fun w => { w with skewRaised := true }) hwalk hmode
    hmoves huse .camSkew s.skew
  have hlogs := State.latch_raiseStop_logs (s := s.referred.modWalk fun w => { w with skewRaised := true }) hwalk hmode
    huse .camSkew s.skew
  have hcheck : s.referred.checkSkew =
      (s.referred.modWalk fun w => { w with skewRaised := true }).raiseStop .camSkew s.skew := State.checkSkew_of_due h
  obtain ⟨hstop, hstate, hset, hcams, hmark⟩ := hforced
  dsimp only
  rw [State.walkExpiry_of_moving hwalk hmoves, hcheck,
    State.stoppingPhase_of_other (by rw [hstate]; decide)]
  exact ⟨hstop, hstate, hset, hcams, hmark, hlogs⟩

/-- Without CAM_SKEW due, the check before the stopping phases leaves all but its own mark. -/
theorem State.walkExpiry_of_calm (h : ¬s.referred.skewDue) : ∃ u b, s.walkExpiry = u.stoppingPhase
    ∧ u.walk = { s.referred.walk with skewRaised := b } ∧ u.out.brakeSet = s.out.brakeSet
    ∧ Logs [.transferFail, .walkForcedStop, .camSkew] 4 s u := by
  obtain ⟨⟨b, hw⟩, hbrake, hlogs⟩ := State.checkSkew_of_calm h
  refine ⟨_, b, State.walkExpiry_of_moving hwalk hmoves, hw, hbrake, ?_⟩
  have hbefore : Logs [.transferFail, .walkForcedStop, .camSkew] 0 s s.referred := .kept rfl rfl rfl
  exact (hbefore.trans hlogs).mono (by decide)

/-- The walk halted at the end of its ramp phase. -/
theorem State.walkExpiry_of_haltDue (h : ¬s.referred.skewDue) (hh : s.referred.haltDue) :
    s.walkExpiry.walk.state = .halted ∧ s.walkExpiry.walk.phase = none ∧ s.walkExpiry.camsStopped := by
  obtain ⟨u, b, hexpiry, hw, -, -⟩ := State.walkExpiry_of_calm hwalk hmoves h
  have hdue : u.haltDue := by
    unfold State.haltDue
    rw [hw]
    exact hh
  rw [hexpiry, State.stoppingPhase_of_due hdue]
  exact ⟨rfl, rfl, rfl, rfl, rfl, rfl⟩

/-- The walk under way: its references formed, its phase by the region, and nothing else moved. -/
theorem State.walkExpiry_of_under_way (h : ¬s.referred.skewDue) (hh : ¬s.referred.haltDue) : let t := s.walkExpiry
    t.walk.state = s.walk.state ∧ t.walk.phase = s.referred.walk.nextPhase
    ∧ t.walk.reference = s.referred.walk.reference ∧ t.out.brakeSet = s.out.brakeSet
    ∧ t.walk.left = s.referred.walk.left ∧ t.walk.right = s.referred.walk.right := by
  obtain ⟨u, b, hexpiry, hw, hbrake, -⟩ := State.walkExpiry_of_calm hwalk hmoves h
  have hdue : ¬u.haltDue := by
    unfold State.haltDue
    rw [hw]
    exact hh
  obtain ⟨hphase, hout⟩ := State.stoppingPhase_of_under_way hdue
  dsimp only
  rw [hexpiry, hphase, hout, hw]
  exact ⟨rfl, rfl, rfl, hbrake, rfl, rfl⟩

/-- Whichever of the three: the expiry's raises and returns. -/
theorem State.walkExpiry_logs (hmode : s.ctl.mode = .hold ∨ s.ctl.mode = .run) (huse : s.alarmInUse = true) :
    Logs [.transferFail, .walkForcedStop, .camSkew] 4 s s.walkExpiry := by
  by_cases h : s.referred.skewDue
  · obtain ⟨-, -, -, -, -, hbehind⟩ := State.walkExpiry_of_skewDue hwalk hmoves hmode huse h
    exact ((s.referred_marked_logs.trans (.latch _ _ (by decide))).trans (hbehind.mono (Nat.le_refl 3)))
  · obtain ⟨u, -, hexpiry, -, -, hlogs⟩ := State.walkExpiry_of_calm hwalk hmoves h
    have hphase : Logs [.transferFail, .walkForcedStop, .camSkew] 0 u u.stoppingPhase := .kept
    rw [hexpiry]
    exact hlogs.trans hphase

/-- A walk already STOPPING goes on, halts, or is forced. -/
theorem State.walkExpiry_of_stopping (hmode : s.ctl.mode = .hold ∨ s.ctl.mode = .run) (huse : s.alarmInUse = true)
    (hstopping : s.walk.state = .stopping) : s.walkExpiry.walk.state = .stopping
      ∨ ((s.walkExpiry.walk.state = .halted ∨ s.walkExpiry.walk.state = .forced) ∧ s.walkExpiry.camsStopped) := by
  by_cases h : s.referred.skewDue
  · obtain ⟨-, hforced, -, hcams, -, -⟩ := State.walkExpiry_of_skewDue hwalk hmoves hmode huse h
    exact .inr ⟨.inr hforced, hcams⟩
  · by_cases hh : s.referred.haltDue
    · obtain ⟨hhalted, -, hcams⟩ := State.walkExpiry_of_haltDue hwalk hmoves h hh
      exact .inr ⟨.inl hhalted, hcams⟩
    · obtain ⟨hstate, -⟩ := State.walkExpiry_of_under_way hwalk hmoves h hh
      exact .inl (hstate.trans hstopping)

end

/-! ### CAM_SKEW returned (R133) -/

theorem State.walkMoves_of_skewRaised {s : State} (h : s.walk.skewRaised = true) (huse : s.alarmInUse = true) :
    s.walkMoves.walk.skewRaised = !(s.camsHomed && !s.skewed)
    ∧ s.walkMoves.ann .camSkew =
      if (s.camsHomed && !s.skewed) = true then (s.ann .camSkew).afterReturn else s.ann .camSkew := by
  have hphase (u : State) : u.stoppingPhase.walk.skewRaised = u.walk.skewRaised
      ∧ u.stoppingPhase.ann .camSkew = u.ann .camSkew :=
    ⟨congrArg Prod.snd u.stoppingPhase_found, State.ann_congr (by simp) _⟩
  unfold State.walkMoves
  dsimp only
  rw [(hphase _).1, (hphase _).2]
  split
  · exact State.checkSkew_of_raised (s := s.walkReferences) h huse
  · exact State.checkSkew_of_raised h huse

/-- The walk sequencer returns a CAM_SKEW raised before, whatever the walk state. -/
theorem State.walkExpiry_of_skewRaised {s : State} (hwalk : s.is .walk = true) (h : s.walk.skewRaised = true)
    (huse : s.alarmInUse = true) : s.walkExpiry.walk.skewRaised = !(s.camsHomed && !s.skewed)
    ∧ s.walkExpiry.ann .camSkew =
      if (s.camsHomed && !s.skewed) = true then (s.ann .camSkew).afterReturn else s.ann .camSkew := by
  have hmark : s.judgeCams.checkEnd.walk.skewRaised = true :=
    (congrArg Prod.snd s.judgeCams.checkEnd_found).trans h
  obtain ⟨hctl, halarm, hmeas⟩ : s.judgeCams.checkEnd.ctl = s.ctl ∧ s.judgeCams.checkEnd.alarm = s.alarm
      ∧ s.judgeCams.checkEnd.meas = s.meas := by simp
  have hmoves := State.walkMoves_of_skewRaised hmark
    ((State.alarmInUse_of_straps (congrArg StationControl.straps hctl)).trans huse)
  have hexpiry : s.walkExpiry = s.judgeCams.checkEnd.walkMoves := if_pos hwalk
  have hcams : s.judgeCams.checkEnd.camsHomed = s.camsHomed := by rw [State.camsHomed, hmeas]; rfl
  have hskewed : s.judgeCams.checkEnd.skewed = s.skewed := by
    unfold State.skewed State.skew State.prm
    rw [hctl, hmeas]
  have hann : s.judgeCams.checkEnd.ann .camSkew = s.ann .camSkew := State.ann_congr (by rw [halarm]) _
  rw [hcams, hskewed, hann] at hmoves
  rw [hexpiry]
  exact hmoves

/-! ### A walk at rest (R132, R138) -/

/-- A walk at rest takes no reference and no phase. -/
theorem State.walkMoves_of_rest {s : State} (hstep : s.walk.state ≠ .stepping) (hstop : s.walk.state ≠ .stopping) :
    s.walkMoves.walk.state = s.walk.state ∧ s.walkMoves.walk.reference = s.walk.reference
      ∧ s.walkMoves.out.brakeSet = s.out.brakeSet := by
  have hrest : s.walk.state.moves = false := by
    rw [Bool.eq_false_iff, ne_eq, WalkState.moves_iff]
    exact fun h => h.elim hstep hstop
  obtain ⟨⟨b, hw⟩, hbrake, -⟩ := State.checkSkew_of_calm fun h : s.skewDue =>
    absurd (h.2.1.symm.trans hrest) (by decide)
  have hmoves : s.walkMoves = s.checkSkew := by
    unfold State.walkMoves
    rw [hrest]
    exact State.stoppingPhase_of_other (by rw [if_neg Bool.false_ne_true, hw]; exact hstop)
  rw [hmoves, hw]
  exact ⟨rfl, rfl, hbrake⟩

section

variable {s : State} (hwalk : s.is .walk = true)

include hwalk

/-- The end time moves a HALTED walk alone, to rest without reference. -/
theorem State.checkEnd_of_walk : s.checkEnd = s ∨ (s.walk.state = .halted ∧ s.checkEnd.out.brakeSet = s.out.brakeSet
    ∧ (s.checkEnd.walk.state = .halted ∧ s.checkEnd.walk.reference = s.walk.reference
      ∨ (s.checkEnd.walk.state = .returning ∨ s.checkEnd.walk.state = .idle) ∧ s.checkEnd.walk.reference = 0)) := by
  unfold State.checkEnd
  split
  · next h =>
    obtain ⟨hhalted, -⟩ := h
    refine .inr ⟨hhalted, ?_⟩
    unfold State.expireEnd
    split
    · unfold State.endReturning
      split
      · have hlead : ((s.watchEnd.enterWalk .returning).enterWalk .idle).swingLead = false :=
          State.swingLead_of_is (r := .walk) hwalk (by decide)
        rw [State.clearProposal_eq (.inr hlead)]
        exact ⟨rfl, .inr ⟨.inr rfl, rfl⟩⟩
      · exact ⟨rfl, .inr ⟨.inl rfl, rfl⟩⟩
    · exact ⟨rfl, .inl ⟨hhalted, rfl⟩⟩
  · exact .inl rfl

/-- At rest an expiry leaves the walk, or ends it from HALTED. -/
theorem State.walkExpiry_of_rest (hstep : s.walk.state ≠ .stepping) (hstop : s.walk.state ≠ .stopping) :
    let t := s.walkExpiry
    t.walk.state ≠ .stepping ∧ t.walk.state ≠ .stopping ∧ t.out.brakeSet = s.out.brakeSet
    ∧ t.walk.reference = (if s.walk.state = t.walk.state then s.walk.reference else 0)
    ∧ (s.walk.state ≠ .halted → t.walk.state = s.walk.state) := by
  have hended := State.checkEnd_of_walk (s := s.judgeCams) hwalk
  have hjudged : s.judgeCams.walk.state = s.walk.state ∧ s.judgeCams.walk.reference = s.walk.reference
      ∧ s.judgeCams.out = s.out := ⟨rfl, rfl, rfl⟩
  obtain ⟨hstate, href, hout⟩ := hjudged
  rw [hstate, href, hout] at hended
  have hexpiry : s.walkExpiry = s.judgeCams.checkEnd.walkMoves := if_pos hwalk
  obtain hsame | ⟨hhalted, hbrake, hto⟩ := hended
  · obtain ⟨hs, hr, hb⟩ := State.walkMoves_of_rest (s := s.judgeCams) hstep hstop
    rw [hsame] at hexpiry
    dsimp only
    rw [hexpiry, hs, hr, hb]
    exact ⟨hstep, hstop, rfl, (if_pos rfl).symm, fun _ => rfl⟩
  · have hrest : s.judgeCams.checkEnd.walk.state ≠ .stepping ∧ s.judgeCams.checkEnd.walk.state ≠ .stopping := by
      obtain ⟨h, -⟩ | ⟨h | h, -⟩ := hto <;> rw [h] <;> decide
    obtain ⟨hs, hr, hb⟩ := State.walkMoves_of_rest hrest.1 hrest.2
    dsimp only
    rw [hexpiry, hs, hr, hb, hhalted]
    refine ⟨hrest.1, hrest.2, hbrake, ?_, fun h => absurd rfl h⟩
    obtain ⟨h, href⟩ | ⟨h | h, href⟩ := hto <;> rw [h, href] <;> rfl

end

end Sys2Proof.Machine
end

section
/-!
PROOFS. The expiry clauses of O47, and O47.
-/

set_option Elab.async false

namespace Sys2Proof.Machine

/-! ### What the expiry of a walk station shows at its end -/

section

variable {s : State} (hwalk : s.is .walk = true) (hdue : s.regulationDue = true) (raw : Analog)

include hwalk

/-- The roster and both homed flags, as the walk sequencer finds them. -/
theorem State.approached_drags : (s.approached raw).dragCount = (s.rosterOf .drag).length := by
  obtain ⟨-, hpeers, -⟩ := State.approached_keeps hwalk raw
  unfold State.dragCount
  rw [State.rosterOf_congr fun k => congrArg (fun p : PeerTable => p.entries[k].expected) hpeers]

/-- Up to the walk sequencer the station stays in HOLD and RUN. -/
theorem State.approached_mode (hmode : s.ctl.mode = .hold ∨ s.ctl.mode = .run) :
    (s.approached raw).ctl.mode = .hold ∨ (s.approached raw).ctl.mode = .run := by
  rcases (State.approached_alerts hwalk raw).mode with h | ⟨-, h⟩ | ⟨-, h⟩
  · rwa [h]
  · exact .inr h
  · exact .inl h

theorem State.approached_camsHomed : (s.approached raw).camsHomed = (s.meas.homedA && s.meas.homedB) := by
  obtain ⟨-, -, hleft, hright, -⟩ := State.approached_keeps hwalk raw
  rw [State.camsHomed, hleft, hright]

include hdue

/-- The angles at the end are those that the walk sequencer found. -/
theorem State.regulationExpiry_angles : (s.regulationExpiry raw).meas.angleA = (s.approached raw).meas.angleA
    ∧ (s.regulationExpiry raw).meas.angleB = (s.approached raw).meas.angleB := by
  have htrails := State.regulationExpiry_trails hwalk raw hdue
  exact ⟨htrails.angleA.trans (by simp), htrails.angleB.trans (by simp)⟩

theorem State.regulationExpiry_skew :
    skewOf (s.regulationExpiry raw).meas.angleA (s.regulationExpiry raw).meas.angleB = (s.approached raw).skew := by
  obtain ⟨hleft, hright⟩ := State.regulationExpiry_angles hwalk hdue raw
  rw [hleft, hright]
  rfl

/-- The skew is beyond its limit for the judge at the end exactly if it was for the walk sequencer. -/
theorem State.skewedAt_iff : s.skewedAt (s.regulationExpiry raw) = true ↔
    (s.approached raw).camsHomed = true ∧ 2 ≤ (s.approached raw).dragCount ∧ (s.approached raw).skewed = true := by
  unfold State.skewedAt State.skewed
  rw [State.regulationExpiry_skew hwalk hdue, State.approached_camsHomed hwalk, State.approached_drags hwalk,
    State.approached_prm hwalk]
  simp only [Bool.and_eq_true, decide_eq_true_eq, and_assoc]

/-- Region, home and step count at the end are those of the walk sequencer's judgement. -/
theorem State.regulationExpiry_found :
    (s.regulationExpiry raw).walk.found.1 = (s.approached raw).judgeCams.walk.found.1 := by
  rw [(State.regulationExpiry_trails hwalk raw hdue).walk]
  exact State.walkExpiry_found (State.approached_is hwalk raw)

/-- The judgements of an expiry (R123 to R125), with the first homing of log entry 37. -/
theorem State.regulationExpiry_judges : let t := s.regulationExpiry raw
    let x := t.meas.angleA
    let homed := s.meas.homedA && s.meas.homedB
    let first := (s.meas.homedA && !s.walk.prevHomed) || (s.meas.homedB && !s.walk.prevHomedRight)
    let crosses := s.walk.prevHomed && s.meas.homedA && !first
      && decide (s.prm.shoeUp ≤ s.walk.prevAngle) && decide (x < s.prm.shoeDown)
    t.walk.region = (if !homed then none
      else if x < s.prm.shoeDown then some .reach
      else if x < s.prm.liftOff then some .lift
      else if x < s.prm.tubDown then some .carry
      else if x < s.prm.shoeUp then some .settle
      else some .back)
    ∧ t.walk.offHome = (!homed || (decide (s.prm.homeBand < x) && decide (x < 3600 - s.prm.homeBand)))
    ∧ t.walk.stepCount = (if crosses then s.walk.stepCount + 1 else s.walk.stepCount)
    ∧ t.walk.prevAngle = x ∧ t.walk.prevHomed = s.meas.homedA
    ∧ t.walk.prevHomedRight = s.meas.homedB := by
  obtain ⟨hangle, -⟩ := State.regulationExpiry_angles hwalk hdue raw
  obtain ⟨-, -, hleft, hright, -⟩ := State.approached_keeps hwalk raw
  have hprm := State.approached_prm hwalk raw
  have hfound := State.regulationExpiry_found hwalk hdue raw
  have hbefore := State.approached_found hwalk raw
  simp only [WalkSequencer.found, Prod.mk.injEq] at hfound hbefore
  obtain ⟨hregion, hoff, hcount, hangle', hhomed, hhomed'⟩ := hfound
  obtain ⟨⟨-, -, hcount₀, hangle₀, hhomed₀, hhomed₀'⟩, -⟩ := hbefore
  dsimp only
  rw [hregion, hoff, hcount, hangle', hhomed, hhomed', hangle]
  have hcams := State.approached_camsHomed hwalk raw
  have hcrosses : (s.approached raw).crossesHome = (s.walk.prevHomed && s.meas.homedA
      && !((s.meas.homedA && !s.walk.prevHomed) || (s.meas.homedB && !s.walk.prevHomedRight))
      && decide (s.prm.shoeUp ≤ s.walk.prevAngle) && decide ((s.approached raw).meas.angleA < s.prm.shoeDown)) := by
    unfold State.crossesHome State.firstHomes
    rw [hleft, hright, hhomed₀, hhomed₀', hangle₀, hprm]
    ac_rfl
  refine ⟨?_, ?_, ?_, rfl, hleft, hright⟩
  · show (if (s.approached raw).camsHomed then
      some (regionOf (s.approached raw).prm (s.approached raw).meas.angleA) else none) = _
    rw [hcams, hprm]
    unfold regionOf
    cases s.meas.homedA && s.meas.homedB
    · rfl
    · simp only [Bool.not_true, Bool.false_eq_true, if_true, if_false]
      split_ifs <;> rfl
  · show (!(s.approached raw).camsHomed || !(s.approached raw).atHome) = _
    rw [hcams, State.atHome, hprm]
    simp only [Bool.not_or, ← decide_not, not_le]
  · show (if (s.approached raw).crossesHome then (s.approached raw).walk.stepCount + 1
      else (s.approached raw).walk.stepCount) = _
    rw [hcrosses, hcount₀]

/-! ### CAM_SKEW returned (R133) -/

/-- CAM_SKEW raised before is returned at the first expiry with both cams homed and the skew within its limit. -/
theorem State.regulationExpiry_unskews (hraised : s.walk.skewRaised = true) (huse : s.alarmInUse = true) :
    let t := s.regulationExpiry raw
    let ends := s.meas.homedA && s.meas.homedB
      && decide ((skewOf t.meas.angleA t.meas.angleB).natAbs ≤ s.prm.skewStop)
    t.walk.skewRaised = !ends
    ∧ t.ann .camSkew = (if ends then (s.ann .camSkew).afterReturn else s.ann .camSkew) := by
  have htrails := State.regulationExpiry_trails hwalk raw hdue
  have halerts := State.approached_alerts hwalk raw
  have huse' : (s.approached raw).alarmInUse = true := (State.alarmInUse_of_straps halerts.straps).trans huse
  have hmark : (s.approached raw).walk.skewRaised = true :=
    (congrArg Prod.snd (State.approached_found hwalk raw)).trans hraised
  have hcams := State.approached_camsHomed hwalk raw
  have hends : ((s.approached raw).camsHomed && !(s.approached raw).skewed) = (s.meas.homedA && s.meas.homedB
      && decide ((s.approached raw).skew.natAbs ≤ s.prm.skewStop)) := by
    rw [hcams, State.skewed, State.approached_prm hwalk]
    simp only [← decide_not, not_lt]
  dsimp only
  rw [State.regulationExpiry_skew hwalk hdue, ← hends, htrails.walk, htrails.logs.ann .camSkew (by decide),
    ← halerts.ann .camSkew (by decide)]
  exact State.walkExpiry_of_skewRaised (State.approached_is hwalk raw) hmark huse'

/-! ### A walk at rest (R132) -/

/-- A walk neither in STEPPING nor in STOPPING keeps its reference with its state, and takes none with another. -/
theorem State.regulationExpiry_rests (hstep : s.walk.state ≠ .stepping) (hstop : s.walk.state ≠ .stopping) :
    let t := s.regulationExpiry raw
    t.walk.reference = (if s.walk.state = t.walk.state then s.walk.reference else 0)
    ∧ t.walk.state ≠ .stepping ∧ t.walk.state ≠ .stopping ∧ t.out.brakeSet = s.out.brakeSet := by
  have htrails := State.regulationExpiry_trails hwalk raw hdue
  obtain ⟨-, -, -, -, hbrake⟩ := State.approached_keeps hwalk raw
  have hbrake' := Outputs.brakeSet_of_lines htrails.lines
  have hq := State.approached_is hwalk raw
  dsimp only
  rw [htrails.walk, hbrake', ← hbrake]
  by_cases htransfer : (s.approached raw).walk = s.walk
  · rw [← htransfer] at hstep hstop ⊢
    obtain ⟨hs, hs', hb, hr, -⟩ := State.walkExpiry_of_rest hq hstep hstop
    exact ⟨hr, hs, hs', hb⟩
  · obtain hsame | ⟨-, -, -, hstopped⟩ := State.approached_walk hwalk raw
    · exact absurd hsame htransfer
    · have hstate : s.walk.state = .transfer := by
        by_contra hother
        exact htransfer (hstopped.trans (WalkSequencer.stopped_of_other hstep hother))
      have hidle : (s.approached raw).walk.state = .idle ∧ (s.approached raw).walk.reference = 0 := by
        rw [hstopped, WalkSequencer.stopped, hstate]
        exact ⟨rfl, rfl⟩
      obtain ⟨hi, hr₀⟩ := hidle
      obtain ⟨hs, hs', hb, hr, hstays⟩ := State.walkExpiry_of_rest hq (by rw [hi]; decide) (by rw [hi]; decide)
      have hat := hstays (by rw [hi]; decide)
      rw [hr₀, ite_self] at hr
      rw [hr, hat, hi, hstate]
      exact ⟨rfl, by decide, by decide, hb⟩

/-! ### A BRAKE_FAULT in RUN (R100, R134) -/

/-- A BRAKE_FAULT that the expiry raises in RUN is a stop request first, and the walk no longer steps. -/
theorem State.regulationExpiry_brakeFault (hload : s.loaded = true) (hrun : s.ctl.mode = .run)
    (hstep : s.walk.state = .stepping) (hraised : s.drive.brakeFaultRaised = false)
    (hbad : s.out.brakeSet ≠ s.meas.brakeFb.value) (hran : s.ran s.drive.disagreeTime 300 = true)
    (huse : s.alarmInUse = true) (hfree : s.RunIsFree) (htrip : s.hasCause .localTrip = !s.alarm.tripsNormal) :
    let t := s.regulationExpiry raw
    RaisedAmong s t .brakeFault (if s.out.brakeSet then 1 else 2) ∧ t.tripped
    ∧ (t.walk.state = .stopping ∨ ((t.walk.state = .halted ∨ t.walk.state = .forced) ∧ t.camsStopped)) := by
  have htrails := State.regulationExpiry_trails hwalk raw hdue
  have halerts := State.approached_alerts hwalk raw
  have hq := State.approached_is hwalk raw
  obtain ⟨hbefore, hlatched, hstands, hw⟩ :=
    State.approached_brakeFault hwalk raw hload hrun hraised hbad hran huse hfree htrip
  have hstopping : (s.approached raw).walk.state = .stopping := by
    rw [hw, WalkSequencer.stopped, hstep]
  have hmode := State.approached_mode hwalk raw (.inr hrun)
  have huse' : (s.approached raw).alarmInUse = true := (State.alarmInUse_of_straps halerts.straps).trans huse
  have hexpiry := State.walkExpiry_logs hq (.inr hstopping) hmode huse'
  have hbehind : Logs [.transferFail, .walkForcedStop, .camSkew, .captureFull] 5 (s.approached raw)
      (s.regulationExpiry raw) :=
    (hexpiry.mono (Nat.le_refl 4)).trans (htrails.logs.mono (Nat.le_refl 1))
  have htripped := (hbehind.stands hstands).tripped (hbehind.free (halerts.free hfree))
  refine ⟨.of_logs hbefore (by decide) ((hlatched.mono (Nat.le_refl 1)).trans hbehind) (by decide) (by decide),
    htripped, ?_⟩
  rw [State.camsStopped, htrails.walk, Outputs.brakeSet_of_lines htrails.lines]
  exact State.walkExpiry_of_stopping hq (.inr hstopping) hmode huse' hstopping

/-! ### A walk that moves (R132, R133, R135) -/

/-- The references of an expiry, the walk as it was before it (R132). -/
theorem State.referred_reference (hsame : (s.approached raw).walk = s.walk) :
    let t := s.regulationExpiry raw
    let r := (s.approached raw).referred
    let skew := skewOf t.meas.angleA t.meas.angleB
    let ramped := rampedBy s.walk.reference (256 * (s.targetIn t.walk.region : Int))
      (s.prm.stepOf s.prm.walkAcc) (s.prm.stepOf s.prm.walkDec)
    let trim : Int := if s.meas.homedA && s.meas.homedB && decide (2 ≤ (s.rosterOf .drag).length) then
        max (-(s.prm.skewTrimMax : Int)) (min s.prm.skewTrimMax ((skew * s.prm.skewGain).tdiv 100))
      else 0
    r.walk.reference = ramped ∧ (r.walk.left : Int) = max 0 (min 1000 (ramped.tdiv 256 - trim))
    ∧ (r.walk.right : Int) = max 0 (min 1000 (ramped.tdiv 256 + trim)) := by
  have hprm := State.approached_prm hwalk raw
  have hregion : (s.regulationExpiry raw).walk.region = (s.approached raw).judgeCams.walk.region :=
    congrArg Prod.fst (State.regulationExpiry_found hwalk hdue raw)
  have htarget : s.targetIn (s.regulationExpiry raw).walk.region = (s.approached raw).judgeCams.walkTarget := by
    rw [← State.targetIn_eq, hregion]
    have hstate : (s.approached raw).judgeCams.walk.state = s.walk.state := (congrArg WalkSequencer.state hsame :)
    have hphase : (s.approached raw).judgeCams.walk.phase = s.walk.phase := (congrArg WalkSequencer.phase hsame :)
    have hprm' : (s.approached raw).judgeCams.prm = s.prm := hprm
    unfold State.targetIn
    rw [hstate, hphase, hprm']
  have href : (s.approached raw).referred.walk.reference = rampedBy s.walk.reference
      (256 * (s.targetIn (s.regulationExpiry raw).walk.region : Int)) (s.prm.stepOf s.prm.walkAcc)
      (s.prm.stepOf s.prm.walkDec) := by
    have hform : (s.approached raw).referred.walk.reference = rampMove (s.approached raw).walk.reference
        (256 * ((s.approached raw).judgeCams.walkTarget : Int))
        (rampStep (s.approached raw).prm.walkAcc (s.approached raw).prm.regInterval)
        (rampStep (s.approached raw).prm.walkDec (s.approached raw).prm.regInterval) := rfl
    rw [hform, htarget, rampedBy_eq, hsame, hprm]
    rfl
  have htrim : (s.approached raw).judgeCams.skewTrim =
      if s.meas.homedA && s.meas.homedB && decide (2 ≤ (s.rosterOf .drag).length) then
        max (-(s.prm.skewTrimMax : Int)) (min s.prm.skewTrimMax
          (((s.approached raw).skew * s.prm.skewGain).tdiv 100))
      else 0 := by
    have hform : (s.approached raw).judgeCams.skewTrim = if (s.approached raw).camsHomed
        && decide (2 ≤ (s.approached raw).dragCount) then
          clamp (-((s.approached raw).prm.skewTrimMax : Int)) (s.approached raw).prm.skewTrimMax
            (((s.approached raw).skew * (s.approached raw).prm.skewGain).tdiv 100)
        else 0 := rfl
    rw [hform, State.approached_camsHomed hwalk, State.approached_drags hwalk, hprm,
      clamp_eq_max_min _ _ _ (by omega)]
  have hcam (x : Int) : (camReference x : Int) = max 0 (min 1000 x) := by
    rw [camReference, Int.toNat_of_nonneg (le_clamp _ _ _ (by decide)), clamp_eq_max_min _ _ _ (by decide)]
  dsimp only
  rw [State.regulationExpiry_skew hwalk hdue, ← htrim, ← href]
  exact ⟨rfl, hcam _, hcam _⟩

/-- CAM_SKEW is due for the walk sequencer exactly if it is for the judge at the end. -/
theorem State.referred_skewDue_iff (hsame : (s.approached raw).walk = s.walk)
    (hmoves : s.walk.state = .stepping ∨ s.walk.state = .stopping) : (s.approached raw).referred.skewDue ↔
      s.skewedAt (s.regulationExpiry raw) = true ∧ s.walk.skewRaised = false := by
  have hform : (s.approached raw).referred.skewDue ↔ (s.approached raw).walk.skewRaised = false
      ∧ (s.approached raw).walk.state.moves = true ∧ (s.approached raw).camsHomed = true
      ∧ 2 ≤ (s.approached raw).dragCount ∧ (s.approached raw).skewed = true := Iff.rfl
  rw [hform, hsame, State.skewedAt_iff hwalk hdue, WalkState.moves_iff]
  tauto

/-- The halt is due for the walk sequencer by the region and the reference that the end shows. -/
theorem State.referred_haltDue_iff (hsame : (s.approached raw).walk = s.walk) :
    (s.approached raw).referred.haltDue ↔ s.walk.state = .stopping ∧ s.walk.phase = some .ramp
      ∧ (s.regulationExpiry raw).walk.region ≠ some .carry ∧ (s.approached raw).referred.walk.reference = 0 := by
  have hregion : (s.regulationExpiry raw).walk.region = (s.approached raw).judgeCams.walk.region :=
    congrArg Prod.fst (State.regulationExpiry_found hwalk hdue raw)
  have hform : (s.approached raw).referred.haltDue ↔ (s.approached raw).walk.state = .stopping
      ∧ (s.approached raw).walk.phase = some .ramp ∧ (s.approached raw).judgeCams.walk.region ≠ some .carry
      ∧ (s.approached raw).referred.walk.reference = 0 := Iff.rfl
  rw [hform, hsame, hregion]

/-- A walk that moves, with no BRAKE_FAULT raised in RUN: forced by its skew, halted, or under way. -/
theorem State.regulationExpiry_moves (hsame : (s.approached raw).walk = s.walk)
    (hmode : s.ctl.mode = .hold ∨ s.ctl.mode = .run) (hmoves : s.walk.state = .stepping ∨ s.walk.state = .stopping)
    (huse : s.alarmInUse = true) : let t := s.regulationExpiry raw
    let r := (s.approached raw).referred
    let skew := skewOf t.meas.angleA t.meas.angleB
    if s.skewedAt t = true ∧ s.walk.skewRaised = false then
      RaisedAmong s t .camSkew skew ∧ t.walk.skewRaised = true ∧ t.ctl.mode = .stop
      ∧ t.walk.state = .forced ∧ t.walk.forced = ⟨false, false, true⟩ ∧ t.camsStopped
    else if s.walk.state = .stopping ∧ s.walk.phase = some .ramp ∧ t.walk.region ≠ some .carry
        ∧ r.walk.reference = 0 then
      t.walk.state = .halted ∧ t.walk.phase = none ∧ t.camsStopped
    else
      t.walk.state = s.walk.state
      ∧ t.walk.phase =
          (if s.walk.state = .stopping ∧ s.walk.phase ≠ none then
            (if t.walk.region = some .carry then some .creep else some .ramp)
          else s.walk.phase)
      ∧ t.walk.reference = r.walk.reference ∧ t.out.brakeSet = s.out.brakeSet
      ∧ t.walk.left = r.walk.left ∧ t.walk.right = r.walk.right := by
  have htrails := State.regulationExpiry_trails hwalk raw hdue
  have halerts := State.approached_alerts hwalk raw
  have hq := State.approached_is hwalk raw
  have hqmoves : (s.approached raw).walk.state = .stepping ∨ (s.approached raw).walk.state = .stopping := by
    rwa [hsame]
  have huse' : (s.approached raw).alarmInUse = true := (State.alarmInUse_of_straps halerts.straps).trans huse
  obtain ⟨hnow, -, -, -, hbrake⟩ := State.approached_keeps hwalk raw
  dsimp only
  have hskewDue := State.referred_skewDue_iff hwalk hdue raw hsame hmoves
  have hhaltDue := State.referred_haltDue_iff hwalk hdue raw hsame
  have hbrake' := Outputs.brakeSet_of_lines htrails.lines
  split
  · next h =>
    obtain ⟨hstop, hstate, hforced, hcams, hmark, hbehind⟩ :=
      State.walkExpiry_of_skewDue hq hqmoves (State.approached_mode hwalk raw hmode) huse' (hskewDue.mpr h)
    have hbefore : Logs [.brakeFault, .transferFail] 3 s
        ((s.approached raw).referred.modWalk fun w => { w with skewRaised := true }) :=
      (Logs.of_alerts halerts hnow).trans (s.approached raw).referred_marked_logs
    have hafter := (hbehind.mono (codes' := [.transferFail, .walkForcedStop, .captureFull]) (Nat.le_refl 3)).trans
      (htrails.logs.mono (Nat.le_refl 1))
    rw [State.regulationExpiry_skew hwalk hdue, State.camsStopped, hbrake', htrails.walk]
    exact ⟨.of_logs hbefore (by decide) hafter (by decide) (by decide), hmark, htrails.stop hstop, hstate, hforced,
      hcams⟩
  · next hcalm =>
    have hnotDue := mt hskewDue.mp hcalm
    split
    · next h =>
      rw [State.camsStopped, hbrake', htrails.walk]
      exact State.walkExpiry_of_haltDue hq hqmoves hnotDue (hhaltDue.mpr h)
    · next hway =>
      obtain ⟨hstate, hphase, href, hb, hleft, hright⟩ :=
        State.walkExpiry_of_under_way hq hqmoves hnotDue (mt hhaltDue.mp hway)
      have hregion : (s.regulationExpiry raw).walk.region = (s.approached raw).judgeCams.walk.region :=
        congrArg Prod.fst (State.regulationExpiry_found hwalk hdue raw)
      have hnext : (s.approached raw).referred.walk.nextPhase =
          if s.walk.state = .stopping ∧ s.walk.phase ≠ none then
            (if (s.regulationExpiry raw).walk.region = some .carry then some .creep else some .ramp)
          else s.walk.phase := by
        rw [← hsame, hregion]
        rfl
      rw [← hnext, hbrake', htrails.walk]
      exact ⟨hstate.trans (congrArg WalkSequencer.state hsame), hphase, href, hb.trans hbrake, hleft, hright⟩

end

/-- No stop request has reached the walk before the sequencer (R10, R100). -/
theorem State.approached_walk_of_quiet {s : State} (hwalk : s.is .walk = true) (raw : Analog)
    (h : s.ctl.mode = .hold ∨ s.drive.brakeFaultRaised = true ∨ s.ran s.drive.disagreeTime 300 = false) :
    (s.approached raw).walk = s.walk := by
  obtain hsame | ⟨hrun, hraised, hran, -⟩ := State.approached_walk hwalk raw
  · exact hsame
  · rcases h with h | h | h
    · exact absurd (h.symm.trans hrun) (by decide)
    · exact absurd (h.symm.trans hraised) (by decide)
    · exact absurd (h.symm.trans hran) (by decide)

/-- Settles O47: the inputs by the walk state, and the expiry by the survey, the sequencer and the rest. -/
theorem walkStops : Obligations.WalkStops := by
  unfold Obligations.WalkStops
  refine ⟨fun s hwalk hservice hstep => ⟨_, rfl, ?_⟩, fun s hwalk hservice htransfer => ⟨_, rfl, ?_⟩,
    fun s hwalk hservice htransfer => ⟨_, rfl, ?_⟩, fun s hwalk hservice hstep => ⟨_, rfl, ?_⟩,
    fun s hwalk hservice hstep htransfer => ⟨⟨_, rfl, ?_⟩, _, rfl, ?_⟩, fun s hwalk hservice => ⟨_, rfl, ?_⟩,
    fun s raw a hload ht hd hwalk => ⟨_, rfl, ?_⟩,
    fun s raw a hload ht hd hwalk hmode hmoves hquiet huse => ⟨_, rfl, ?_⟩,
    fun s raw a hload ht hd hwalk hrun hstep hraised hbad hran huse hfree htrip => ⟨_, rfl, ?_⟩,
    fun s raw a hload ht hd hwalk hraised huse => ⟨_, rfl, ?_⟩,
    fun s raw a hload ht hd hwalk hstep hstop => ⟨_, rfl, ?_⟩⟩
  · rw [State.walkCmdFalls_of_works (s := s.settleWalkCmd false) hwalk hservice,
      State.stopWalk_of_stepping (s := s.settleWalkCmd false) hstep]
    exact ⟨rfl, rfl, rfl, rfl, rfl⟩
  · rw [State.walkCmdFalls_of_works (s := s.settleWalkCmd false) hwalk hservice,
      State.stopWalk_of_transfer (s := s.settleWalkCmd false) hwalk htransfer]
    exact ⟨rfl, rfl, rfl, rfl, rfl⟩
  · rw [State.walkStopRises_of_works (s := s.settleWalkStop true) hwalk hservice,
      State.stopWalk_of_transfer (s := (s.settleWalkStop true).timesStop) hwalk htransfer]
    exact ⟨rfl, rfl, rfl, rfl, rfl⟩
  · rw [State.walkStopRises_of_works (s := s.settleWalkStop true) hwalk hservice,
      State.stopWalk_of_stepping (s := (s.settleWalkStop true).timesStop) hstep]
    exact ⟨rfl, rfl, rfl, rfl, rfl, rfl⟩
  · rw [State.walkStopRises_of_works (s := s.settleWalkStop true) hwalk hservice,
      State.stopWalk_of_other (s := (s.settleWalkStop true).timesStop) hstep htransfer]
    rfl
  · rw [State.walkCmdFalls_of_works (s := s.settleWalkCmd false) hwalk hservice,
      State.stopWalk_of_other (s := s.settleWalkCmd false) hstep htransfer]
    rfl
  · obtain ⟨hw, hreturned, hkept, hdrive, hlink⟩ :=
      State.walkStopFalls_spec (s := s.settleWalkStop false) hwalk hservice
    rw [hw]
    exact ⟨rfl, rfl, rfl, rfl, rfl, hreturned, hkept, hdrive, hlink⟩
  · exact State.regulationExpiry_judges hwalk (State.regulationDue_of_ran hload ht hd) raw
  · have hdue := State.regulationDue_of_ran hload ht hd
    have hsame := State.approached_walk_of_quiet hwalk raw hquiet
    have hmoved := State.regulationExpiry_moves hwalk hdue raw hsame hmode hmoves huse
    obtain ⟨href, hleft, hright⟩ := State.referred_reference hwalk hdue raw hsame
    dsimp only at href hleft hright hmoved ⊢
    rw [href] at hmoved
    split
    · next h => rwa [if_pos h] at hmoved
    · next h =>
      rw [if_neg h] at hmoved
      split
      · next hh => rwa [if_pos hh] at hmoved
      · next hh =>
        rw [if_neg hh] at hmoved
        obtain ⟨hstate, hphase, hreference, hbrake, hl, hr⟩ := hmoved
        exact ⟨hstate, hphase, hreference, hbrake, hl ▸ hleft, hr ▸ hright⟩
  · exact State.regulationExpiry_brakeFault hwalk (State.regulationDue_of_ran hload ht hd) raw hload hrun hstep hraised
      hbad hran huse hfree htrip
  · exact State.regulationExpiry_unskews hwalk (State.regulationDue_of_ran hload ht hd) raw hraised huse
  · exact State.regulationExpiry_rests hwalk (State.regulationDue_of_ran hload ht hd) raw hstep hstop

end Sys2Proof.Machine
end
